-- ==== Sys2Proof/Word.lean ====
section
/-! DEFINITION. The byte of the links and of the store, and two-byte fields (12_formats.md: most significant byte first). -/

namespace Sys2Proof

/-- One byte as a link or the store carries it. -/
abbrev Byte := BitVec 8

/-- A two-byte field as a request carries it. -/
abbrev Half := BitVec 16

/-- The byte that carries the value `n` (its low eight bits). -/
def byteOf (n : Nat) : Byte := BitVec.ofNat 8 n

/-- The value of a two-byte field, most significant byte first (12_formats.md). -/
def be16 (hi lo : Byte) : Nat := hi.toNat * 256 + lo.toNat

/-- The two bytes of a value, most significant byte first (12_formats.md). -/
def bytes16 (n : Nat) : List Byte := [byteOf (n / 256), byteOf n]

/-- A flag as a byte: clear or no 0, set or yes 1 (12_formats.md, 12.1). -/
def flagByte (b : Bool) : Byte := if b then 1#8 else 0#8

end Sys2Proof
end

