-- ==== Sys2Proof/Config.lean ====
section
/-! DEFINITION. The numbers the manual fixes for every T32. It fixes them all: no constant here is left to an implementation,
and the manual leaves no value free, so no opaque constant stands here. -/

namespace Sys2Proof.Config

/-- Cells of a tile (R1). -/
def cellCount : Nat := 3072
/-- Dies of a tile (R1, R33). -/
def dieCount : Nat := 6144
/-- Channel positions of one driver chain (R3). -/
def channelCount : Nat := 768
/-- Entries of one edge's content (R100). -/
def edgeEntryCount : Nat := 96
/-- The largest video and drive value (R21, R84). -/
def maxValue : Nat := 4095
/-- The fixed drive value of a probe (R9). -/
def probeValue : Nat := 512
/-- The floor under which a sense result is no observation (R35). -/
def observationFloor : Nat := 256
/-- Faulty entries of a chain half from which on it is a sense anomaly (R41). -/
def anomalyThreshold : Nat := 64
/-- Anomalous periods that raise the tile notice (R42). -/
def anomalyRunLimit : Nat := 8
/-- Good frame periods that clear the blank flag (R12). -/
def goodRunLimit : Nat := 16
/-- Synthetic boundaries of HOLDING before DARK (R25). -/
def holdingLimit : Nat := 30
/-- The saturating unobserved age (R38). -/
def maxAge : Nat := 4095
/-- The age from which the sweep takes a driven die (R45). -/
def sweepAge : Nat := 1024
/-- The largest strike (R33). -/
def maxStrike : Nat := 15
/-- The strike from which a die is FAILED (R34). -/
def failStrike : Nat := 8
/-- Places of the probe request list (R43). -/
def probeListSize : Nat := 8
/-- Places of the probe plan (R44). -/
def probePlanSize : Nat := 4
/-- The smallest and the largest spare gain (R54, R55). -/
def minGain : Nat := 128
def maxGain : Nat := 511
/-- A gain of exactly one (R82, R140). -/
def unitGain : Nat := 256
/-- The concealment strength when no settings record gives one (R111, R142). -/
def defaultK : Nat := 192
/-- The cap of a boost sum (R95). -/
def maxBsum : Nat := 512
/-- Boundaries between two refreshes of the edge notices (R103). -/
def refreshPeriod : Nat := 512
/-- The age at which a far-edge record expires (R107). -/
def farEdgeLimit : Nat := 2048
/-- Boundaries between two LOAD announcements (R112). -/
def announcePeriod : Nat := 16
/-- The age at which a peer entry is removed (R116). -/
def peerAgeLimit : Nat := 64
/-- The largest frame load (R86). -/
def maxLoad : Nat := 3071
/-- The largest cabinet limit (R120). -/
def maxLimit : Nat := 49136
/-- The governor factor at reset and at its top (R118, R123). -/
def fullFactor : Nat := 256
/-- Read-back mismatches in a row that bring CLASH (R130). -/
def mismatchLimit : Nat := 3
/-- Bytes of the longest seam frame (R125). -/
def maxFrameBytes : Nat := 125
/-- The station number that addresses all stations (R127). -/
def allStations : Nat := 31
/-- Places of the report queue (R163). -/
def reportQueueSize : Nat := 32
/-- The longest list of one LIST FAULTS reply (R158). -/
def listFaultsSize : Nat := 12
/-- The supply level above which the hold of RESET ends, in mV (R167). -/
def releaseMv : Nat := 4100
/-- The supply level above which the supply state is OK, in mV (R173). -/
def supplyOkMv : Nat := 4500
/-- One bit time of the pixel link, in ns (12.6: 50 Mbit/s). -/
def linkBitNs : Nat := 20
/-- Time at the stop level after which the pixel link is idle, in ns (R19). -/
def linkIdleNs : Nat := 1000
/-- Bytes of the longest pixel-link record: a kind, 3,072 value fields and a check (12.3). -/
def recordBytes : Nat := 6147
/-- Bit time of the seam bus, in ns (R124). -/
def bitNs : Nat := 2000
/-- Shortest dominant pulse that the line filter lets through, in ns (R124). -/
def glitchNs : Nat := 1000
/-- Shortest assertion of the reset pin that is taken, in µs (R167). -/
def resetPinUs : Nat := 10
/-- Shortest high pulse of the READY line that is taken, in µs (R171). -/
def readyHighUs : Nat := 10
/-- Recessive time that makes the seam line idle, in µs (R125). -/
def seamIdleUs : Nat := 24
/-- Dominant time that makes a break, in µs (R125). -/
def breakUs : Nat := 1000

end Sys2Proof.Config
end

