-- ==== Sys2Proof/Syntax.lean ====
section
/-! DEFINITION. The commands of the T32: one constructor of `Instr` for each row of spec/opcode_table.json, with the operands the
row's rule names. A command is one whole event of the part: a line or pin event, the expiry or completion of something under way,
or a frame the part hears. -/

namespace Sys2Proof

/-- The frame-rate strap (R32). -/
inductive FrameRate | hz50 | hz60 | hz100 | hz120
  deriving DecidableEq, Repr

/-- The strap pins as levels (R169): column and row 0 to 3, width and height 1 to 4 (held less one), the frame rate. -/
structure Straps where
  x : Fin 4
  y : Fin 4
  widthLess1 : Fin 4
  heightLess1 : Fin 4
  rate : FrameRate
  deriving DecidableEq, Repr

/-- What the tile finds on its pins in an event in which a start may begin: the straps (R169), whether the reset pin is asserted
(R167), the supply in mV (R167, R173), and whether data is already under way on the pixel link (R19, R31). -/
structure Pins where
  straps : Straps
  resetPin : Bool
  supplyMv : Nat
  linkBusy : Bool
  deriving DecidableEq, Repr

/-- The two levels of a serial line: that of a start bit, and that of a stop bit and of an idle line. On the seam line they are dominant,
when any station drives it low, and recessive, when none does (R124); on the pixel link recessive is the stop level (R19, 12.6). -/
inductive Level | dominant | recessive
  deriving DecidableEq, Repr

/-- A stretch of the seam line or the pixel link at one level, with its length in ns (R124, R19). Two stretches of one level may follow
each other. -/
structure LineRun where
  level : Level
  ns : Nat
  deriving DecidableEq, Repr

/-- What a driver measures on one channel (R7): the die conducts, no current path, or no forward voltage. The fourth result, OFF,
is the Scan Engine's for a channel driven at 0. -/
inductive Measure | ok | openPath | shortPath
  deriving DecidableEq, Repr

/-- How the follow-on events of a boundary are taken (log entry 1): `within` the boundary's event, as their rules say, or `apart`,
each left due for its own row of the command table. The entry into DARK is no such event: R25 fixes it to the expiry's own. -/
inductive Taking | within | apart
  deriving DecidableEq, Repr

/-- A cell field of a request as it stands on the line (12.4.1): a form byte and three more bytes. -/
structure CellField where
  form : Byte
  b1 : Byte
  b2 : Byte
  b3 : Byte
  deriving DecidableEq, Repr

/-- The commands: the rows of spec/opcode_table.json. A frame the tile hears carries its source station and its target byte; a
held level carries how long it has been held, in µs. -/
inductive Instr
  /-- POWER_ON (R167) -/
  | powerOn
  /-- PIN_RESET (R167): the pin has been asserted for `heldUs` µs -/
  | pinReset (heldUs : Nat)
  /-- SUPPLY_FAIL (R173) -/
  | supplyFail
  /-- START_BEGIN (R167, R169): what the pins show when a condition of RESET clears -/
  | startBegin (pins : Pins)
  /-- LOAD_COMPLETE (R143) -/
  | loadComplete
  /-- CHAIN_CHECK_COMPLETE (R14): whether the marker came back intact on chain P and on chain S -/
  | chainCheckComplete (markerP markerS : Bool)
  /-- READY_LINE_HIGH (R171): the line has read high for `highUs` µs -/
  | readyLineHigh (highUs : Nat)
  /-- READY_TIMEOUT (R171) -/
  | readyTimeout
  /-- SUPPLY_LOW (R173) -/
  | supplyLow
  /-- SUPPLY_OK (R173) -/
  | supplyOk
  /-- RECORD_END (R19, R20): the levels the pixel link has shown, from between two units of data on; the data and the 1 µs at the stop
  level that ends the record are read from them -/
  | recordEnd (link : List LineRun) (taking : Taking)
  /-- INTERVAL_TIMER_EXPIRY (R24) -/
  | intervalTimerExpiry (taking : Taking)
  /-- DARK_ENTRY (R25) -/
  | darkEntry
  /-- SHIFT_COMPLETE (R6): whether each chain's marker came back intact -/
  | shiftComplete (markerP markerS : Bool)
  /-- BLANK_FLAG_CLEAR (R12) -/
  | blankFlagClear
  /-- OBSERVE_END (R7): what the drivers of the two chains measured, by channel position -/
  | observeEnd (chainP chainS : Vector Measure Config.channelCount)
  /-- REFRESH_POSITION_END (R5) -/
  | refreshPositionEnd
  /-- PROBE_END (R9): what the driver measured on the probed die -/
  | probeEnd (result : Measure)
  /-- ANOMALY_RUN_NOTICE (R42) -/
  | anomalyRunNotice
  /-- REBUILD_COMPLETE (R96) -/
  | rebuildComplete
  /-- ANNOUNCEMENT_DUE (R112) -/
  | announcementDue
  /-- PEER_ENTRY_EXPIRY (R116) -/
  | peerEntryExpiry
  /-- FAR_EDGE_EXPIRY (R107) -/
  | farEdgeExpiry
  /-- EDGE_REFRESH (R103) -/
  | edgeRefresh
  /-- LINE_IDLE (R125): the line has been recessive for `recessiveUs` µs -/
  | lineIdle (recessiveUs : Nat)
  /-- FRAMING_ERROR (R125) -/
  | framingError
  /-- SEAM_FRAME_END (R127): the line since the receive buffer was last added to, up to the 24 µs of idle that end the frame -/
  | seamFrameEnd (line : List LineRun)
  /-- BREAK (R126): the line has been dominant for `dominantUs` µs -/
  | breakSeen (dominantUs : Nat)
  /-- CONTENTION_START (R128): a falling edge, and how long the line then stays dominant, in ns; a start bit's 2 µs unless another
  length is given (R124) -/
  | contentionStart (dominantNs : Nat := 2000)
  /-- ARBITRATION_LOSS (R129) -/
  | arbitrationLoss
  /-- READBACK_ABORT (R130) -/
  | readbackAbort
  /-- FRAME_COMPLETE (R131); the pins are read only when a RESTART begins a start in the event -/
  | frameComplete (pins : Pins)
  /-- EDGE_NOTICE (R105): an EDGE frame with this body -/
  | edgeNotice (source : Nat) (target : Byte) (body : List Byte)
  /-- LOAD_FRAME (R115): a LOAD frame with this body -/
  | loadFrame (source : Nat) (target : Byte) (body : List Byte)
  /-- STATUS (R157) -/
  | status (source : Nat) (target : Byte)
  /-- READ_CELL (R158) -/
  | readCell (source : Nat) (target : Byte) (cell : CellField)
  /-- LIST_FAULTS (R158) -/
  | listFaults (source : Nat) (target : Byte) (start : Half)
  /-- FORCE (R62): cell, target code, clear flag byte -/
  | force (source : Nat) (target : Byte) (cell : CellField) (code : Byte) (clear : Byte)
  /-- RELEASE (R66) -/
  | release (source : Nat) (target : Byte) (cell : CellField)
  /-- SET_GAIN (R67): cell, mode byte (0 gives a code, any other value clears), code -/
  | setGain (source : Nat) (target : Byte) (cell : CellField) (mode : Byte) (code : Half)
  /-- PROBE (R43) -/
  | probe (source : Nat) (target : Byte) (cell : CellField)
  /-- SET_CONCEAL (R159) -/
  | setConceal (source : Nat) (target : Byte) (k : Byte)
  /-- SET_LIMIT (R120) -/
  | setLimit (source : Nat) (target : Byte) (limit : Half)
  /-- COMMIT (R161) -/
  | commit (source : Nat) (target : Byte)
  /-- RESTART (R162) -/
  | restart (source : Nat) (target : Byte)
  /-- RESTART_WAIT_EXPIRY (R162); the pins are read only when the start begins in the event -/
  | restartWaitExpiry (pins : Pins)
  /-- WRITE_COMPLETE (R148); the pins are read only when a held RESTART begins its start in the event -/
  | writeComplete (pins : Pins)
  /-- WRITE_TIMEOUT (R150); the pins are read only when a held RESTART begins its start in the event -/
  | writeTimeout (pins : Pins)
  /-- ARBITRATION_WON (R129) -/
  | arbitrationWon
  deriving DecidableEq, Repr

end Sys2Proof
end

