-- ==== Sys2Proof/Decode.lean ====
section
/-! DEFINITION. The reader of table words. spec/opcode_table.json gives no row any bits (every row's "fields" is empty and none has
"fixed"): its rows are events of a block, not words of a program. So no word spells a command. The byte layouts of the frames that
carry requests (12_formats.md) are read by Sys2Proof/Machine/Formats.lean and Operands.lean, from the bytes of SEAM_FRAME_END. -/

namespace Sys2Proof

/-- The command a word of the table spells: none, since no row of the table has bits. -/
def decodeTableWord (_nbits _w : Nat) : Option Instr := none

end Sys2Proof
end

