-- ==== Sys2Proof/Machine/State.lean ====
section
/-! DEFINITION. What the T32 holds: one structure for each of the eleven blocks of 00_scope.md section 3, the queue of waiting
commands, the reasons a step can stop, and the state right after a POWER_ON reset. INVENTORY.md lists every field with its rule. -/

namespace Sys2Proof.Machine

/-! ## Supervisor (11_start_up_and_supply_supervision.md) -/

/-- Supervisor states (R169 to R172). -/
inductive SupState | reset | loading | chainCheck | readyWait | running
  deriving DecidableEq, Repr

/-- Reset causes (R167). -/
inductive ResetCause | powerOn | pin | supply | restart
  deriving DecidableEq, Repr

/-- Supply states (R173). -/
inductive SupplyState | ok | low
  deriving DecidableEq, Repr

/-- The start findings (R174). TORN_SLOTS is present when its count is above 0. -/
structure Findings where
  strapFault : Bool
  factoryFault : Bool
  settingsDefaulted : Bool
  tornSlots : Nat
  chainFault : Bool
  readyTimeout : Bool
  deriving DecidableEq, Repr

/-- The Supervisor's state (11.1). -/
structure Supervisor where
  state : SupState
  cause : ResetCause
  straps : Straps
  findings : Findings
  /-- the READY timer runs (R171) -/
  readyTimer : Bool
  /-- the tile drives the READY line low (R171) -/
  readyLow : Bool
  supply : SupplyState
  /-- the reset pin is asserted, which holds the tile in RESET (R167, R168) -/
  pinAsserted : Bool
  /-- the supply has not risen above 4.1 V since it fell below 4.0 V or came up from off, which holds the tile in RESET
  (R167, R168) -/
  supplyHeld : Bool
  deriving DecidableEq, Repr

/-! ## Pixel Link Receiver (02_pixel_link_and_frame_timing.md) -/

/-- Link states (R23). -/
inductive LinkState | search | locked | holding | dark
  deriving DecidableEq, Repr

/-- The interval timer (R24): stopped, or running to T or to 1.5 T after the event that set it. -/
inductive IntervalTimer | stopped | oneT | oneAndHalfT
  deriving DecidableEq, Repr

/-- The receiver's state (2.1, R31). -/
structure PixelRx where
  /-- the receiver has been started since the last reset (R31) -/
  started : Bool
  link : LinkState
  /-- the values of the last accepted frame, by cell index -/
  frameStore : Vector Nat Config.cellCount
  /-- the bytes of the record now arriving (R19), up to one more than the longest record has -/
  buffer : List Byte
  /-- what now arrives is discarded: the tail of a record the receiver did not see from its start (R19), or data behind a unit without
  its stop bit (log entry 29) -/
  inTail : Bool
  timer : IntervalTimer
  holding : Nat
  /-- the interval T, by its strap value (R32) -/
  interval : FrameRate
  deriving DecidableEq, Repr

/-! ## Scan Engine (01_cell_array_addressing_and_the_drive_scan.md) -/

/-- The positions that light something (1.2). -/
inductive LitPos
  | observe (phase : Fin 4)
  | probe (n : Nat)
  | refresh (phase : Fin 4)
  deriving DecidableEq, Repr

/-- Scan positions (1.2). In a gap the shift for the position named is under way (R5). A position whose marker failed runs
unlit (R6). -/
inductive ScanPos
  | idle
  | check
  | gap (next : LitPos)
  | run (position : LitPos) (lit : Bool)
  deriving DecidableEq, Repr

/-- Frame marker status (1.5). -/
inductive MarkerStatus | none | good | failed
  deriving DecidableEq, Repr

/-- The Scan Engine's state (1.5, R4, R9, R16). -/
structure Scan where
  position : ScanPos
  /-- the frame's channel values of chain P and of chain S, by cell index (R4) -/
  chanP : Vector Nat Config.cellCount
  chanS : Vector Nat Config.cellCount
  blank : Bool
  marker : MarkerStatus
  runCount : Nat
  /-- the blank flag was set at some moment since the present position's shift began (R7) -/
  seenBlank : Bool
  /-- the dies returned for this probe slot that have not ended, the one in hand first (R9) -/
  slot : List Nat
  deriving DecidableEq, Repr

/-! ## Health Monitor (03_die_observation_and_health.md) -/

/-- Die healths (R33). -/
inductive Health | good | suspect | failedOpen | failedShort
  deriving DecidableEq, Repr

/-- Last probe outcomes (R33). -/
inductive ProbeOutcome | none | ok | openPath | shortPath
  deriving DecidableEq, Repr

/-- A die record (R33). -/
structure DieRec where
  health : Health
  strike : Nat
  age : Nat
  lastProbe : ProbeOutcome
  deriving DecidableEq, Repr

/-- An entry of the probe request list (R43). -/
structure ProbeReq where
  cell : Nat
  primaryDone : Bool
  spareDone : Bool
  deriving DecidableEq, Repr

/-- Period findings (R42). -/
inductive PeriodFindings | neither | clean | anomalous
  deriving DecidableEq, Repr

/-- The Health Monitor's state (3.1). -/
structure HealthMon where
  dies : Vector DieRec Config.dieCount
  /-- the probe request list, oldest first -/
  requests : List ProbeReq
  cursor : Nat
  /-- the probe plan, in slot order -/
  plan : List Nat
  findings : PeriodFindings
  anomalyRun : Nat
  /-- THE MODEL'S OWN (log entry 1): the run has reached 8 at a boundary and its notice has not been taken -/
  anomalyDue : Bool
  deriving DecidableEq, Repr

/-! ## Map Controller (04_the_substitution_map.md) -/

/-- Cell states (R54). -/
inductive CellState | primary | spare | hole
  deriving DecidableEq, Repr

/-- A cell record (R54). -/
structure CellRec where
  state : CellState
  forced : Bool
  gain : Option Nat
  deriving DecidableEq, Repr

/-- The Map Controller's state (R54). -/
structure MapCtl where
  cells : Vector CellRec Config.cellCount
  /-- the copies of the factory spare gains -/
  factoryGain : Vector Nat Config.cellCount
  deriving DecidableEq, Repr

/-! ## Drive Value Unit (05_drive_value_computation.md) -/

/-- The Drive Value Unit's figures (5.1). -/
structure Drive where
  clip : Nat
  load : Nat
  peak : Nat
  deriving DecidableEq, Repr

/-! ## Concealment Unit (06_concealment_and_edge_exchange.md) -/

/-- The four edges (R1). -/
inductive Edge | left | right | top | bottom
  deriving DecidableEq, Repr

/-- One value for each edge. -/
structure PerEdge (α : Type) where
  left : α
  right : α
  top : α
  bottom : α
  deriving DecidableEq, Repr

/-- An entry of a concealment table (R92). -/
inductive Entry
  | hole (share : Nat)
  | lit (bsum : Nat)
  deriving DecidableEq, Repr

/-- An entry of an edge's content (R100). -/
inductive EdgeEntry
  | working
  | hole (share : Nat)
  deriving DecidableEq, Repr

/-- The content of an edge (R100): entry position × 3 + colour. -/
abbrev EdgeContent := Vector EdgeEntry Config.edgeEntryCount

/-- A far-edge record (R104). -/
structure FarEdge where
  present : Bool
  source : Option Nat
  valid : Bool
  age : Nat
  entries : EdgeContent
  deriving DecidableEq, Repr

/-- What a rebuild works from (R97). -/
structure Snapshot where
  holes : Vector Bool Config.cellCount
  far : PerEdge FarEdge
  k : Nat
  deriving DecidableEq, Repr

/-- The rebuild state (R96), with the snapshot of a rebuild that runs. -/
inductive Rebuild
  | idle
  | running (snapshot : Snapshot)
  | complete
  deriving DecidableEq, Repr

/-- The Concealment Unit's state (6.1). -/
structure Conceal where
  active : Vector Entry Config.cellCount
  shadow : Vector Entry Config.cellCount
  rebuild : Rebuild
  rerun : Bool
  k : Nat
  far : PerEdge FarEdge
  lastSent : PerEdge (Option EdgeContent)
  refresh : Nat
  mismatch : Bool
  deriving DecidableEq, Repr

/-! ## Load Governor (07_cabinet_load_sharing.md) -/

/-- An entry of the peer load list (R115). -/
structure Peer where
  station : Nat
  load : Nat
  age : Nat
  deriving DecidableEq, Repr

/-- The Load Governor's state (7.1). -/
structure Governor where
  peers : List Peer
  /-- the governor factor S -/
  factor : Nat
  overFlag : Bool
  /-- the estimate E -/
  estimate : Nat
  /-- the cabinet limit C_lim -/
  limit : Nat
  counter : Nat
  carried : Option Nat
  deriving DecidableEq, Repr

/-! ## Seam Link Controller (08_the_seam_bus.md) -/

/-- Receive states (R125). -/
inductive RecvState | off | waitIdle | idle | inFrame
  deriving DecidableEq, Repr

/-- Transmit states (R128). -/
inductive TxState | quiet | contending | sending
  deriving DecidableEq, Repr

/-- The nine sorts of pending item (R133). -/
inductive Item
  | edge (e : Edge)
  | load
  | longReply
  | immediateReply
  | tileNotice
  | reportHead
  deriving DecidableEq, Repr

/-- The pending set: at most one item of each sort (R133). An item is composed when a bank holds its frame, else waiting. -/
structure PendingSet where
  edges : PerEdge Bool
  load : Bool
  longReply : Bool
  immediateReply : Bool
  tileNotice : Bool
  reportHead : Bool
  deriving DecidableEq, Repr

/-- A composed frame (R135): its item, the edge content it carries if it is an EDGE, and all its bytes. -/
structure Composed where
  item : Item
  content : Option EdgeContent
  bytes : List Byte
  deriving DecidableEq, Repr

/-- The Seam Link Controller's state (8.1). -/
structure Seam where
  own : Nat
  recv : RecvState
  buffer : List Byte
  /-- bytes heard of the frame, stored or not (R125) -/
  count : Nat
  items : PendingSet
  /-- the line bank and the next bank (R134) -/
  lineBank : Option Composed
  nextBank : Option Composed
  tx : TxState
  mismatches : Nat
  clash : Bool
  /-- the frame now ending on the line is one the tile has sent to completion (R125, R131) -/
  ownSent : Bool
  deriving DecidableEq, Repr

/-! ## Map Store (09_the_map_store.md, 12_formats.md 12.5) -/

/-- The bytes of a factory record. -/
structure FactoryBytes where
  primary : Byte
  spare : Byte
  gainHi : Byte
  gainLo : Byte
  deriving DecidableEq, Repr

/-- The bytes of a field slot. -/
structure SlotBytes where
  state : Byte
  forced : Byte
  primary : Byte
  spare : Byte
  gainHi : Byte
  gainLo : Byte
  checkHi : Byte
  checkLo : Byte
  deriving DecidableEq, Repr

/-- The bytes of the settings record. -/
structure SettingsBytes where
  k : Byte
  limitHi : Byte
  limitLo : Byte
  checkHi : Byte
  checkLo : Byte
  deriving DecidableEq, Repr

/-- A rewritable record of the field region: its bytes, or given up by a write that has not completed, which leaves bytes that are
neither all 255 nor a record whose check agrees (R141, R177). -/
inductive Stored (α : Type)
  | bytes (b : α)
  | cut
  deriving DecidableEq, Repr

/-- Store states (R145). -/
inductive StoreState | idle | writing | faulted
  deriving DecidableEq, Repr

/-- A write in flight with its snapshot (R146). -/
inductive WriteJob
  | settings (b : SettingsBytes)
  | cell (i : Nat) (b : SlotBytes)
  deriving DecidableEq, Repr

/-- The Map Store's state (9.1). The dirty count is the number of marks set and is computed from them. -/
structure Store where
  factory : Vector FactoryBytes Config.cellCount
  factoryCheckHi : Byte
  factoryCheckLo : Byte
  slots : Vector (Stored SlotBytes) Config.cellCount
  settings : Stored SettingsBytes
  dirty : Vector Bool Config.cellCount
  settingsDirty : Bool
  state : StoreState
  inFlight : Option WriteJob
  cursor : Nat
  restartHold : Bool
  deriving DecidableEq, Repr

/-! ## Service Port (10_requests_and_reports.md) -/

/-- Results of a reply (R156). -/
inductive ReplyResult
  | done | busy | notReady | badTarget | badCell | badValue | dieFailed | queueFull | supplyLow | storeFault
  deriving DecidableEq, Repr

/-- What a reply's body is to hold; the three records are taken when the reply is composed (R156 to R158). -/
inductive ReplyBody
  | empty
  | status
  | cell (i : Nat)
  | faults (start : Nat)
  | value8 (v : Nat)
  | value16 (v : Nat)
  deriving DecidableEq, Repr

/-- A reply in its slot (R156); `fixed` is its whole body once it has been composed. -/
structure Reply where
  station : Nat
  kind : Byte
  result : ReplyResult
  residual : Nat
  body : ReplyBody
  fixed : Option (List Byte)
  deriving DecidableEq, Repr

/-- The two long requests (R160). -/
inductive LongKind | commit | restart
  deriving DecidableEq, Repr

/-- Phases of a long request (R161, R162). -/
inductive LongPhase | executing | replying
  deriving DecidableEq, Repr

/-- The long request in execution (R160). -/
structure LongReq where
  kind : LongKind
  source : Nat
  phase : LongPhase
  deriving DecidableEq, Repr

/-- Causes of a cell event (R60, R164). -/
inductive Cause | autoOpen | autoShort | spareLost | forced | released | gainSet | refill
  deriving DecidableEq, Repr

/-- An entry of the report queue (R163), with its updated mark. -/
structure Report where
  cell : Nat
  state : CellState
  primary : Health
  spare : Health
  cause : Cause
  updated : Bool
  deriving DecidableEq, Repr

/-- The Service Port's state (10.1). -/
structure Port where
  immediate : Option Reply
  long : Option Reply
  request : Option LongReq
  /-- the report queue, oldest first -/
  queue : List Report
  /-- the report-pending marks -/
  marks : Vector Bool Config.cellCount
  refillCursor : Nat
  notice : Bool
  reraise : Bool
  deriving DecidableEq, Repr

/-! ## The whole tile -/

/-- The tile, and the queue of commands that wait, first in first out. -/
structure State where
  sup : Supervisor
  rx : PixelRx
  scan : Scan
  health : HealthMon
  map : MapCtl
  drive : Drive
  conceal : Conceal
  gov : Governor
  seam : Seam
  store : Store
  port : Port
  pending : List Instr
  deriving DecidableEq, Repr

/-- A command that stops the tile. The manual names none: every row has an effect in every state, so no constructor stands here.
Safe: no run ends in a fault. -/
inductive Fault
  deriving DecidableEq, Repr

/-- A command without a meaning. -/
inductive Refusal
  /-- raised only by an arm of `exec` whose row has no meaning yet (no arm is left so); safe: the model stops where the tile
  goes on -/
  | notModelled (mnemonic : String)
  deriving DecidableEq, Repr

/-- What a command answers. -/
abbrev Answer := Host.Outcome State Fault Refusal

/-! ## Reset -/

/-- A die record before the load, and of a die loaded GOOD (R53; before the load a DESIGN CHOICE, log entry 2). -/
def DieRec.fresh : DieRec := ⟨.good, 0, 0, .none⟩

/-- A cell record before the load, and of a cell without a field slot (R75; before the load a DESIGN CHOICE, log entry 2). -/
def CellRec.fresh : CellRec := ⟨.primary, false, none⟩

/-- A far-edge record before the straps are read: INVALID (R111); its presence, source and entries a DESIGN CHOICE
(log entry 4). -/
def FarEdge.unknown : FarEdge := ⟨false, none, false, 0, Vector.replicate _ .working⟩

/-- The same value for every edge. -/
def PerEdge.all {α : Type} (a : α) : PerEdge α := ⟨a, a, a, a⟩

/-- No finding (R174). -/
def Findings.none : Findings := ⟨false, false, false, 0, false, false⟩

/-- Straps before the first strap read (DESIGN CHOICE, log entry 3). -/
def Straps.unread : Straps := ⟨0, 0, 0, 0, .hz60⟩

/-- The Supervisor in RESET after a POWER_ON reset (R167, R174), held until the supply is above 4.1 V; supply LOW is DEDUCED (log
entry 5), and the reset pin released a DESIGN CHOICE (log entry 20). -/
def Supervisor.reset : Supervisor := ⟨.reset, .powerOn, Straps.unread, Findings.none, false, true, .low, false, true⟩

/-- R31. -/
def PixelRx.reset : PixelRx := ⟨false, .search, Vector.replicate _ 0, [], false, .stopped, 0, .hz60⟩

/-- R16. -/
def Scan.reset : Scan := ⟨.idle, Vector.replicate _ 0, Vector.replicate _ 0, false, .none, 0, false, []⟩

/-- R52. -/
def HealthMon.reset : HealthMon := ⟨Vector.replicate _ DieRec.fresh, [], 0, [], .neither, 0, false⟩

/-- R77. -/
def MapCtl.reset : MapCtl := ⟨Vector.replicate _ CellRec.fresh, Vector.replicate _ Config.unitGain⟩

/-- R91. -/
def Drive.reset : Drive := ⟨0, 0, 0⟩

/-- R111. -/
def Conceal.reset : Conceal :=
  ⟨Vector.replicate _ (.lit 0), Vector.replicate _ (.lit 0), .idle, false, Config.defaultK, PerEdge.all FarEdge.unknown,
    PerEdge.all none, 0, false⟩

/-- R123. -/
def Governor.reset : Governor := ⟨[], Config.fullFactor, false, 0, 0, 0, none⟩

/-- No item pending (R138). -/
def PendingSet.empty : PendingSet := ⟨PerEdge.all false, false, false, false, false, false⟩

/-- R138; the own station before the straps are read is a DESIGN CHOICE (log entry 3). -/
def Seam.reset : Seam := ⟨0, .off, [], 0, PendingSet.empty, none, none, .quiet, 0, false, false⟩

/-- A factory record with both dies GOOD and a gain of one (DESIGN CHOICE, log entry 6). -/
def FactoryBytes.plain : FactoryBytes := ⟨0#8, 0#8, 1#8, 0#8⟩

/-- A blank field slot: every byte 255 (R177). -/
def SlotBytes.blank : SlotBytes := ⟨255#8, 255#8, 255#8, 255#8, 255#8, 255#8, 255#8, 255#8⟩

/-- A blank settings record: every byte 255 (R177). -/
def SettingsBytes.blank : SettingsBytes := ⟨255#8, 255#8, 255#8, 255#8, 255#8⟩

/-- R154. The two regions are those of a tile as built: 3,072 plain factory records with the region check that agrees with them
(47,955, bytes 187 and 83), and a field region never written (DESIGN CHOICE, log entry 6). -/
def Store.reset : Store :=
  ⟨Vector.replicate _ FactoryBytes.plain, 187#8, 83#8, Vector.replicate _ (.bytes SlotBytes.blank), .bytes SettingsBytes.blank,
    Vector.replicate _ false, false, .idle, none, 0, false⟩

/-- R166. -/
def Port.reset : Port := ⟨none, none, none, [], Vector.replicate _ false, 0, false, false⟩

/-- The tile right after a POWER_ON reset (R167), held in RESET, with no command waiting. -/
def State.reset : State :=
  ⟨Supervisor.reset, PixelRx.reset, Scan.reset, HealthMon.reset, MapCtl.reset, Drive.reset, Conceal.reset, Governor.reset,
    Seam.reset, Store.reset, Port.reset, []⟩

/-! ## One update for each block -/

def State.setSup (s : State) (b : Supervisor) : State := { s with sup := b }
def State.setRx (s : State) (b : PixelRx) : State := { s with rx := b }
def State.setScan (s : State) (b : Scan) : State := { s with scan := b }
def State.setHealth (s : State) (b : HealthMon) : State := { s with health := b }
def State.setMap (s : State) (b : MapCtl) : State := { s with map := b }
def State.setDrive (s : State) (b : Drive) : State := { s with drive := b }
def State.setConceal (s : State) (b : Conceal) : State := { s with conceal := b }
def State.setGov (s : State) (b : Governor) : State := { s with gov := b }
def State.setSeam (s : State) (b : Seam) : State := { s with seam := b }
def State.setStore (s : State) (b : Store) : State := { s with store := b }
def State.setPort (s : State) (b : Port) : State := { s with port := b }

end Sys2Proof.Machine
end

