-- ==== Sys2Proof/Machine/Tables.lean ====
section
/-! DEFINITION. Reading and writing the fixed-size collections (cells, dies, channels, edge entries) and the cursors over them.
Each operation works on the collection's list of entries, so that the kernel can evaluate it. -/

namespace Sys2Proof.Machine

/-- Entry `i` of a collection (`d` outside it, which no in-range index reaches). -/
def tget {α : Type} {n : Nat} (v : Vector α n) (i : Nat) (d : α) : α := v.toList.getD i d

/-- The collection with entry `i` replaced; an index outside it changes nothing. -/
def tset {α : Type} {n : Nat} (v : Vector α n) (i : Nat) (a : α) : Vector α n :=
  ⟨⟨v.toList.set i a⟩, by simp⟩

/-- The collection whose entry `i` is `f i`. -/
def tbuild {α : Type} (n : Nat) (f : Nat → α) : Vector α n :=
  ⟨⟨(List.range n).map f⟩, by simp⟩

/-- Every entry by its own value. -/
def tmap {α β : Type} {n : Nat} (f : α → β) (v : Vector α n) : Vector β n :=
  ⟨⟨v.toList.map f⟩, by simp⟩

/-- Every entry by its index and its own value. -/
def tmapIdx {α β : Type} {n : Nat} (f : Nat → α → β) (v : Vector α n) : Vector β n :=
  ⟨⟨(v.toList.zipIdx).map (fun p => f p.2 p.1)⟩, by simp⟩

/-- Every entry by the entries of two collections. -/
def tzip {α β γ : Type} {n : Nat} (f : α → β → γ) (v : Vector α n) (w : Vector β n) : Vector γ n :=
  ⟨⟨List.zipWith f v.toList w.toList⟩, by simp⟩

/-- A collection filled from a list, with `d` for what the list lacks. -/
def tofList {α : Type} (n : Nat) (l : List α) (d : α) : Vector α n :=
  ⟨⟨(l ++ List.replicate n d).take n⟩, by simp⟩

/-- How many entries satisfy `p`. -/
def tcount {α : Type} {n : Nat} (p : α → Bool) (v : Vector α n) : Nat := v.toList.countP p

/-- The indexes of the entries that satisfy `p`, in ascending order. -/
def tindexes {α : Type} {n : Nat} (p : α → Bool) (v : Vector α n) : List Nat :=
  (v.toList.zipIdx.filter (fun q => p q.1)).map (fun q => q.2)

/-- The indexes `0` to `n - 1` in the order of a cursor that wraps round (R2). -/
def wrapOrder (n cursor : Nat) : List Nat := (List.range n).map (fun i => (cursor + i) % n)

/-- The first index from the cursor on, wrapping round, that satisfies `p` (R2). -/
def findFrom (n cursor : Nat) (p : Nat → Bool) : Option Nat := (wrapOrder n cursor).find? p

/-- The index a cursor moves to when it moves past `i` (R2). -/
def cursorPast (n i : Nat) : Nat := (i + 1) % n

end Sys2Proof.Machine
end

