-- ==== Sys2Proof/Machine/Geometry.lean ====
section
/-! DEFINITION. Cells, dies, channels and edges: the index formulas of R1, R3, R93, R99, R100 and R105. -/

namespace Sys2Proof.Machine

/-- The cell index of a row, column and colour (R1). -/
def cellIndex (row col colour : Nat) : Nat := (row * 32 + col) * 3 + colour
/-- The row of a cell (R1). -/
def rowOf (c : Nat) : Nat := c / 96
/-- The column of a cell (R1). -/
def colOf (c : Nat) : Nat := c / 3 % 32
/-- The colour of a cell (R1). -/
def colourOf (c : Nat) : Nat := c % 3
/-- The die index of a cell's primary die (R1). -/
def primaryDie (c : Nat) : Nat := c * 2
/-- The die index of a cell's spare die (R1). -/
def spareDie (c : Nat) : Nat := c * 2 + 1
/-- The cell of a die (R1). -/
def cellOfDie (d : Nat) : Nat := d / 2
/-- Whether a die is its cell's spare, and so on chain S (R1, R3). -/
def isSpareDie (d : Nat) : Bool := d % 2 == 1

/-- The scan phase of a cell (R3). -/
def phaseOf (c : Nat) : Nat := rowOf c % 4
/-- The channel position of a cell (R3). -/
def channelOf (c : Nat) : Nat := (rowOf c / 4 * 32 + colOf c) * 3 + colourOf c
/-- The driver device of a cell (R3). -/
def deviceOf (c : Nat) : Nat := channelOf c / 16
/-- The output of a cell on its device (R3). -/
def outputOf (c : Nat) : Nat := channelOf c % 16

/-- The value held for one edge. -/
def PerEdge.get {α : Type} (v : PerEdge α) : Edge → α
  | .left => v.left
  | .right => v.right
  | .top => v.top
  | .bottom => v.bottom

/-- The values with one edge's replaced. -/
def PerEdge.put {α : Type} (v : PerEdge α) (e : Edge) (a : α) : PerEdge α :=
  match e with
  | .left => { v with left := a }
  | .right => { v with right := a }
  | .top => { v with top := a }
  | .bottom => { v with bottom := a }

/-- Each edge's value by the edge. -/
def PerEdge.build {α : Type} (f : Edge → α) : PerEdge α := ⟨f .left, f .right, f .top, f .bottom⟩

/-- The edges in the order of their codes (12.1). -/
def allEdges : List Edge := [.left, .right, .top, .bottom]

/-- The code of an edge (12.1). -/
def Edge.code : Edge → Nat
  | .left => 0
  | .right => 1
  | .top => 2
  | .bottom => 3

/-- The edge of a code (12.1). -/
def edgeOfCode : Nat → Option Edge
  | 0 => some .left
  | 1 => some .right
  | 2 => some .top
  | 3 => some .bottom
  | _ => none

/-- The edge of this tile on which a notice of that sending edge falls (R105). -/
def Edge.opposite : Edge → Edge
  | .left => .right
  | .right => .left
  | .top => .bottom
  | .bottom => .top

/-- The cell at a position along an edge and a colour, by the number of its edge entry (R100). -/
def edgeCell (e : Edge) (entry : Nat) : Nat :=
  match e with
  | .left => cellIndex (entry / 3) 0 (entry % 3)
  | .right => cellIndex (entry / 3) 31 (entry % 3)
  | .top => cellIndex 0 (entry / 3) (entry % 3)
  | .bottom => cellIndex 31 (entry / 3) (entry % 3)

/-- Where a neighbour lies (R93): a cell of this tile, or an entry beyond an edge. -/
inductive Place
  | inside (c : Nat)
  | across (e : Edge) (entry : Nat)
  deriving DecidableEq, Repr

/-- The neighbour of a cell in one direction (R93). -/
def neighbour (c : Nat) (dir : Edge) : Place :=
  match dir with
  | .left => if colOf c = 0 then .across .left (rowOf c * 3 + colourOf c) else .inside (c - 3)
  | .right => if colOf c = 31 then .across .right (rowOf c * 3 + colourOf c) else .inside (c + 3)
  | .top => if rowOf c = 0 then .across .top (colOf c * 3 + colourOf c) else .inside (c - 96)
  | .bottom => if rowOf c = 31 then .across .bottom (colOf c * 3 + colourOf c) else .inside (c + 96)

/-- The cabinet's width by the straps (R169). -/
def strapWidth (p : Straps) : Nat := p.widthLess1.val + 1

/-- The cabinet's height by the straps (R169). -/
def strapHeight (p : Straps) : Nat := p.heightLess1.val + 1

/-- The position lies outside the cabinet (R169). -/
def strapFault (p : Straps) : Bool := strapWidth p ≤ p.x.val || strapHeight p ≤ p.y.val

/-- The own station number (R99). -/
def strapStation (p : Straps) : Nat := p.y.val * 4 + p.x.val

/-- Whether an edge is PRESENT (R99). -/
def edgePresent (p : Straps) (e : Edge) : Bool :=
  !strapFault p && match e with
    | .left => 0 < p.x.val
    | .right => p.x.val + 1 < strapWidth p
    | .top => 0 < p.y.val
    | .bottom => p.y.val + 1 < strapHeight p

/-- The neighbour station beyond an edge (R99). -/
def neighbourStation (p : Straps) (e : Edge) : Nat :=
  match e with
  | .left => p.y.val * 4 + (p.x.val - 1)
  | .right => p.y.val * 4 + (p.x.val + 1)
  | .top => (p.y.val - 1) * 4 + p.x.val
  | .bottom => (p.y.val + 1) * 4 + p.x.val

end Sys2Proof.Machine
end

