-- ==== Sys2Proof/Machine/Formats.lean ====
section
/-! DEFINITION. The byte layouts of 12_formats.md: the codes, the check, seam frames, EDGE bodies, pixel-link records and the
store's records. -/

namespace Sys2Proof.Machine

/-! ## Codes (12.1) -/

def CellState.code : CellState → Nat
  | .primary => 0
  | .spare => 1
  | .hole => 2

def Health.code : Health → Nat
  | .good => 0
  | .suspect => 1
  | .failedOpen => 2
  | .failedShort => 3

def ProbeOutcome.code : ProbeOutcome → Nat
  | .none => 0
  | .ok => 1
  | .openPath => 2
  | .shortPath => 3

def LinkState.code : LinkState → Nat
  | .search => 0
  | .locked => 1
  | .holding => 2
  | .dark => 3

/-- RESET has no code: no record is composed in it (12.1). -/
def SupState.code : SupState → Nat
  | .reset => 0
  | .loading => 1
  | .chainCheck => 2
  | .readyWait => 3
  | .running => 4

def ResetCause.code : ResetCause → Nat
  | .powerOn => 0
  | .pin => 1
  | .supply => 2
  | .restart => 3

def StoreState.code : StoreState → Nat
  | .idle => 0
  | .writing => 1
  | .faulted => 2

def SupplyState.code : SupplyState → Nat
  | .ok => 0
  | .low => 1

def ReplyResult.code : ReplyResult → Nat
  | .done => 0
  | .busy => 1
  | .notReady => 2
  | .badTarget => 3
  | .badCell => 4
  | .badValue => 5
  | .dieFailed => 6
  | .queueFull => 7
  | .supplyLow => 8
  | .storeFault => 9

def Cause.code : Cause → Nat
  | .autoOpen => 0
  | .autoShort => 1
  | .spareLost => 2
  | .forced => 3
  | .released => 4
  | .gainSet => 5
  | .refill => 6

/-- The cell state of a code (also the FORCE target of a code). -/
def cellStateOfCode : Nat → Option CellState
  | 0 => some .primary
  | 1 => some .spare
  | 2 => some .hole
  | _ => none

/-- The health of a code the store may hold: SUSPECT is never written (R177). -/
def storedHealthOfCode : Nat → Option Health
  | 0 => some .good
  | 2 => some .failedOpen
  | 3 => some .failedShort
  | _ => none

/-- The health the store saves for a die: SUSPECT as GOOD (R146). -/
def savedHealth : Health → Health
  | .suspect => .good
  | h => h

/-! ## The check (R175) -/

/-- One bit into the check register: added into the top bit, the register shifted left, and the polynomial value added when the
bit shifted out was 1. -/
def crcBit (reg bit : Nat) : Nat :=
  match (reg / 32768 + bit) % 2 with
  | 0 => reg * 2 % 65536
  | _ => (reg * 2 % 65536) ^^^ 4129

/-- One byte into the check register, most significant bit first. -/
def crcByte (reg : Nat) (b : Byte) : Nat :=
  [128, 64, 32, 16, 8, 4, 2, 1].foldl (fun r w => crcBit r (b.toNat / w % 2)) reg

/-- `k r`, with `r` computed first. The split changes nothing (`crcForce_eq`): it lets the kernel evaluate a long check. -/
def crcForce {α : Type} (r : Nat) (k : Nat → α) : α :=
  match r with
  | 0 => k 0
  | m + 1 => k (m + 1)

/-- The check register after the bytes, in order. -/
def crcFrom : Nat → List Byte → Nat
  | reg, [] => reg
  | reg, b :: bs => crcForce (crcByte reg b) (fun r => crcFrom r bs)

/-- The 16-bit check of the covered bytes: the register starts at 65,535 and is not inverted. -/
def crc (bytes : List Byte) : Nat := crcFrom 65535 bytes

/-! ## Seam frames (R127, 12.4) -/

/-- Frame kind codes (R127). -/
def kindEdge : Nat := 1
def kindLoad : Nat := 2
def kindReply : Nat := 3
def kindRequest : Nat := 4
def kindReport : Nat := 5

/-- The body lengths the formats allow for a kind (12.4). -/
def bodyLengthOk (kind n : Nat) : Bool :=
  match kind with
  | 1 => 13 ≤ n && n ≤ 109
  | 2 => n == 8
  | 3 => 4 ≤ n && n ≤ 88
  | 4 => n == 1 || n == 2 || n == 3 || n == 5 || n == 7 || n == 8
  | 5 => n == 7 || (40 ≤ n && n ≤ 85)
  | _ => false

/-- All the bytes of a frame: arbitration, target and length byte, body, check (R127). -/
def frameBytes (kind source target : Nat) (body : List Byte) : List Byte :=
  let covered := byteOf (kind * 32 + source) :: byteOf target :: byteOf body.length :: body
  covered ++ bytes16 (crc covered)

/-- A well-formed frame as heard. -/
structure HeardFrame where
  kind : Nat
  source : Nat
  target : Byte
  body : List Byte
  deriving DecidableEq, Repr

/-- The judgement of R127 on the bytes stored of a frame and the number of bytes heard: the frame if it is well-formed. -/
def judgeFrame (stored : List Byte) (count : Nat) : Option HeardFrame :=
  match stored with
  | arb :: target :: len :: rest =>
    let kind := arb.toNat / 32
    let source := arb.toNat % 32
    let n := len.toNat
    let body := rest.take n
    if 1 ≤ kind ∧ kind ≤ 5 ∧ source ≤ 30 ∧ n ≤ 120 ∧ bodyLengthOk kind n = true ∧ count = 5 + n ∧ rest.length = n + 2 ∧
        rest.drop n = bytes16 (crc (arb :: target :: len :: body)) then
      some ⟨kind, source, target, body⟩
    else none
  | _ => none

/-! ## EDGE bodies (12.4.3, R176) -/

/-- Whether an entry is a hole. -/
def EdgeEntry.isHole : EdgeEntry → Bool
  | .working => false
  | .hole _ => true

/-- One byte of the hole map: entry 8 j in bit 7 (12.4.3). -/
def holeMapByte (content : EdgeContent) (j : Nat) : Byte :=
  byteOf ((List.range 8).foldl
    (fun acc b => acc * 2 + (if (tget content (8 * j + b) .working).isHole then 1 else 0)) 0)

/-- The share bytes, in ascending entry order (12.4.3). -/
def shareBytes (content : EdgeContent) : List Byte :=
  content.toList.filterMap (fun e => match e with
    | .working => none
    | .hole s => some (byteOf s))

/-- The body of an EDGE frame (12.4.3). -/
def edgeBody (e : Edge) (content : EdgeContent) : List Byte :=
  byteOf e.code :: ((List.range 12).map (holeMapByte content) ++ shareBytes content)

/-- The bits of a hole map, in entry order. -/
def holeBits (mapBytes : List Byte) : List Bool :=
  (List.range Config.edgeEntryCount).map (fun i => (mapBytes.getD (i / 8) 0#8).getLsbD (7 - i % 8))

/-- The entries that a hole map and its share bytes give. -/
def entriesOf : List Bool → List Byte → List EdgeEntry
  | [], _ => []
  | false :: bits, shares => .working :: entriesOf bits shares
  | true :: bits, [] => .hole 0 :: entriesOf bits []
  | true :: bits, s :: shares => .hole s.toNat :: entriesOf bits shares

/-- The reading of an EDGE body (R176): its sending edge and entries, or none when the edge code is above 3 or the length is not
13 plus the number of holes. -/
def readEdgeBody (body : List Byte) : Option (Edge × EdgeContent) :=
  match body with
  | [] => none
  | code :: rest =>
    let bits := holeBits (rest.take 12)
    match edgeOfCode code.toNat with
    | none => none
    | some e =>
      if body.length = 13 + bits.countP id then
        some (e, tofList Config.edgeEntryCount (entriesOf bits (rest.drop 12)) .working)
      else none

/-! ## Pixel-link records (R20, 12.3) -/

/-- What the receiver accepts. -/
inductive PixelFrame
  | video (values : List Nat)
  | blank
  deriving DecidableEq, Repr

/-- The value fields of a record's value bytes; none for a partial field. -/
def valueFields : List Byte → Option (List Nat)
  | [] => some []
  | [_] => none
  | hi :: lo :: rest =>
    match valueFields rest with
    | none => none
    | some vs => some (be16 hi lo :: vs)

/-- The decision of R20 on a record's bytes: the frame if it is accepted. The last two bytes are the check. -/
def readRecord (record : List Byte) : Option PixelFrame :=
  match record with
  | [] => none
  | kind :: rest =>
    let n := rest.length - 2
    if rest.length < 2 then none
    else if rest.drop n ≠ bytes16 (crc (kind :: rest.take n)) then none
    else if kind = 86#8 then
      match valueFields (rest.take n) with
      | none => none
      | some vs => if vs.length = Config.cellCount then some (.video vs) else none
    else if kind = 66#8 then
      if n = 0 then some .blank else none
    else none

/-! ## Store records (12.5, R177) -/

/-- What a written field slot says. -/
structure SlotRecord where
  state : CellState
  forced : Bool
  primary : Health
  spare : Health
  gain : Option Nat
  deriving DecidableEq, Repr

/-- The condition of a record of the field region (R141, R142). -/
inductive Condition (α : Type)
  | blank
  | written (r : α)
  | torn
  deriving DecidableEq, Repr

/-- The check over a field slot: the cell index, then the six field bytes (R175). -/
def slotCheck (i : Nat) (b : SlotBytes) : Nat :=
  crc (bytes16 i ++ [b.state, b.forced, b.primary, b.spare, b.gainHi, b.gainLo])

/-- The gain override a slot's field gives: 0 absent, or 128 to 511 (R177); the outer `none` for any other value. -/
def storedGain (v : Nat) : Option (Option Nat) :=
  if v = 0 then some none
  else if Config.minGain ≤ v ∧ v ≤ Config.maxGain then some (some v)
  else none

/-- The forced flag of a stored byte. -/
def storedFlag (b : Byte) : Option Bool :=
  if b = 0#8 then some false else if b = 1#8 then some true else none

/-- The fields of a slot if each holds an allowed code (R177). -/
def slotFields (b : SlotBytes) : Option SlotRecord :=
  match cellStateOfCode b.state.toNat, storedFlag b.forced, storedHealthOfCode b.primary.toNat,
      storedHealthOfCode b.spare.toNat, storedGain (be16 b.gainHi b.gainLo) with
  | some st, some f, some p, some q, some g => some ⟨st, f, p, q, g⟩
  | _, _, _, _, _ => none

/-- The condition of the field slot of cell `i` (R141, R177). -/
def slotCondition (i : Nat) : Stored SlotBytes → Condition SlotRecord
  | .cut => .torn
  | .bytes b =>
    if b = SlotBytes.blank then .blank
    else if be16 b.checkHi b.checkLo ≠ slotCheck i b then .torn
    else match slotFields b with
      | none => .torn
      | some r => .written r

/-- The bytes a write puts into the slot of cell `i` (R146, 12.5). -/
def slotBytes (i : Nat) (r : CellRec) (primary spare : Health) : SlotBytes :=
  let g := r.gain.getD 0
  let b : SlotBytes :=
    { state := byteOf r.state.code
      forced := flagByte r.forced
      primary := byteOf (savedHealth primary).code
      spare := byteOf (savedHealth spare).code
      gainHi := byteOf (g / 256)
      gainLo := byteOf g
      checkHi := 0#8
      checkLo := 0#8 }
  let c := slotCheck i b
  { b with checkHi := byteOf (c / 256), checkLo := byteOf c }

/-- The check over the settings record: its three field bytes (R175). -/
def settingsCheck (b : SettingsBytes) : Nat := crc [b.k, b.limitHi, b.limitLo]

/-- The condition of the settings record (R142, R177), with K and C_lim when it is written. -/
def settingsCondition : Stored SettingsBytes → Condition (Nat × Nat)
  | .cut => .torn
  | .bytes b =>
    if b = SettingsBytes.blank then .blank
    else if be16 b.checkHi b.checkLo ≠ settingsCheck b then .torn
    else if Config.maxLimit < be16 b.limitHi b.limitLo then .torn
    else .written (b.k.toNat, be16 b.limitHi b.limitLo)

/-- The bytes a write puts into the settings record (R146, 12.5). -/
def settingsBytes (k limit : Nat) : SettingsBytes :=
  let b : SettingsBytes := ⟨byteOf k, byteOf (limit / 256), byteOf limit, 0#8, 0#8⟩
  let c := settingsCheck b
  { b with checkHi := byteOf (c / 256), checkLo := byteOf c }

/-- What a factory record says (R139). -/
structure FactoryRecord where
  primary : Health
  spare : Health
  gain : Nat
  deriving DecidableEq, Repr

/-- The record used for every cell when the region fails (R140). -/
def FactoryRecord.default : FactoryRecord := ⟨.good, .good, Config.unitGain⟩

/-- The fields of a factory record if each lies in its range (R139, R177). -/
def factoryFields (b : FactoryBytes) : Option FactoryRecord :=
  match storedHealthOfCode b.primary.toNat, storedHealthOfCode b.spare.toNat with
  | some p, some q =>
    let g := be16 b.gainHi b.gainLo
    if Config.minGain ≤ g ∧ g ≤ Config.maxGain then some ⟨p, q, g⟩ else none
  | _, _ => none

/-- The 12,288 record bytes of the factory region, in cell-index order (R175). -/
def factoryRecordBytes (st : Store) : List Byte :=
  st.factory.toList.flatMap (fun b => [b.primary, b.spare, b.gainHi, b.gainLo])

/-- The region check of the load (R140): every record's fields in range, and the stored check equal to the computed one. -/
def factoryPasses (st : Store) : Bool :=
  st.factory.toList.all (fun b => (factoryFields b).isSome) &&
    be16 st.factoryCheckHi st.factoryCheckLo == crc (factoryRecordBytes st)

end Sys2Proof.Machine
end

