-- ==== Sys2Proof/Machine/Operands.lean ====
section
/-! DEFINITION. The operand forms of requests: cell fields (R2, R176), the request bodies of 12.4.1, and the clamps of R67 and
R120. -/

namespace Sys2Proof.Machine

/-- The cell a cell field names (R2, R176): form 0 a triple, form 1 an index whose padding byte is ignored; none when it is out
of range or of another form. -/
def cellOf (f : CellField) : Option Nat :=
  if f.form = 0#8 then
    if f.b1.toNat ≤ 31 ∧ f.b2.toNat ≤ 31 ∧ f.b3.toNat ≤ 2 then some (cellIndex f.b1.toNat f.b2.toNat f.b3.toNat) else none
  else if f.form = 1#8 then
    if be16 f.b2 f.b3 < Config.cellCount then some (be16 f.b2 f.b3) else none
  else none

/-- A gain code clamped into 128 to 511 (R67). -/
def clampGain (code : Nat) : Nat := max Config.minGain (min Config.maxGain code)

/-- A limit clamped to 49,136 (R120). -/
def clampLimit (v : Nat) : Nat := min Config.maxLimit v

/-- A request the Service Port takes; `unknown` is a body that names none of the kinds (R155 step 1, R176). -/
inductive Request
  | unknown (kind : Byte)
  | status
  | readCell (f : CellField)
  | listFaults (start : Nat)
  | force (f : CellField) (code : Byte) (clear : Byte)
  | release (f : CellField)
  | setGain (f : CellField) (mode : Byte) (code : Nat)
  | probe (f : CellField)
  | setConceal (k : Nat)
  | setLimit (v : Nat)
  | commit
  | restart
  deriving DecidableEq, Repr

/-- The kind byte of a request, echoed in its reply (12.1, R156). -/
def Request.kind : Request → Byte
  | .unknown k => k
  | .status => 1#8
  | .readCell _ => 2#8
  | .listFaults _ => 3#8
  | .force _ _ _ => 4#8
  | .release _ => 5#8
  | .setGain _ _ _ => 6#8
  | .probe _ => 7#8
  | .setConceal _ => 8#8
  | .setLimit _ => 9#8
  | .commit => 10#8
  | .restart => 11#8

/-- The request of a REQUEST body (12.4.1): a kind with another length than its own names none of the kinds (R176). A body of
length 0 is never well-formed; it reads as the kind 0. -/
def readRequest (body : List Byte) : Request :=
  match body with
  | [] => .unknown 0#8
  | kind :: params =>
    match kind.toNat, params with
    | 1, [] => .status
    | 2, [a, b, c, d] => .readCell ⟨a, b, c, d⟩
    | 3, [hi, lo] => .listFaults (be16 hi lo)
    | 4, [a, b, c, d, code, clear] => .force ⟨a, b, c, d⟩ code clear
    | 5, [a, b, c, d] => .release ⟨a, b, c, d⟩
    | 6, [a, b, c, d, mode, hi, lo] => .setGain ⟨a, b, c, d⟩ mode (be16 hi lo)
    | 7, [a, b, c, d] => .probe ⟨a, b, c, d⟩
    | 8, [k] => .setConceal k.toNat
    | 9, [hi, lo] => .setLimit (be16 hi lo)
    | 10, [] => .commit
    | 11, [] => .restart
    | _, _ => .unknown kind

/-- The bytes of a cell field, in order (12.4.1). -/
def fieldBytes (f : CellField) : List Byte := [f.form, f.b1, f.b2, f.b3]

/-- The body of the REQUEST frame that carries a request (12.4.1). -/
def requestBody : Request → List Byte
  | .unknown kind => [kind]
  | .status => [1#8]
  | .readCell f => 2#8 :: fieldBytes f
  | .listFaults start => 3#8 :: bytes16 start
  | .force f code clear => 4#8 :: (fieldBytes f ++ [code, clear])
  | .release f => 5#8 :: fieldBytes f
  | .setGain f mode code => 6#8 :: (fieldBytes f ++ mode :: bytes16 code)
  | .probe f => 7#8 :: fieldBytes f
  | .setConceal k => [8#8, byteOf k]
  | .setLimit v => 9#8 :: bytes16 v
  | .commit => [10#8]
  | .restart => [11#8]

end Sys2Proof.Machine
end

