-- ==== Sys2Proof/Machine/Flags.lean ====
section
/-! DEFINITION. The flags: the pending set's items (R133), the tile-notice flag (R165), the blank flag with the marker checks (R6,
R11), and the governor's factor and OVER flag (R118, R119). -/

namespace Sys2Proof.Machine

/-- Whether an item is pending (R133). -/
def PendingSet.has (p : PendingSet) : Item → Bool
  | .edge e => p.edges.get e
  | .load => p.load
  | .longReply => p.longReply
  | .immediateReply => p.immediateReply
  | .tileNotice => p.tileNotice
  | .reportHead => p.reportHead

/-- The pending set with one item made pending or removed (R133). -/
def PendingSet.put (p : PendingSet) (it : Item) (b : Bool) : PendingSet :=
  match it with
  | .edge e => { p with edges := p.edges.put e b }
  | .load => { p with load := b }
  | .longReply => { p with longReply := b }
  | .immediateReply => { p with immediateReply := b }
  | .tileNotice => { p with tileNotice := b }
  | .reportHead => { p with reportHead := b }

/-- An item becomes pending; one already pending stays one item (R133). -/
def pend (it : Item) (s : State) : State := s.setSeam { s.seam with items := s.seam.items.put it true }

/-- The bank holds a frame of this item. -/
def holds (bank : Option Composed) (it : Item) : Bool :=
  match bank with
  | none => false
  | some c => decide (c.item = it)

/-- An item is composed while a bank holds its frame (R133). -/
def isComposed (s : State) (it : Item) : Bool := holds s.seam.lineBank it || holds s.seam.nextBank it

/-- A signal raises the tile-notice flag (R165). -/
def raiseNotice (s : State) : State :=
  if s.port.notice then
    if isComposed s .tileNotice then s.setPort { s.port with reraise := true } else s
  else pend .tileNotice (s.setPort { s.port with notice := true })

/-- A marker check with the outcome FAILED (R11). -/
def markerFailed (s : State) : State :=
  let t := s.setScan { s.scan with blank := true, runCount := 0, marker := .failed, seenBlank := true }
  if s.scan.blank then t else raiseNotice t

/-- A marker check with the outcome GOOD (R6, R12): a period that has failed stays FAILED. -/
def markerGood (s : State) : State :=
  match s.scan.marker with
  | .failed => s
  | _ => s.setScan { s.scan with marker := .good }

/-- The new governor factor (R118). -/
def factorAfter (limit estimate factor : Nat) : Nat :=
  if limit = 0 then Config.fullFactor
  else if limit < estimate then factor - 32
  else if 16 * estimate ≤ 15 * limit then min Config.fullFactor (factor + 8)
  else factor

/-- The OVER flag after a step that gave the factor `newFactor` (R119). -/
def overAfter (limit estimate newFactor : Nat) (old : Bool) : Bool :=
  if limit = 0 ∨ estimate ≤ limit then false
  else if newFactor = 0 then true
  else old

end Sys2Proof.Machine
end

