-- ==== Sys2Proof/Machine/Ops.lean ====
section
/-! DEFINITION. The operations the meanings share: die and cell records, failure notices and the effects of a change (chapters 3
and 4), rebuild triggers (R96), the dirty set and the begin of a write (R144 to R146), cell events (R163), long requests (R161) and
resets (R167). -/

namespace Sys2Proof.Machine

/-! ## Records -/

/-- The record of a cell (R54). -/
def cellAt (s : State) (c : Nat) : CellRec := tget s.map.cells c CellRec.fresh

/-- The record of a die (R33). -/
def dieAt (s : State) (d : Nat) : DieRec := tget s.health.dies d DieRec.fresh

/-- The factory spare gain of a cell (R54). -/
def factoryGainAt (s : State) (c : Nat) : Nat := tget s.map.factoryGain c Config.unitGain

def setCell (c : Nat) (r : CellRec) (s : State) : State := s.setMap { s.map with cells := tset s.map.cells c r }

def setDie (d : Nat) (r : DieRec) (s : State) : State := s.setHealth { s.health with dies := tset s.health.dies d r }

/-- FAILED_OPEN and FAILED_SHORT are together FAILED (R33). -/
def Health.failed : Health → Bool
  | .good => false
  | .suspect => false
  | .failedOpen => true
  | .failedShort => true

/-- Whether a die is FAILED. -/
def dieFailed (s : State) (d : Nat) : Bool := (dieAt s d).health.failed

/-- The die a cell drives in a state (R54). -/
def drivenDie (c : Nat) : CellState → Option Nat
  | .primary => some (primaryDie c)
  | .spare => some (spareDie c)
  | .hole => none

/-- The effective spare gain (R55). -/
def effectiveGain (r : CellRec) (factory : Nat) : Nat := r.gain.getD factory

/-- A cell is in HOLE. -/
def isHole (r : CellRec) : Bool := decide (r.state = .hole)

/-- The supervisor states in which the display runs (R15, R51, R78). -/
def displayRuns (s : State) : Bool := decide (s.sup.state = .readyWait) || decide (s.sup.state = .running)

/-- The tile is RUNNING. -/
def isRunning (s : State) : Bool := decide (s.sup.state = .running)

/-! ## Observations (R34 to R38) -/

/-- The strike after an observation of a die that is not FAILED (R36). -/
def strikeAfter (m : Measure) (n : Nat) : Nat :=
  match m with
  | .ok => n - 1
  | .openPath => min Config.maxStrike (n + 2)
  | .shortPath => min Config.maxStrike (n + 4)

/-- The health a changed strike gives (R34). An OK observation cannot bring a die to the last line. -/
def healthAfter (m : Measure) (strike : Nat) (old : Health) : Health :=
  if strike = 0 then .good
  else if strike < Config.failStrike then .suspect
  else match m with
    | .openPath => .failedOpen
    | .shortPath => .failedShort
    | .ok => old

/-- The last probe outcome a result gives (R46). -/
def outcomeOf : Measure → ProbeOutcome
  | .ok => .ok
  | .openPath => .openPath
  | .shortPath => .shortPath

/-- A die record after an observation, by a probe or by a sense pass (R36, R37). -/
def observe (byProbe : Bool) (m : Measure) (r : DieRec) : DieRec :=
  let probed : ProbeOutcome := if byProbe then outcomeOf m else r.lastProbe
  if r.health.failed then { r with age := 0, lastProbe := probed }
  else
    let n := strikeAfter m r.strike
    { health := healthAfter m n r.health, strike := n, age := 0, lastProbe := probed }

/-- An observation moved the die to FAILED (R39). -/
def becameFailed (before after : DieRec) : Bool := !before.health.failed && after.health.failed

/-! ## Rebuild triggers (R96, R97) -/

/-- What a rebuild that starts now works from (R97). -/
def takeSnapshot (s : State) : Snapshot := ⟨tmap isHole s.map.cells, s.conceal.far, s.conceal.k⟩

/-- A rebuild starts (R96). -/
def startRebuild (s : State) : State := s.setConceal { s.conceal with rebuild := .running (takeSnapshot s) }

/-- A rebuild trigger (R96). -/
def trigger (s : State) : State :=
  match s.conceal.rebuild with
  | .idle => startRebuild s
  | .running _ => s.setConceal { s.conceal with rerun := true }
  | .complete => s.setConceal { s.conceal with rerun := true }

/-- A trigger when `b` holds. -/
def triggerIf (b : Bool) (s : State) : State := if b then trigger s else s

/-! ## The dirty set and background writes (R144 to R147) -/

/-- The dirty count (R144). -/
def dirtyCount (s : State) : Nat := tcount id s.store.dirty + (if s.store.settingsDirty then 1 else 0)

/-- A cell's mark is set (R144). -/
def markDirty (c : Nat) (s : State) : State := s.setStore { s.store with dirty := tset s.store.dirty c true }

/-- The settings record's mark is set (R144). -/
def markSettings (s : State) : State := s.setStore { s.store with settingsDirty := true }

/-- A write may begin (R145). -/
def writeMayBegin (s : State) : Bool :=
  decide (s.store.state = .idle) && decide (s.sup.supply = .ok) && isRunning s && !s.store.restartHold &&
    decide (0 < dirtyCount s)

/-- The write of the settings record begins (R146). -/
def beginSettings (s : State) : State :=
  s.setStore
    { s.store with
      settingsDirty := false
      settings := .cut
      inFlight := some (.settings (settingsBytes s.conceal.k s.gov.limit))
      state := .writing }

/-- The write of a cell's slot begins (R146). -/
def beginCell (c : Nat) (s : State) : State :=
  s.setStore
    { s.store with
      dirty := tset s.store.dirty c false
      slots := tset s.store.slots c .cut
      inFlight := some (.cell c (slotBytes c (cellAt s c) (dieAt s (primaryDie c)).health (dieAt s (spareDie c)).health))
      state := .writing }

/-- The test of R145, and the begin of a write when it holds: the settings record first, else the first marked cell from the
write cursor on (R146). -/
def beginWrite (s : State) : State :=
  if writeMayBegin s then
    if s.store.settingsDirty then beginSettings s
    else match findFrom Config.cellCount s.store.cursor (fun c => tget s.store.dirty c false) with
      | none => s
      | some c => beginCell c s
  else s

/-! ## Cell events (R69, R163) -/

/-- The report of a cell as its records stand (R69). -/
def reportOf (s : State) (c : Nat) (cause : Cause) (updated : Bool) : Report :=
  ⟨c, (cellAt s c).state, (dieAt s (primaryDie c)).health, (dieAt s (spareDie c)).health, cause, updated⟩

/-- The report head is an entry of this cell. -/
def headIs (s : State) (c : Nat) : Bool :=
  match s.port.queue with
  | [] => false
  | r :: _ => r.cell == c

/-- The cell has an entry in the report queue (R163). -/
def queued (s : State) (c : Nat) : Bool := s.port.queue.any (fun r => r.cell == c)

/-- The Service Port takes a cell event (R163). -/
def postEvent (c : Nat) (cause : Cause) (s : State) : State :=
  if queued s c then
    let late := headIs s c && isComposed s .reportHead
    s.setPort
      { s.port with queue := s.port.queue.map (fun r => if r.cell = c then reportOf s c cause (r.updated || late) else r) }
  else if s.port.queue.length < Config.reportQueueSize then
    let t := s.setPort { s.port with queue := s.port.queue ++ [reportOf s c cause false] }
    if s.port.queue.isEmpty then pend .reportHead t else t
  else s.setPort { s.port with marks := tset s.port.marks c true }

/-- The effects of a change to a cell but for the rebuild trigger (R68): its mark is set and its event posted. -/
def changeEffects (c : Nat) (cause : Cause) (s : State) : State := postEvent c cause (markDirty c s)

/-- A cell record becomes `r`, which is a change of that cause (R68 to R70). -/
def changeCell (c : Nat) (r : CellRec) (cause : Cause) (s : State) : State :=
  triggerIf (isHole (cellAt s c) != isHole r) (changeEffects c cause (setCell c r s))

/-! ## Automatic transitions and failure notices (R56 to R61) -/

/-- The automatic transitions of an unforced cell (R56). -/
def transition (st : CellState) (primaryFailed spareFailed : Bool) : CellState :=
  match st with
  | .primary => if primaryFailed then (if spareFailed then .hole else .spare) else .primary
  | .spare => if spareFailed then .hole else .spare
  | .hole => .hole

/-- A cell's record after the automatic transitions, which do not apply to a forced cell (R56). -/
def transitioned (s : State) (c : Nat) : CellRec :=
  let r := cellAt s c
  if r.forced then r
  else { r with state := transition r.state (dieFailed s (primaryDie c)) (dieFailed s (spareDie c)) }

/-- The cause a failure notice gives its cell event (R60). -/
def failureCause (d : Nat) (h : Health) (after : CellState) : Cause :=
  if isSpareDie d && decide (after = .primary) then .spareLost
  else match h with
    | .failedOpen => .autoOpen
    | _ => .autoShort

/-- The Map Controller takes the failure notice of a die (R58 to R60); the trigger of R70 is handed over once for the whole
event (R96). -/
def takeNotice (d : Nat) (s : State) : State :=
  let c := cellOfDie d
  let r := transitioned s c
  changeEffects c (failureCause d (dieAt s d).health r.state) (setCell c r s)

/-- The notices handed over in one event, in ascending die index (R61; the order a DESIGN CHOICE, log entry 8), and one trigger if
a cell entered HOLE. -/
def takeNotices (ds : List Nat) (s : State) : State :=
  let t := ds.foldl (fun u d => takeNotice d u) s
  triggerIf (ds.any (fun d => isHole (cellAt s (cellOfDie d)) != isHole (cellAt t (cellOfDie d)))) t

/-! ## Long requests (R161, R162) -/

/-- The outcome of judging a long request (R161): its result and residual, or none while it stays in execution. -/
def longOutcome (s : State) : Option (ReplyResult × Nat) :=
  if s.store.state = .faulted then some (.storeFault, dirtyCount s)
  else if s.sup.supply = .low then some (.supplyLow, dirtyCount s)
  else if dirtyCount s = 0 ∧ s.store.state = .idle then some (.done, 0)
  else none

/-- The request kind byte of a long request (12.1). -/
def LongKind.byte : LongKind → Byte
  | .commit => 10#8
  | .restart => 11#8

/-- What is left in the long-request slot when a result is reached (R161, R162). -/
def afterResult (r : LongReq) : Option LongReq :=
  match r.kind with
  | .commit => none
  | .restart => some { r with phase := .replying }

/-- A judging event of R161 and R162. -/
def judgeLong (s : State) : State :=
  match s.port.request with
  | none => s
  | some r =>
    match r.phase, longOutcome s with
    | .executing, some (result, residual) =>
      pend .longReply
        (s.setPort
          { s.port with
            long := some ⟨r.source, r.kind.byte, result, residual, .empty, none⟩
            request := afterResult r })
    | _, _ => s

/-! ## Resets and the begin of a start (R151, R152, R167 to R169) -/

/-- The store's regions at a reset that cuts off a write in flight: its record is left torn (R151). -/
def cutWrite (st : Store) : Store :=
  match st.inFlight with
  | none => st
  | some (.settings _) => { st with settings := .cut }
  | some (.cell i _) => { st with slots := tset st.slots i .cut }

/-- The Map Store's reset (R154): the two regions stay. -/
def resetStore (cause : ResetCause) (st : Store) : Store :=
  let kept := if cause = .restart then st else cutWrite st
  { Store.reset with
    factory := kept.factory
    factoryCheckHi := kept.factoryCheckHi
    factoryCheckLo := kept.factoryCheckLo
    slots := kept.slots
    settings := kept.settings }

/-- The reset pin holds the tile behind a reset (R167, R168): a PIN reset begins its hold, SUPPLY and RESTART leave it as it
stands, and power that comes up knows of no assertion (log entry 20). -/
def pinAfter (cause : ResetCause) (asserted : Bool) : Bool :=
  match cause with
  | .powerOn => false
  | .pin => true
  | .supply => asserted
  | .restart => asserted

/-- The supply holds the tile behind a reset (R167, R168): POWER_ON and SUPPLY begin its hold, PIN and RESTART leave it as it
stands. -/
def supplyHeldAfter (cause : ResetCause) (held : Bool) : Bool :=
  match cause with
  | .powerOn => true
  | .pin => held
  | .supply => true
  | .restart => held

/-- The Supervisor's reset (R167, R168, R174). The supply monitor works on through a reset (R173); a supply that rises from off is
LOW (log entry 5). The cause is set anew in RESET too (R168), also by a PIN or SUPPLY event that comes before the supply has first risen
above 4.1 V behind POWER_ON (DESIGN CHOICE, log entry 20). -/
def resetSup (cause : ResetCause) (b : Supervisor) : Supervisor :=
  { Supervisor.reset with
    cause := cause
    supply := if cause = .powerOn then .low else b.supply
    pinAsserted := pinAfter cause b.pinAsserted
    supplyHeld := supplyHeldAfter cause b.supplyHeld }

/-- A reset: every block takes its reset, and the tile holds in RESET (R167). The queue of waiting commands is not the tile's. -/
def resetTile (cause : ResetCause) (s : State) : State :=
  { State.reset with
    sup := resetSup cause s.sup
    store := resetStore cause s.store
    pending := s.pending }

/-- The far-edge records once the straps are read (R99, R104, R111). -/
def strappedEdges (p : Straps) (far : PerEdge FarEdge) : PerEdge FarEdge :=
  PerEdge.build (fun e =>
    { far.get e with
      present := edgePresent p e
      source := if edgePresent p e then some (neighbourStation p e) else none
      valid := false })

/-- The start begins (R169, R31, R173). -/
def beginStart (pins : Pins) (s : State) : State :=
  { s with
    sup :=
      { s.sup with
        state := .loading
        straps := pins.straps
        findings := { s.sup.findings with strapFault := strapFault pins.straps }
        readyLow := true
        supply := if Config.supplyOkMv < pins.supplyMv then .ok else .low }
    rx :=
      { s.rx with
        started := true
        interval := pins.straps.rate
        timer := .oneT
        inTail := pins.linkBusy
        buffer := [] }
    seam := { s.seam with own := strapStation pins.straps }
    conceal := { s.conceal with far := strappedEdges pins.straps s.conceal.far } }

/-- The Service Port hands over a RESTART reset (R162), which waits for a write in flight (R152); otherwise it is taken at once and
the start begins in the same event (R167). While the reset waits, the long-request slot is empty (DEDUCED, log entry 17), and a reply that
the 50 ms did not see sent stays in the long reply slot, pending, until the reset is taken (DESIGN CHOICE, log entry 27). -/
def handRestart (pins : Pins) (s : State) : State :=
  if s.store.state = .writing then
    (s.setPort { s.port with request := none }).setStore { s.store with restartHold := true }
  else beginStart pins (resetTile .restart s)

end Sys2Proof.Machine
end

