-- ==== Sys2Proof/Machine/Records.lean ====
section
/-! DEFINITION. What the tile shows: the tile status record (R157), the cell record and fault list (R158), reply bodies (12.4.2), the
content of an edge (R100), the video value (R26) and what each die is driven at (R17). -/

namespace Sys2Proof.Machine

/-! ## The tile status record (R157, 12.4.2) -/

/-- The findings byte (12.4.2, offset 3). The layout names bits 0 to 5, and the tile sends bits 6 and 7 as 0 (DESIGN CHOICE, log entry
30). -/
def findingsByte (f : Findings) : Byte :=
  byteOf ((if f.strapFault then 1 else 0) + (if f.factoryFault then 2 else 0) + (if f.settingsDefaulted then 4 else 0) +
    (if 0 < f.tornSlots then 8 else 0) + (if f.chainFault then 16 else 0) + (if f.readyTimeout then 32 else 0))

/-- The code of a far-edge record (12.4.2, offset 30): ABSENT 0, INVALID 1, VALID 2. -/
def farCode (r : FarEdge) : Nat := if r.present then (if r.valid then 2 else 1) else 0

/-- The edge-records byte (12.4.2, offset 30). -/
def farByte (far : PerEdge FarEdge) : Byte :=
  byteOf (farCode far.left * 64 + farCode far.right * 16 + farCode far.top * 4 + farCode far.bottom)

/-- The number of cells in a state (R74). -/
def countState (s : State) (st : CellState) : Nat := tcount (fun r => decide (r.state = st)) s.map.cells

/-- The number of forced cells (R74). -/
def countForced (s : State) : Nat := tcount (fun r => r.forced) s.map.cells

/-- The SUSPECT count (R50). -/
def countSuspect (s : State) : Nat := tcount (fun r => decide (r.health = .suspect)) s.health.dies

/-- The number of report-pending marks (R157). -/
def countMarks (s : State) : Nat := tcount id s.port.marks

/-- A peer entry in the status record (12.4.2, offset 39). -/
def peerBytes (p : Peer) : List Byte := byteOf p.station :: bytes16 p.load

/-- The tile status record as it stands (R157, 12.4.2). -/
def statusRecord (s : State) : List Byte :=
  [byteOf s.seam.own, byteOf s.sup.state.code, byteOf s.sup.cause.code, findingsByte s.sup.findings] ++
  bytes16 s.sup.findings.tornSlots ++
  [byteOf s.sup.supply.code, byteOf s.rx.link.code, flagByte s.scan.blank] ++
  bytes16 (countState s .spare) ++ bytes16 (countState s .hole) ++ bytes16 (countForced s) ++ bytes16 (countSuspect s) ++
  [byteOf s.health.anomalyRun] ++
  bytes16 s.drive.clip ++ bytes16 s.drive.load ++ bytes16 s.gov.factor ++ bytes16 s.gov.estimate ++
  [flagByte s.gov.overFlag] ++
  bytes16 s.gov.limit ++
  [byteOf s.conceal.k, farByte s.conceal.far, flagByte s.conceal.mismatch, byteOf s.store.state.code] ++
  bytes16 (dirtyCount s) ++
  [byteOf s.port.queue.length] ++
  bytes16 (countMarks s) ++
  [byteOf s.gov.peers.length] ++
  s.gov.peers.flatMap peerBytes

/-! ## READ CELL and LIST FAULTS (R158) -/

/-- A die record's five bytes (12.4.2, offset 9). -/
def dieBytes (r : DieRec) : List Byte :=
  [byteOf r.health.code, byteOf r.strike] ++ bytes16 r.age ++ [byteOf r.lastProbe.code]

/-- The Bsum of a table entry: 0 for a HOLE entry (R92). -/
def Entry.bsum : Entry → Nat
  | .hole _ => 0
  | .lit b => b

/-- The active table's entry of a cell (R92). -/
def activeEntry (s : State) (c : Nat) : Entry := tget s.conceal.active c (.lit 0)

/-- An entry's kind and figure (12.4.2, offset 19). -/
def entryBytes : Entry → List Byte
  | .lit b => 0#8 :: bytes16 b
  | .hole sh => 1#8 :: bytes16 sh

/-- The cell record of a READ CELL reply as it stands (R158, 12.4.2). -/
def cellRecordBytes (s : State) (c : Nat) : List Byte :=
  let r := cellAt s c
  bytes16 c ++ [byteOf r.state.code, flagByte r.forced] ++ bytes16 (r.gain.getD 0) ++
  bytes16 (effectiveGain r (factoryGainAt s c)) ++ [flagByte r.gain.isSome] ++
  dieBytes (dieAt s (primaryDie c)) ++ dieBytes (dieAt s (spareDie c)) ++
  entryBytes (activeEntry s c) ++
  [flagByte (tget s.store.dirty c false), flagByte (tget s.port.marks c false), flagByte (queued s c)]

/-- A cell LIST FAULTS lists: not in PRIMARY, or forced (R158). -/
def isFault (r : CellRec) : Bool := decide (r.state ≠ .primary) || r.forced

/-- The cells LIST FAULTS lists from a start index, up to 12 of them (R158). -/
def faultList (s : State) (start : Nat) : List Nat :=
  ((tindexes isFault s.map.cells).filter (fun c => start ≤ c)).take Config.listFaultsSize

/-- The continuation of a fault list: the index after the last of 12 listed, or none for "end" (R158). -/
def faultContinuation (listed : List Nat) : Option Nat :=
  match listed.getLast? with
  | none => none
  | some c => if listed.length = Config.listFaultsSize ∧ c < Config.cellCount - 1 then some (c + 1) else none

/-- The body of a LIST FAULTS reply (12.4.2). -/
def faultListBytes (s : State) (start : Nat) : List Byte :=
  let listed := faultList s start
  byteOf listed.length :: (listed.flatMap bytes16 ++ bytes16 ((faultContinuation listed).getD 65535))

/-! ## Replies (R156, 12.4.2) -/

/-- The kind's own part of a reply body, as the records stand. -/
def replyTail (s : State) : ReplyBody → List Byte
  | .empty => []
  | .status => statusRecord s
  | .cell i => cellRecordBytes s i
  | .faults n => faultListBytes s n
  | .value8 v => [byteOf v]
  | .value16 v => bytes16 v

/-- A reply's body: the one fixed when it was first composed, or else as the records stand (R156, R136). That holds for a reply composed
again behind a lost attempt (DEDUCED, log entry 16), and for one that CLASH returned to waiting (DESIGN CHOICE, log entry 28). -/
def replyBytes (s : State) (r : Reply) : List Byte :=
  match r.fixed with
  | some b => b
  | none => [r.kind, byteOf r.result.code] ++ bytes16 r.residual ++ replyTail s r.body

/-! ## Edge content (R100) -/

/-- The edge entry of a table entry (R100). -/
def Entry.edgeEntry : Entry → EdgeEntry
  | .lit _ => .working
  | .hole sh => .hole sh

/-- The content of an edge, from the active table (R100). -/
def edgeContent (s : State) (e : Edge) : EdgeContent :=
  tbuild Config.edgeEntryCount (fun i => (activeEntry s (edgeCell e i)).edgeEntry)

/-! ## Video values and what the chains carry (R17, R26) -/

/-- The link supplies stored values rather than 0 (R26). -/
def LinkState.showsFrame : LinkState → Bool
  | .search => false
  | .locked => true
  | .holding => true
  | .dark => false

/-- The video value V of a cell (R26). -/
def videoValue (s : State) (c : Nat) : Nat := if s.rx.link.showsFrame then tget s.rx.frameStore c 0 else 0

/-- The frame's channel value of a die (R4). -/
def channelValue (s : State) (d : Nat) : Nat :=
  if isSpareDie d then tget s.scan.chanS (cellOfDie d) 0 else tget s.scan.chanP (cellOfDie d) 0

/-- The value shifted for a die: 0 while the blank flag is set (R6). -/
def shiftedValue (s : State) (d : Nat) : Nat := if s.scan.blank then 0 else channelValue s d

/-- What a die is driven at now (R17). -/
def dieOutput (s : State) (d : Nat) : Nat :=
  match s.scan.position with
  | .run (.observe p) true => if phaseOf (cellOfDie d) = p.val then shiftedValue s d else 0
  | .run (.refresh p) true => if phaseOf (cellOfDie d) = p.val then shiftedValue s d else 0
  | .run (.probe _) true => if s.scan.slot.head? = some d then Config.probeValue else 0
  | _ => 0

end Sys2Proof.Machine
end

