-- ==== Sys2Proof/Machine/Banks.lean ====
section
/-! DEFINITION. The transmit banks: composition (R135), filling (R134), recomposition (R136), CLASH (R132), and what a frame's
outcome means to the Load Governor (R113, R114). -/

namespace Sys2Proof.Machine

/-- The order in which waiting items are composed (R134). -/
def itemOrder : List Item :=
  [.edge .left, .edge .right, .edge .top, .edge .bottom, .load, .longReply, .immediateReply, .tileNotice, .reportHead]

/-- Which items may be composed (R133). -/
def mayCompose (st : SupState) (it : Item) : Bool :=
  match st, it with
  | .running, _ => true
  | .readyWait, .longReply => true
  | .readyWait, .immediateReply => true
  | _, _ => false

/-- An item is waiting: pending and not composed (R133). -/
def isWaiting (s : State) (it : Item) : Bool := s.seam.items.has it && !isComposed s it

/-- The waiting item that is composed next (R134). -/
def nextItem (s : State) : Option Item := itemOrder.find? (fun it => isWaiting s it && mayCompose s.sup.state it)

/-- The body of a LOAD frame (R113, 12.4.3). -/
def loadBody (s : State) : List Byte :=
  byteOf s.seam.own :: (bytes16 s.drive.peak ++ bytes16 s.gov.factor ++ bytes16 (countState s .hole) ++
    [flagByte s.gov.overFlag])

/-- The body of a cell report (12.4.3). -/
def reportBody (r : Report) : List Byte :=
  0#8 :: (bytes16 r.cell ++ [byteOf r.state.code, byteOf r.primary.code, byteOf r.spare.code, byteOf r.cause.code])

/-- The cell report's body from the report head. -/
def headBody (s : State) : List Byte :=
  match s.port.queue with
  | [] => []
  | r :: _ => reportBody r

/-- The frame of an item as it stands (R135). -/
def frameOf (s : State) (it : Item) : Composed :=
  match it with
  | .edge e =>
    let content := edgeContent s e
    ⟨it, some content, frameBytes kindEdge s.seam.own ((s.conceal.far.get e).source.getD Config.allStations) (edgeBody e content)⟩
  | .load => ⟨it, none, frameBytes kindLoad s.seam.own Config.allStations (loadBody s)⟩
  | .longReply =>
    match s.port.long with
    | none => ⟨it, none, []⟩
    | some r => ⟨it, none, frameBytes kindReply s.seam.own r.station (replyBytes s r)⟩
  | .immediateReply =>
    match s.port.immediate with
    | none => ⟨it, none, []⟩
    | some r => ⟨it, none, frameBytes kindReply s.seam.own r.station (replyBytes s r)⟩
  | .tileNotice => ⟨it, none, frameBytes kindReport s.seam.own Config.allStations (1#8 :: statusRecord s)⟩
  | .reportHead => ⟨it, none, frameBytes kindReport s.seam.own Config.allStations (headBody s)⟩

/-- A reply with its content fixed (R156). -/
def fixReply (s : State) (r : Reply) : Reply := { r with fixed := some (replyBytes s r) }

/-- The report queue with its head's updated mark cleared (R164). -/
def clearUpdated : List Report → List Report
  | [] => []
  | r :: rs => { r with updated := false } :: rs

/-- What the composition of an item does at its owner: a LOAD takes the peak (R87, R113), a reply's content is fixed (R156), the
tile notice clears the re-raise mark (R165), and the report head its updated mark (R164). -/
def afterCompose (it : Item) (s : State) : State :=
  match it with
  | .edge _ => s
  | .load => (s.setDrive { s.drive with peak := 0 }).setGov { s.gov with carried := some s.drive.peak }
  | .longReply => s.setPort { s.port with long := s.port.long.map (fixReply s) }
  | .immediateReply => s.setPort { s.port with immediate := s.port.immediate.map (fixReply s) }
  | .tileNotice => s.setPort { s.port with reraise := false }
  | .reportHead => s.setPort { s.port with queue := clearUpdated s.port.queue }

/-- An item is composed into the line bank. -/
def composeLine (it : Item) (s : State) : State :=
  let t := afterCompose it s
  t.setSeam { t.seam with lineBank := some (frameOf s it) }

/-- An item is composed into the next bank. -/
def composeNext (it : Item) (s : State) : State :=
  let t := afterCompose it s
  t.setSeam { t.seam with nextBank := some (frameOf s it) }

/-- One bank is filled if R134 allows it: the line bank when both are EMPTY, else an EMPTY next bank. -/
def fillOne (s : State) : State :=
  if s.seam.clash then s
  else match nextItem s, s.seam.lineBank, s.seam.nextBank with
    | none, _, _ => s
    | some it, none, _ => composeLine it s
    | some it, some _, none => composeNext it s
    | some _, some _, some _ => s

/-- The banks are filled at the end of the event (R134). -/
def fillBanks (s : State) : State := fillOne (fillOne s)

/-- What follows in the same event when an event has set marks or made items pending: the test of R145, then the filling of the
banks (R134; the order a DESIGN CHOICE, log entry 9). -/
def settle (s : State) : State := fillBanks (beginWrite s)

/-- The Load Governor gives back the carried peak (R114). -/
def giveBack (s : State) : State :=
  (s.setDrive { s.drive with peak := max s.drive.peak (s.gov.carried.getD 0) }).setGov { s.gov with carried := none }

/-- The carried peak is given back when a bank holds the LOAD frame. -/
def giveBackIf (b : Bool) (s : State) : State := if b then giveBack s else s

/-- The tile enters CLASH, if CLASH was clear (R132). -/
def enterClash (s : State) : State :=
  if s.seam.clash then s
  else
    let t := giveBackIf (isComposed s .load) s
    t.setSeam { t.seam with clash := true, tx := .quiet, lineBank := none, nextBank := none }

/-- The line bank's frame is recomposed from its item, in its bank (R136). -/
def recompose (s : State) : State :=
  match s.seam.lineBank with
  | none => s
  | some c => composeLine c.item (giveBackIf (decide (c.item = .load)) s)

/-- The attempt in progress ends (R129, R130). -/
def txQuiet (s : State) : State := s.setSeam { s.seam with tx := .quiet }

end Sys2Proof.Machine
end

