-- ==== Sys2Proof/Machine/Boundary.lean ====
section
/-! DEFINITION. The frame boundary (R27): what each block does at it, and the follow-on events that a boundary brings due, each of
which has a row of its own in the command table (log entry 1). -/

namespace Sys2Proof.Machine

/-- A follow-on event is taken within the boundary, or left to its own row. -/
def takeIf (t : Taking) (f : State → State) (s : State) : State :=
  match t with
  | .within => f s
  | .apart => s

/-! ## Scan Engine: judging the period (R12) -/

/-- The position a blank flag that clears leaves the next pass in: the shift of a cycle not yet begun carries the held values
(R12). -/
def blankSeenAfterClear (s : State) : Bool :=
  match s.scan.position with
  | .gap (.observe 0) => false
  | _ => s.scan.seenBlank

/-- The run count has reached 16 with the blank flag set (R12). -/
def blankClearDue (s : State) : Bool := s.scan.blank && decide (Config.goodRunLimit ≤ s.scan.runCount)

/-- BLANK_FLAG_CLEAR: the run count has reached 16 (R12). -/
def takeBlankClear (s : State) : State :=
  if blankClearDue s then
    raiseNotice (s.setScan { s.scan with blank := false, runCount := 0, seenBlank := blankSeenAfterClear s })
  else s

/-- The good-marker run count after the period just ended (R12). -/
def runCountAfter (s : State) : Nat :=
  if s.scan.blank && decide (s.scan.marker = .good) then min Config.goodRunLimit (s.scan.runCount + 1) else s.scan.runCount

/-- The Scan Engine judges the period just ended (R12). -/
def judgePeriod (t : Taking) (s : State) : State :=
  takeIf t takeBlankClear (s.setScan { s.scan with runCount := runCountAfter s, marker := .none })

/-! ## Health Monitor (R38, R42, R47, R51) -/

/-- ANOMALY_RUN_NOTICE: the run has reached 8 (R42). -/
def takeAnomalyNotice (s : State) : State :=
  if s.health.anomalyDue then raiseNotice (s.setHealth { s.health with anomalyDue := false }) else s

/-- The anomaly run count after the period just ended (R42). -/
def anomalyRunAfter (f : PeriodFindings) (n : Nat) : Nat :=
  match f with
  | .anomalous => min Config.anomalyRunLimit (n + 1)
  | .clean => 0
  | .neither => n

/-- A die ages by one boundary (R38). -/
def ageDie (r : DieRec) : DieRec := { r with age := min Config.maxAge (r.age + 1) }

/-- The Health Monitor's boundary work: it judges the period, ages the dies and clears the plan (R51). -/
def healthBoundary (t : Taking) (s : State) : State :=
  let n := anomalyRunAfter s.health.findings s.health.anomalyRun
  takeIf t takeAnomalyNotice
    (s.setHealth
      { s.health with
        dies := tmap ageDie s.health.dies
        plan := []
        findings := .neither
        anomalyRun := n
        anomalyDue := s.health.anomalyDue || decide (s.health.anomalyRun < Config.anomalyRunLimit ∧ n = Config.anomalyRunLimit) })

/-! ## Concealment Unit (R98, R101, R103, R107) -/

/-- An EDGE notice becomes pending for every present edge that `p` selects (R101). -/
def pendEdges (p : Edge → Bool) (s : State) : State :=
  s.setSeam
    { s.seam with
      items :=
        { s.seam.items with
          edges := PerEdge.build (fun e => s.seam.items.edges.get e || ((s.conceal.far.get e).present && p e)) } }

/-- An edge's content differs from its last-sent content (R101). -/
def edgeStale (s : State) (e : Edge) : Bool := decide ((s.conceal.lastSent.get e) ≠ some (edgeContent s e))

/-- The tables change places (R98). -/
def swapTables (s : State) : State :=
  s.setConceal { s.conceal with active := s.conceal.shadow, shadow := s.conceal.active, rebuild := .idle }

/-- A rerun starts when its mark is set (R98). -/
def startRerun (s : State) : State :=
  if s.conceal.rerun then startRebuild (s.setConceal { s.conceal with rerun := false }) else s

/-- The comparison of an installation, made in RUNNING (R98, R101). -/
def compareEdges (s : State) : State := if isRunning s then pendEdges (edgeStale s) s else s

/-- The installation at a boundary taken while the rebuild state is COMPLETE (R98). -/
def install (s : State) : State :=
  match s.conceal.rebuild with
  | .complete => startRerun (compareEdges (swapTables s))
  | _ => s

/-- A far-edge record that has reached its age limit (R107). -/
def farExpired (r : FarEdge) : Bool := r.valid && decide (Config.farEdgeLimit ≤ r.age)

/-- FAR_EDGE_EXPIRY: records whose age has reached 2,048 become INVALID, one trigger for all (R107, R96). -/
def takeFarExpiry (s : State) : State :=
  let far := s.conceal.far
  triggerIf (allEdges.any (fun e => farExpired (far.get e)))
    (s.setConceal
      { s.conceal with
        far := PerEdge.build (fun e => let r := far.get e; if farExpired r then { r with valid := false } else r) })

/-- A VALID far-edge record ages by one boundary (R107). -/
def ageFar (r : FarEdge) : FarEdge := if r.valid then { r with age := min Config.farEdgeLimit (r.age + 1) } else r

/-- The far-edge ageing of a boundary (R107, R110). -/
def farBoundary (t : Taking) (s : State) : State :=
  takeIf t takeFarExpiry
    (s.setConceal { s.conceal with far := PerEdge.build (fun e => ageFar (s.conceal.far.get e)) })

/-- The refresh count has reached 512 in RUNNING (R103). -/
def refreshDue (s : State) : Bool := isRunning s && decide (Config.refreshPeriod ≤ s.conceal.refresh)

/-- EDGE_REFRESH: the refresh count has reached 512 (R103). -/
def takeEdgeRefresh (s : State) : State :=
  if refreshDue s then
    pendEdges (fun _ => true) (s.setConceal { s.conceal with refresh := 0 })
  else s

/-- The refresh count's step at a boundary taken in RUNNING (R103). -/
def refreshBoundary (t : Taking) (s : State) : State :=
  if isRunning s then
    takeIf t takeEdgeRefresh
      (s.setConceal { s.conceal with refresh := min Config.refreshPeriod (s.conceal.refresh + 1) })
  else s

/-! ## Drive Value Unit (R78 to R88) -/

/-- The result of the stages for one cell. -/
structure DriveOut where
  value : Nat
  state : CellState
  clipped : Bool
  deriving DecidableEq, Repr

/-- The boost of a cell (R83). -/
def boost (bsum factor : Nat) : Nat := bsum * factor / 256

/-- The product of stage 5 (R84). -/
def product (v g b : Nat) : Nat := v * g * (256 + b)

/-- The rounded quotient of stage 6, before the clip (R84). -/
def rounded (p : Nat) : Nat := (p + 32768) / 65536

/-- The gain of a driven cell (R82). -/
def gainFor (st : CellState) (spareGain : Nat) : Nat :=
  match st with
  | .primary => Config.unitGain
  | .spare => spareGain
  | .hole => 0

/-- Stages 2 to 6 for one cell (R81 to R84). -/
def driveCell (v : Nat) (st : CellState) (spareGain bsum factor : Nat) : DriveOut :=
  match st with
  | .hole => ⟨0, .hole, false⟩
  | st =>
    let q := rounded (product v (gainFor st spareGain) (boost bsum factor))
    ⟨min Config.maxValue q, st, decide (Config.maxValue < q)⟩

/-- The video value used (R80). -/
def usedValue (s : State) (stored : Nat) : Nat := if s.rx.link.showsFrame && !s.scan.blank then stored else 0

/-- The drive values of a boundary, for every cell (R78, R79). -/
def driveTable (s : State) : Vector DriveOut Config.cellCount :=
  tzip (fun (a : CellState × Nat) (b : Nat × Nat) => driveCell b.1 a.1 a.2 b.2 s.gov.factor)
    (tzip (fun (r : CellRec) g => (r.state, effectiveGain r g)) s.map.cells s.map.factoryGain)
    (tzip (fun v (e : Entry) => (usedValue s v, e.bsum)) s.rx.frameStore s.conceal.active)

/-- The frame load of the drive values (R86). -/
def frameLoad (t : Vector DriveOut Config.cellCount) : Nat := (t.toList.map (fun o => o.value)).sum / 4096

/-- The clip count of the drive values (R85). -/
def clipCount (t : Vector DriveOut Config.cellCount) : Nat := tcount (fun o => o.clipped) t

/-- The Drive Value Unit's figures after a computation (R85 to R87). -/
def driveFigures (t : Vector DriveOut Config.cellCount) (d : Drive) : Drive :=
  ⟨clipCount t, frameLoad t, max d.peak (frameLoad t)⟩

/-- The value routed to chain P (R4). -/
def routeP (o : DriveOut) : Nat :=
  match o.state with
  | .primary => o.value
  | _ => 0

/-- The value routed to chain S (R4). -/
def routeS (o : DriveOut) : Nat :=
  match o.state with
  | .spare => o.value
  | _ => 0

/-- The computation, handed to the Scan Engine, which begins a new frame cycle with its values (R4, R5, R8, R88). -/
def driveBoundary (s : State) : State :=
  let t := driveTable s
  (s.setDrive (driveFigures t s.drive)).setScan
    { s.scan with
      position := .gap (.observe 0)
      chanP := tmap routeP t
      chanS := tmap routeS t
      seenBlank := s.scan.blank
      slot := [] }

/-! ## Load Governor (R112, R116 to R119) -/

/-- An entry of the peer list that stays (R116). -/
def peerLive (p : Peer) : Bool := decide (p.age < Config.peerAgeLimit)

/-- PEER_ENTRY_EXPIRY: entries whose age has reached 64 are removed (R116). -/
def takePeerExpiry (s : State) : State := s.setGov { s.gov with peers := s.gov.peers.filter peerLive }

/-- A peer entry ages by one boundary (R116). -/
def agePeer (p : Peer) : Peer := { p with age := min Config.peerAgeLimit (p.age + 1) }

/-- The ageing of the peer entries, first part of the Load Governor's boundary work (R117). -/
def agePeers (t : Taking) (s : State) : State :=
  takeIf t takePeerExpiry (s.setGov { s.gov with peers := s.gov.peers.map agePeer })

/-- The estimate E (R117): an entry whose age has reached 64 is not counted, whether or not its row has removed it. -/
def estimateOf (load : Nat) (peers : List Peer) : Nat := load + ((peers.filter peerLive).map (fun p => p.load)).sum

/-- The governor step: E, then S and OVER (R117 to R119). -/
def governorStep (s : State) : State :=
  let e := estimateOf s.drive.load s.gov.peers
  let f := factorAfter s.gov.limit e s.gov.factor
  let o := overAfter s.gov.limit e f s.gov.overFlag
  let t := s.setGov { s.gov with estimate := e, factor := f, overFlag := o }
  if o != s.gov.overFlag then raiseNotice t else t

/-- A LOAD becomes pending, unless the straps gave STRAP_FAULT (R112). -/
def pendLoad (s : State) : State := if s.sup.findings.strapFault then s else pend .load s

/-- The announcement counter has reached 16 in RUNNING (R112). -/
def announcementDue (s : State) : Bool := isRunning s && decide (Config.announcePeriod ≤ s.gov.counter)

/-- ANNOUNCEMENT_DUE: the announcement counter has reached 16 (R112). -/
def takeAnnouncement (s : State) : State :=
  if announcementDue s then pendLoad (s.setGov { s.gov with counter := 0 }) else s

/-- The announcement counter's step, in RUNNING (R112). -/
def announceBoundary (t : Taking) (s : State) : State :=
  if isRunning s then
    takeIf t takeAnnouncement (s.setGov { s.gov with counter := min Config.announcePeriod (s.gov.counter + 1) })
  else s

/-- The Load Governor's boundary work (R117). -/
def governorBoundary (t : Taking) (s : State) : State := announceBoundary t (governorStep (agePeers t s))

/-! ## The boundary handed to the blocks (R27) -/

/-- The work of the blocks that follow the display: nothing before READY_WAIT but the installation (R15, R51, R78, R110, R122). The
order of the blocks is a DESIGN CHOICE where the rules leave it open (log entry 7). -/
def boundary (t : Taking) (s : State) : State :=
  if displayRuns s then
    governorBoundary t
      (driveBoundary (refreshBoundary t (farBoundary t (install (healthBoundary t (judgePeriod t s))))))
  else install s

/-- The holding count has reached 30 in HOLDING (R25). -/
def darkDue (s : State) : Bool := decide (s.rx.link = .holding) && decide (Config.holdingLimit ≤ s.rx.holding)

/-- DARK_ENTRY: the holding count has reached 30 and its boundary has been handed over (R25, R30). -/
def takeDark (s : State) : State := if darkDue s then raiseNotice (s.setRx { s.rx with link := .dark }) else s

end Sys2Proof.Machine
end

