-- ==== Sys2Proof/Machine/Concealment.lean ====
section
/-! DEFINITION. The rebuild's arithmetic and the meanings of the Concealment Unit's commands (chapter 6). -/

namespace Sys2Proof.Machine

/-- Hole membership of a cell in a snapshot (R97). -/
def snapHole (n : Snapshot) (c : Nat) : Bool := tget n.holes c false

/-- A far-edge record's entry, as R93 and R95 use it: none unless the record is VALID. -/
def farEntry (n : Snapshot) (e : Edge) (i : Nat) : Option EdgeEntry :=
  let r := n.far.get e
  if r.present && r.valid then some (tget r.entries i .working) else none

/-- A neighbour is working (R93). -/
def neighbourWorks (n : Snapshot) (p : Place) : Bool :=
  match p with
  | .inside c => !snapHole n c
  | .across e i => decide (farEntry n e i = some .working)

/-- The number of working neighbours of a cell (R93). -/
def workingCount (n : Snapshot) (c : Nat) : Nat := allEdges.countP (fun dir => neighbourWorks n (neighbour c dir))

/-- The share of a hole (R94): 0 without working neighbours. -/
def shareOf (n : Snapshot) (c : Nat) : Nat := if workingCount n c = 0 then 0 else n.k / workingCount n c

/-- What a neighbour asks of a cell (R95). -/
def askedBy (n : Snapshot) (p : Place) : Nat :=
  match p with
  | .inside c => if snapHole n c then shareOf n c else 0
  | .across e i =>
    match farEntry n e i with
    | some (.hole sh) => sh
    | _ => 0

/-- The boost sum of a cell (R95). -/
def bsumOf (n : Snapshot) (c : Nat) : Nat :=
  min Config.maxBsum ((allEdges.map (fun dir => askedBy n (neighbour c dir))).sum)

/-- The entry a rebuild writes for a cell (R94, R95). -/
def rebuiltEntry (n : Snapshot) (c : Nat) : Entry := if snapHole n c then .hole (shareOf n c) else .lit (bsumOf n c)

/-- The table a rebuild writes (R97). -/
def rebuiltTable (n : Snapshot) : Vector Entry Config.cellCount := tbuild Config.cellCount (rebuiltEntry n)

/-- REBUILD_COMPLETE (R96, R97). -/
def execRebuildComplete (s : State) : Answer :=
  match s.conceal.rebuild with
  | .running n => .next (s.setConceal { s.conceal with shadow := rebuiltTable n, rebuild := .complete })
  | _ => .next s

/-- FAR_EDGE_EXPIRY (R107). -/
def execFarEdgeExpiry (s : State) : Answer := .next (takeFarExpiry s)

/-- EDGE_REFRESH (R103). -/
def execEdgeRefresh (s : State) : Answer :=
  if refreshDue s then .next (fillBanks (takeEdgeRefresh s)) else .next s

end Sys2Proof.Machine
end

