-- ==== Sys2Proof/Machine/LoadSharing.lean ====
section
/-! DEFINITION. The meanings of the Load Governor's own commands (chapter 7). -/

namespace Sys2Proof.Machine

/-- ANNOUNCEMENT_DUE (R112). -/
def execAnnouncementDue (s : State) : Answer :=
  if announcementDue s then .next (fillBanks (takeAnnouncement s)) else .next s

/-- PEER_ENTRY_EXPIRY (R116). -/
def execPeerEntryExpiry (s : State) : Answer := .next (takePeerExpiry s)

end Sys2Proof.Machine
end

