-- ==== Sys2Proof/Machine/Line.lean ====
section
/-! DEFINITION. The two serial lines: the seam line (R124), with the bits of a byte and of a frame, what the tile drives, and how the
receiver reads a line; and the pixel link (R19, 12.6), with its records cut at idle and read as bytes. -/

namespace Sys2Proof.Machine

/-! ## Sending -/

/-- The level of a bit: a 0 is dominant, a 1 recessive (R124). -/
def bitLevel (bit : Bool) : Level := if bit then .recessive else .dominant

/-- The data bits of a byte, most significant first (R124). -/
def dataBits (b : Byte) : List Bool := [7, 6, 5, 4, 3, 2, 1, 0].map (fun i => b.getLsbD i)

/-- The ten bit times of a byte: a dominant start bit, the data bits, a recessive stop bit (R124). -/
def byteLevels (b : Byte) : List Level := .dominant :: ((dataBits b).map bitLevel ++ [.recessive])

/-- The bit times of a frame: its bytes back to back (R124). -/
def frameLevels (bytes : List Byte) : List Level := bytes.flatMap byteLevels

/-- The line of bytes sent back to back, in bit times of `bit` ns. -/
def serialLine (bit : Nat) (bytes : List Byte) : List LineRun := (frameLevels bytes).map (fun l => ⟨l, bit⟩)

/-- The line of a frame sent alone: every bit time of 2 µs (R124). -/
def frameLine (bytes : List Byte) : List LineRun := serialLine Config.bitNs bytes

/-- The pixel link as it carries the bytes of a record: ten bit times a byte, at 50 Mbit/s, a 1 at the stop level (12.6; DESIGN CHOICE
for the level, log entry 29). -/
def linkLine (bytes : List Byte) : List LineRun := serialLine Config.linkBitNs bytes

/-- The line under several stations: dominant whenever any of them drives it (R124). -/
def wiredLevel (sent : List Level) : Level := if sent.contains .dominant then .dominant else .recessive

/-- What the tile sends in bit time `k` of its attempt, dominant when it drives the line low; without an attempt it leaves the line
undriven (R124, R128). -/
def drivenLevel (s : State) (k : Nat) : Level :=
  match s.seam.tx, s.seam.lineBank with
  | .quiet, _ => .recessive
  | _, none => .recessive
  | _, some c => (frameLevels c.bytes).getD k .recessive

/-! ## Reading -/

/-- How long a line begins dominant, in ns. -/
def dominantFor : List LineRun → Nat
  | [] => 0
  | ⟨.recessive, _⟩ :: _ => 0
  | ⟨.dominant, n⟩ :: rest => n + dominantFor rest

/-- The filter of R124 behind `before` ns of dominant line: a dominant pulse shorter than 1 µs in all is ignored. -/
def filterFrom : Nat → List LineRun → List LineRun
  | _, [] => []
  | _, ⟨.recessive, n⟩ :: rest => ⟨.recessive, n⟩ :: filterFrom 0 rest
  | before, ⟨.dominant, n⟩ :: rest =>
    ⟨if before + n + dominantFor rest < Config.glitchNs then .recessive else .dominant, n⟩ :: filterFrom (before + n) rest

/-- A line without its stretches of no length. -/
def realRuns (line : List LineRun) : List LineRun := line.filter (fun r => decide (0 < r.ns))

/-- The line as the receiver sees it (R124). -/
def filteredLine (line : List LineRun) : List LineRun := filterFrom 0 (realRuns line)

/-- The level of a line `t` ns from its beginning; behind its end the line is idle. -/
def levelAt : List LineRun → Nat → Level
  | [], _ => .recessive
  | r :: rest, t => if t < r.ns then r.level else levelAt rest (t - r.ns)

/-- The line from `t` ns on. -/
def lineFrom : List LineRun → Nat → List LineRun
  | [], _ => []
  | r :: rest, t => if t < r.ns then ⟨r.level, r.ns - t⟩ :: rest else lineFrom rest (t - r.ns)

/-- The middle of a byte's bit time `i`, of `bit` ns, counted from the falling edge of its start bit (R124). -/
def bitMiddle (bit i : Nat) : Nat := i * bit + bit / 2

/-- The byte whose bits these are, most significant first. -/
def byteOfBits (bits : List Bool) : Byte := byteOf (bits.foldl (fun n b => 2 * n + b.toNat) 0)

/-- The data bits read at the middle of their bit times (R124). -/
def readData (bit : Nat) (line : List LineRun) : Byte :=
  byteOfBits ([1, 2, 3, 4, 5, 6, 7, 8].map (fun i => decide (levelAt line (bitMiddle bit i) = .recessive)))

/-- The line from the next falling edge on, after `quiet` ns of recessive line; none when `limit` ns of recessive line come first. -/
def nextEdge (limit : Nat) : Nat → List LineRun → Option (List LineRun)
  | _, [] => none
  | _, ⟨.dominant, n⟩ :: rest => some (⟨.dominant, n⟩ :: rest)
  | quiet, ⟨.recessive, n⟩ :: rest => if limit ≤ quiet + n then none else nextEdge limit (quiet + n) rest

/-- Recessive time from the middle of a stop bit to the end of the frame: the rest of the stop bit and 24 µs (R125). -/
def frameEndNs : Nat := Config.bitNs / 2 + Config.seamIdleUs * 1000

/-- The bytes of a line from the falling edge of a start bit on, up to `limit` ns of recessive line behind the middle of a stop bit, none
when a stop bit reads dominant (R124, R125). The start bit itself is not sampled: on the pixel link, which has no filter, any stretch of
1 ns or more away from the stop level begins a unit (DESIGN CHOICE, log entry 29). -/
def readBytes (bit limit : Nat) : Nat → List LineRun → Option (List Byte)
  | 0, _ => some []
  | fuel + 1, line =>
    match levelAt line (bitMiddle bit 9) with
    | .dominant => none
    | .recessive =>
      match nextEdge limit 0 (lineFrom line (bitMiddle bit 9)) with
      | none => some [readData bit line]
      | some next => (readBytes bit limit fuel next).map (fun bs => readData bit line :: bs)

/-- The bytes on a line, from its first start bit on. Each byte takes at least two stretches of the line, so their number bounds the
bytes. -/
def readSerial (bit limit : Nat) (line : List LineRun) : Option (List Byte) :=
  match line.dropWhile (fun r => decide (r.level = .recessive)) with
  | [] => some []
  | first => readBytes bit limit first.length first

/-- The bytes the receiver reads from a line on which one frame is sent, none at a framing error (R124, R125). -/
def readLine (line : List LineRun) : Option (List Byte) := readSerial Config.bitNs frameEndNs (filteredLine line)

/-! ## The pixel link (R19) -/

/-- A stretch goes to the front of the first part of a link. -/
def addRun (r : LineRun) : List (List LineRun × Bool) → List (List LineRun × Bool)
  | [] => [([r], false)]
  | (part, ended) :: parts => (r :: part, ended) :: parts

/-- A link in parts, each but the last ended by the moment at which the link has stayed at the stop level for 1 µs (R19). `quiet` is how
long it has been at the stop level before; an idle link stays idle until the level changes. -/
def cutAtIdle : Nat → List LineRun → List (List LineRun × Bool)
  | _, [] => [([], false)]
  | quiet, ⟨.recessive, n⟩ :: rest =>
    if quiet < Config.linkIdleNs ∧ Config.linkIdleNs ≤ quiet + n then ([], true) :: cutAtIdle (quiet + n) rest
    else addRun ⟨.recessive, n⟩ (cutAtIdle (quiet + n) rest)
  | _, ⟨.dominant, n⟩ :: rest => addRun ⟨.dominant, n⟩ (cutAtIdle 0 rest)

/-- The parts of what the pixel link has shown. -/
def linkParts (link : List LineRun) : List (List LineRun × Bool) := cutAtIdle 0 (realRuns link)

/-- The units of data in a part of the link, none when one has no stop bit (12.6; DESIGN CHOICE, log entry 29). -/
def readLink (part : List LineRun) : Option (List Byte) := readSerial Config.linkBitNs Config.linkIdleNs part

end Sys2Proof.Machine
end

