-- ==== Sys2Proof/Machine/Pixel.lean ====
section
/-! DEFINITION. The meanings of the pixel link's commands (02_pixel_link_and_frame_timing.md). -/

namespace Sys2Proof.Machine

/-- The frame store an accepted frame gives (R21, R22). -/
def storedFrame : PixelFrame → Vector Nat Config.cellCount
  | .video values => tofList _ (values.map (fun v => min Config.maxValue v)) 0
  | .blank => Vector.replicate _ 0

/-- A link that leaves DARK raises the tile notice (R30). -/
def noticeLeavingDark (s : State) : State :=
  match s.rx.link with
  | .dark => raiseNotice s
  | _ => s

/-- The receiver's own changes at a real boundary, in the order of R27 (R21 to R25). -/
def acceptFrame (f : PixelFrame) (s : State) : State :=
  let t := noticeLeavingDark s
  t.setRx
    { t.rx with
      frameStore := storedFrame f
      link := .locked
      holding := 0
      timer := .oneAndHalfT
      buffer := [] }

/-- A record that is discarded changes nothing but the receive buffer (R20). -/
def discardRecord (s : State) : State := s.setRx { s.rx with buffer := [], inTail := false }

/-- The data of a part of the link goes into the receive buffer, but for a tail, which is discarded (R19). One byte more than the longest
record is kept, which stands for the count of all that follows. Behind a unit without its stop bit, what arrives is discarded like a
tail (DESIGN CHOICE, log entry 29). -/
def collect (part : List LineRun) (b : PixelRx) : PixelRx :=
  if b.inTail then b
  else match readLink part with
    | none => { b with inTail := true }
    | some bytes => { b with buffer := (b.buffer ++ bytes).take (Config.recordBytes + 1) }

/-- The record's end: it is accepted or discarded (R19, R20, R27). The banks are filled behind the boundary's whole work, so a tile notice
that the event raises carries the clip count and L of its own boundary; R90 and R134 leave that order open (DESIGN CHOICE, log
entry 9). -/
def endRecord (taking : Taking) (s : State) : State :=
  if s.rx.inTail then discardRecord s
  else match readRecord s.rx.buffer with
    | none => discardRecord s
    | some f => fillBanks (boundary taking (acceptFrame f s))

/-- A part of the link is collected, and an idle behind it ends the record (R19). -/
def takePart (taking : Taking) (s : State) (part : List LineRun × Bool) : State :=
  let t := s.setRx (collect part.1 s.rx)
  if part.2 then endRecord taking t else t

/-- RECORD_END (R19, R20): what the link has shown is taken part by part. A stopped receiver ignores the link (R31). -/
def execRecordEnd (link : List LineRun) (taking : Taking) (s : State) : Answer :=
  if s.rx.started then .next ((linkParts link).foldl (takePart taking) s) else .next s

/-- The link state and holding count at the interval timer's expiry (R23, R25). -/
def expireLink (b : PixelRx) : PixelRx :=
  match b.link with
  | .search => b
  | .locked => { b with link := .holding, holding := 1 }
  | .holding => { b with holding := min Config.holdingLimit (b.holding + 1) }
  | .dark => b

/-- The receiver's own changes at a synthetic boundary (R24, R27). -/
def expireInterval (s : State) : State := s.setRx { expireLink s.rx with timer := .oneT }

/-- INTERVAL_TIMER_EXPIRY (R24, R27): the entry into DARK comes in the same event, after the boundary (R25), however the other
follow-on events of the boundary are taken. -/
def execIntervalTimerExpiry (taking : Taking) (s : State) : Answer :=
  match s.rx.timer with
  | .stopped => .next s
  | _ => .next (fillBanks (takeDark (boundary taking (expireInterval s))))

/-- DARK_ENTRY (R25, R30): the part of the expiry's event that its row names. An expiry takes it itself, so a run leaves none due
(log entry 1). -/
def execDarkEntry (s : State) : Answer := if darkDue s then .next (fillBanks (takeDark s)) else .next s

end Sys2Proof.Machine
end

