-- ==== Sys2Proof/Machine/ScanCycle.lean ====
section
/-! DEFINITION. The meanings of the scan and observation commands (chapters 1 and 3): shifts, sense passes, probe selection and
probe results. -/

namespace Sys2Proof.Machine

/-- The Scan Engine goes to the gap before a position, and its shift begins (R5, R7). -/
def toGap (next : LitPos) (s : State) : State :=
  s.setScan { s.scan with position := .gap next, seenBlank := s.scan.blank }

/-- Probes handed back as NOT_MADE leave the plan and change nothing else (R47). -/
def notMade (ds : List Nat) (s : State) : State :=
  s.setHealth { s.health with plan := s.health.plan.filter (fun d => !ds.contains d) }

/-- The rest of the probe slot is handed back as NOT_MADE, and the cycle goes on to the refresh rounds (R10). -/
def abandonSlot (s : State) : State :=
  let t := notMade s.scan.slot s
  toGap (.refresh 0) (t.setScan { t.scan with slot := [] })

/-- A shift whose markers both came back lights its position (R6). -/
def lightPosition (next : LitPos) (s : State) : State :=
  let t := markerGood s
  t.setScan { t.scan with position := .run next true }

/-- A shift with a FAILED marker (R6, R10, R11): the position runs unlit, a probe is NOT_MADE. -/
def failPosition (next : LitPos) (s : State) : State :=
  let t := markerFailed s
  match next with
  | .probe _ => abandonSlot t
  | _ => t.setScan { t.scan with position := .run next false }

/-- SHIFT_COMPLETE (R6, R11). -/
def execShiftComplete (markerP markerS : Bool) (s : State) : Answer :=
  match s.scan.position with
  | .gap next =>
    if markerP && markerS then .next (lightPosition next s) else .next (fillBanks (failPosition next s))
  | _ => .next s

/-- BLANK_FLAG_CLEAR (R12). -/
def execBlankFlagClear (s : State) : Answer :=
  if blankClearDue s then .next (fillBanks (takeBlankClear s)) else .next s

/-! ## Sense passes (R7, R35, R39 to R42) -/

/-- Entries of one half whose result is OPEN or SHORT: driven, and measured faulty (R41). A channel driven at 0 is OFF (R7). -/
def faultyEntries (p : Nat) (chan : Vector Nat Config.cellCount) (m : Vector Measure Config.channelCount) : Nat :=
  chan.toList.zipIdx.countP
    (fun q => decide (phaseOf q.2 = p) && decide (q.1 ≠ 0) && decide (tget m (channelOf q.2) .ok ≠ .ok))

/-- A half is taken: fewer than 64 faulty entries (R41). -/
def halfTaken (p : Nat) (chan : Vector Nat Config.cellCount) (m : Vector Measure Config.channelCount) : Bool :=
  decide (faultyEntries p chan m < Config.anomalyThreshold)

/-- The observation a half's entry makes of the die of cell `c`, if any (R35). -/
def entryObservation (p c : Nat) (chan : Vector Nat Config.cellCount) (m : Vector Measure Config.channelCount) : Option Measure :=
  if phaseOf c = p ∧ Config.observationFloor ≤ tget chan c 0 then some (tget m (channelOf c) .ok) else none

/-- The observation a pass makes of a die, if any (R35, R41). -/
def passObservation (s : State) (p : Nat) (mP mS : Vector Measure Config.channelCount) (d : Nat) : Option Measure :=
  if isSpareDie d then
    if halfTaken p s.scan.chanS mS then entryObservation p (cellOfDie d) s.scan.chanS mS else none
  else
    if halfTaken p s.scan.chanP mP then entryObservation p (cellOfDie d) s.scan.chanP mP else none

/-- A die record after a pass (R35, R36). -/
def afterPass (o : Option Measure) (r : DieRec) : DieRec :=
  match o with
  | none => r
  | some m => observe false m r

/-- The period findings after a pass's two halves (R42). -/
def findingsAfter (takenP takenS : Bool) (f : PeriodFindings) : PeriodFindings :=
  if takenP && takenS then
    match f with
    | .anomalous => .anomalous
    | _ => .clean
  else .anomalous

/-- The dies that an event moved to FAILED, in ascending index (R39). -/
def newFailures (before after : Vector DieRec Config.dieCount) : List Nat := tindexes id (tzip becameFailed before after)

/-- A pass that is not void (R41, R42, R39). -/
def takePass (p : Nat) (mP mS : Vector Measure Config.channelCount) (s : State) : State :=
  let dies := tmapIdx (fun d r => afterPass (passObservation s p mP mS d) r) s.health.dies
  takeNotices (newFailures s.health.dies dies)
    (s.setHealth
      { s.health with
        dies := dies
        findings := findingsAfter (halfTaken p s.scan.chanP mP) (halfTaken p s.scan.chanS mS) s.health.findings })

/-! ## Probe selection (R44, R45, R48) -/

/-- The dies of a request entry whose marks are clear, the primary first (R44). -/
def wantedDies (q : ProbeReq) : List Nat :=
  (if q.primaryDone then [] else [primaryDie q.cell]) ++ (if q.spareDone then [] else [spareDie q.cell])

/-- A die is added to the plan while there is room, and not twice (R44). -/
def addToPlan (plan : List Nat) (d : Nat) : List Nat :=
  if plan.length < Config.probePlanSize ∧ d ∉ plan then plan ++ [d] else plan

/-- The dies the probe request list supplies (R44 step 1). -/
def planFromRequests (reqs : List ProbeReq) : List Nat := (reqs.flatMap wantedDies).foldl addToPlan []

/-- A die qualifies for the sweep (R45). -/
def sweepTakes (s : State) (plan : List Nat) (d : Nat) : Bool :=
  !dieFailed s d && !plan.contains d &&
    (decide (drivenDie (cellOfDie d) (cellAt s (cellOfDie d)).state ≠ some d) || decide (Config.sweepAge ≤ (dieAt s d).age))

/-- The sweep supplies one die, if the plan has room and a die qualifies (R45). -/
def sweepOne (s : State) (q : List Nat × Nat) : List Nat × Nat :=
  if q.1.length < Config.probePlanSize then
    match findFrom Config.dieCount q.2 (sweepTakes s q.1) with
    | none => q
    | some d => (q.1 ++ [d], cursorPast Config.dieCount d)
  else q

/-- The plan and the sweep cursor after the choice of a slot's dies (R44). -/
def choosePlan (s : State) : List Nat × Nat :=
  sweepOne s (sweepOne s (sweepOne s (sweepOne s (planFromRequests s.health.requests, s.health.cursor))))

/-- The Health Monitor chooses the slot's dies and returns them (R44, R9). -/
def chooseDies (s : State) : State :=
  let q := choosePlan s
  (s.setHealth { s.health with plan := q.1, cursor := q.2 }).setScan { s.scan with slot := q.1 }

/-- Where the cycle goes when a slot's dies are known (R9). -/
def slotStart (ds : List Nat) : LitPos :=
  match ds with
  | [] => .refresh 0
  | _ => .probe 0

/-- The cycle reaches the probe slot (R9, R10, R48). -/
def reachProbeSlot (s : State) : State :=
  if s.scan.blank then toGap (.refresh 0) s
  else
    let t := chooseDies s
    toGap (slotStart t.scan.slot) t

/-- Where the cycle goes after an OBSERVE position (R5). -/
def afterObserve (p : Fin 4) (s : State) : State :=
  if p = 3 then reachProbeSlot s else toGap (.observe (p + 1)) s

/-- OBSERVE_END (R7, R40): a void pass is discarded whole. A write begins behind the pass's last notice, from all the marks the pass
has set; R35, R61 and R146 leave open whether it begins behind the first (DESIGN CHOICE, log entry 9). -/
def execObserveEnd (mP mS : Vector Measure Config.channelCount) (s : State) : Answer :=
  match s.scan.position with
  | .run (.observe p) _ =>
    if s.scan.seenBlank || s.scan.blank then .next (afterObserve p s)
    else .next (settle (afterObserve p (takePass p.val mP mS s)))
  | _ => .next s

/-- REFRESH_POSITION_END (R5). -/
def execRefreshPositionEnd (s : State) : Answer :=
  match s.scan.position with
  | .run (.refresh p) _ => .next (toGap (.refresh (p + 1)) s)
  | _ => .next s

/-! ## Probe results (R46, R47) -/

/-- The request list with a die's mark set; an entry with both marks set leaves (R46). -/
def markProbed (d : Nat) (reqs : List ProbeReq) : List ProbeReq :=
  (reqs.map (fun q =>
      if q.cell = cellOfDie d then
        if isSpareDie d then { q with spareDone := true } else { q with primaryDone := true }
      else q)).filter
    (fun q => !(decide (q.cell = cellOfDie d) && q.primaryDone && q.spareDone))

/-- The Health Monitor takes a probe result (R46); a die that is not in the plan is not touched (R47). -/
def takeProbeResult (d : Nat) (m : Measure) (s : State) : State :=
  if s.health.plan.contains d then
    let r := observe true m (dieAt s d)
    takeNotices (if becameFailed (dieAt s d) r then [d] else [])
      (s.setHealth
        { s.health with
          dies := tset s.health.dies d r
          plan := s.health.plan.filter (fun x => x != d)
          requests := markProbed d s.health.requests })
  else s

/-- Where the cycle goes after a PROBE position (R9). -/
def afterProbe (n : Nat) (rest : List Nat) : LitPos :=
  match rest with
  | [] => .refresh 0
  | _ => .probe (n + 1)

/-- A probe that was made: its result is taken, and the cycle goes on (R9, R46). -/
def endProbe (n d : Nat) (rest : List Nat) (m : Measure) (s : State) : State :=
  let t := takeProbeResult d m s
  toGap (afterProbe n rest) (t.setScan { t.scan with slot := rest })

/-- PROBE_END (R9): with the blank flag set the slot is suspended, and its probes are NOT_MADE (R10). -/
def execProbeEnd (m : Measure) (s : State) : Answer :=
  match s.scan.position, s.scan.slot with
  | .run (.probe _) _, [] => .next (toGap (.refresh 0) s)
  | .run (.probe n) _, d :: rest =>
    if s.scan.blank then .next (abandonSlot s) else .next (settle (endProbe n d rest m s))
  | _, _ => .next s

/-- ANOMALY_RUN_NOTICE (R42). -/
def execAnomalyRunNotice (s : State) : Answer :=
  if s.health.anomalyDue then .next (fillBanks (takeAnomalyNotice s)) else .next s

end Sys2Proof.Machine
end

