-- ==== Sys2Proof/Machine/Requests.lean ====
section
/-! DEFINITION. The Service Port's taking of a request (R155 to R162), the hearing of a frame (R127, R132), and the meanings of the
request commands. -/

namespace Sys2Proof.Machine

/-! ## Deciding a request (R155) -/

/-- What R155 decides. -/
inductive Decision
  | refuse (r : ReplyResult)
  | long (k : LongKind)
  | carryOut
  deriving DecidableEq, Repr

/-- A request answered in every supervisor state and to every target: STATUS (R155 steps 2 and 3). -/
def Request.isStatus : Request → Bool
  | .status => true
  | _ => false

/-- The long requests (R155 step 5). -/
def Request.longKind : Request → Option LongKind
  | .commit => some .commit
  | .restart => some .restart
  | _ => none

/-- A request answered while a long request is in execution (R155 step 4). -/
def Request.answeredWhileBusy : Request → Bool
  | .status => true
  | .readCell _ => true
  | _ => false

/-- A request whose kind names none of the kinds (R155 step 1). -/
def Request.isUnknown : Request → Bool
  | .unknown _ => true
  | _ => false

/-- The steps of R155, the first that applies. -/
def requestDecision (s : State) (target : Byte) (r : Request) : Decision :=
  if r.isUnknown then .refuse .badValue
  else if !isRunning s && !r.isStatus then .refuse .notReady
  else if decide (target.toNat = Config.allStations) && !r.isStatus && r.longKind.isNone then .refuse .badTarget
  else if s.port.request.isSome && !r.answeredWhileBusy then .refuse .busy
  else match r.longKind with
    | some k => .long k
    | none => .carryOut

/-! ## Replies and effects (R156 to R159) -/

/-- A reply is placed in the immediate reply slot and its item made pending (R156). -/
def answer (source : Nat) (r : Request) (result : ReplyResult) (body : ReplyBody) (s : State) : State :=
  pend .immediateReply
    (s.setPort { s.port with immediate := some ⟨source, r.kind, result, 0, body, none⟩ })

/-- The die a FORCE targets (R62). -/
def targetDie (c : Nat) (st : CellState) : Option Nat := drivenDie c st

/-- The target die is FAILED (R62); HOLE has none. -/
def targetFailed (s : State) (c : Nat) (st : CellState) : Bool :=
  match targetDie c st with
  | none => false
  | some d => dieFailed s d

/-- The Health Monitor clears a die (R49). -/
def clearDie (d : Nat) (s : State) : State := setDie d { dieAt s d with health := .good, strike := 0 } s

/-- The target die is cleared when it is FAILED; a FORCE onto a FAILED die is carried out only with the clear flag (R62, R63). -/
def clearTarget (c : Nat) (st : CellState) (s : State) : State :=
  match targetDie c st with
  | none => s
  | some d => if dieFailed s d then clearDie d s else s

/-- A FORCE that is carried out (R63, R64). -/
def carryForce (c : Nat) (st : CellState) (s : State) : State :=
  let r := cellAt s c
  let r' : CellRec := { r with state := st, forced := true }
  let t := clearTarget c st s
  if r' = r ∧ targetFailed s c st = false then t else changeCell c r' .forced t

/-- FORCE by its checks in order (R62). -/
def doForce (source : Nat) (r : Request) (f : CellField) (code clear : Byte) (s : State) : State :=
  match cellOf f, cellStateOfCode code.toNat with
  | none, _ => answer source r .badCell .empty s
  | some _, none => answer source r .badValue .empty s
  | some c, some st =>
    if targetFailed s c st && decide (clear = 0#8) then answer source r .dieFailed .empty s
    else answer source r .done .empty (carryForce c st s)

/-- The record of a cell that RELEASE unforces (R66). -/
def releasedRecord (s : State) (c : Nat) : CellRec :=
  let r := cellAt s c
  { r with
    forced := false
    state := transition r.state (dieFailed s (primaryDie c)) (dieFailed s (spareDie c)) }

/-- RELEASE of a cell (R66). -/
def carryRelease (c : Nat) (s : State) : State :=
  if (cellAt s c).forced then changeCell c (releasedRecord s c) .released s else s

/-- RELEASE (R66). -/
def doRelease (source : Nat) (r : Request) (f : CellField) (s : State) : State :=
  match cellOf f with
  | none => answer source r .badCell .empty s
  | some c => answer source r .done .empty (carryRelease c s)

/-- The override a SET GAIN asks for (R67): mode 0 a clamped code, any other mode none. -/
def askedGain (mode : Byte) (code : Nat) : Option Nat := if mode = 0#8 then some (clampGain code) else none

/-- SET GAIN of a cell (R67). -/
def carrySetGain (c : Nat) (g : Option Nat) (s : State) : State :=
  let r := cellAt s c
  if r.gain = g then s else changeCell c { r with gain := g } .gainSet s

/-- SET GAIN (R67): the reply gives the value taken, or the factory gain after a clear. -/
def doSetGain (source : Nat) (r : Request) (f : CellField) (mode : Byte) (code : Nat) (s : State) : State :=
  match cellOf f with
  | none => answer source r .badCell .empty s
  | some c =>
    let g := askedGain mode code
    answer source r .done (.value16 (g.getD (factoryGainAt s c))) (carrySetGain c g s)

/-- PROBE (R43). -/
def doProbe (source : Nat) (r : Request) (f : CellField) (s : State) : State :=
  match cellOf f with
  | none => answer source r .badCell .empty s
  | some c =>
    if s.health.requests.any (fun q => q.cell == c) then answer source r .done .empty s
    else if s.health.requests.length < Config.probeListSize then
      answer source r .done .empty
        (s.setHealth { s.health with requests := s.health.requests ++ [⟨c, false, false⟩] })
    else answer source r .queueFull .empty s

/-- READ CELL (R158). -/
def doReadCell (source : Nat) (r : Request) (f : CellField) (s : State) : State :=
  match cellOf f with
  | none => answer source r .badCell .empty s
  | some c => answer source r .done (.cell c) s

/-- LIST FAULTS (R158). -/
def doListFaults (source : Nat) (r : Request) (start : Nat) (s : State) : State :=
  if start < Config.cellCount then answer source r .done (.faults start) s else answer source r .badCell .empty s

/-- SET CONCEAL (R159, R96). -/
def doSetConceal (source : Nat) (r : Request) (k : Nat) (s : State) : State :=
  answer source r .done (.value8 k) (trigger (markSettings (s.setConceal { s.conceal with k := k })))

/-- SET LIMIT (R120, R159). -/
def doSetLimit (source : Nat) (r : Request) (v : Nat) (s : State) : State :=
  answer source r .done (.value16 (clampLimit v)) (markSettings (s.setGov { s.gov with limit := clampLimit v }))

/-- A request of step 6 is carried out (R155, R157 to R159). -/
def carryOut (source : Nat) (r : Request) (s : State) : State :=
  match r with
  | .status => answer source r .done .status s
  | .readCell f => doReadCell source r f s
  | .listFaults n => doListFaults source r n s
  | .force f code clear => doForce source r f code clear s
  | .release f => doRelease source r f s
  | .setGain f mode code => doSetGain source r f mode code s
  | .probe f => doProbe source r f s
  | .setConceal k => doSetConceal source r k s
  | .setLimit v => doSetLimit source r v s
  | .unknown _ => s
  | .commit => s
  | .restart => s

/-- A COMMIT or RESTART is taken into execution and judged (R160 to R162). -/
def takeLong (source : Nat) (k : LongKind) (s : State) : State :=
  judgeLong (s.setPort { s.port with request := some ⟨k, source, .executing⟩ })

/-- The Service Port takes a request (R155): it is dropped when the slot its reply would come from is full. -/
def takeRequest (source : Nat) (target : Byte) (r : Request) (s : State) : State :=
  match requestDecision s target r with
  | .long k => if s.port.long.isSome then s else takeLong source k s
  | .refuse result => if s.port.immediate.isSome then s else answer source r result .empty s
  | .carryOut => if s.port.immediate.isSome then s else carryOut source r s

/-! ## Hearing a frame (R125, R127, R132) -/

/-- The receiver hears frames: it is IDLE or IN_FRAME. A frame-end command brings the frame, so that its falling edge, which has no
row when the tile does not join, needs no command before it (log entry 11). -/
def hearing (s : State) : Bool := decide (s.seam.recv = .idle) || decide (s.seam.recv = .inFrame)

/-- The frame being heard has ended: IDLE, with an empty buffer (R125). -/
def endFrame (s : State) : State :=
  s.setSeam { s.seam with recv := .idle, buffer := [], count := 0, ownSent := false }

/-- A well-formed frame: the test of R132, then the hand-off if the frame is accepted (R127). -/
def judged (source : Nat) (target : Byte) (hand : State → State) (s : State) : State :=
  let t := if source = s.seam.own then enterClash s else s
  if target.toNat = s.seam.own ∨ target.toNat = Config.allStations then hand t else t

/-- The end of a frame whose well-formedness is `ok` and whose owner does `hand` with it. A row that brings another station's frame
is taken so behind FRAME_COMPLETE too, without SEAM_FRAME_END before it (DESIGN CHOICE, log entry 11). What follows the hand-off in the
event, `settle`, is in the order of log entry 9. -/
def hearFrame (ok : Bool) (source : Nat) (target : Byte) (hand : State → State) (s : State) : State :=
  if hearing s then
    if ok then settle (judged source target hand (endFrame s)) else endFrame s
  else s

/-- The end of a REQUEST frame with this request. -/
def hearRequest (source : Nat) (target : Byte) (r : Request) (s : State) : State :=
  hearFrame (decide (source ≤ 30)) source target (takeRequest source target r) s

/-! ## The request commands -/

/-- STATUS (R157). -/
def execStatus (source : Nat) (target : Byte) (s : State) : Answer := .next (hearRequest source target .status s)

/-- READ_CELL (R158). -/
def execReadCell (source : Nat) (target : Byte) (cell : CellField) (s : State) : Answer :=
  .next (hearRequest source target (.readCell cell) s)

/-- LIST_FAULTS (R158). -/
def execListFaults (source : Nat) (target : Byte) (start : Half) (s : State) : Answer :=
  .next (hearRequest source target (.listFaults start.toNat) s)

/-- FORCE (R62 to R64). -/
def execForce (source : Nat) (target : Byte) (cell : CellField) (code clear : Byte) (s : State) : Answer :=
  .next (hearRequest source target (.force cell code clear) s)

/-- RELEASE (R66). -/
def execRelease (source : Nat) (target : Byte) (cell : CellField) (s : State) : Answer :=
  .next (hearRequest source target (.release cell) s)

/-- SET_GAIN (R67). -/
def execSetGain (source : Nat) (target : Byte) (cell : CellField) (mode : Byte) (code : Half) (s : State) : Answer :=
  .next (hearRequest source target (.setGain cell mode code.toNat) s)

/-- PROBE (R43). -/
def execProbe (source : Nat) (target : Byte) (cell : CellField) (s : State) : Answer :=
  .next (hearRequest source target (.probe cell) s)

/-- SET_CONCEAL (R159). -/
def execSetConceal (source : Nat) (target : Byte) (k : Byte) (s : State) : Answer :=
  .next (hearRequest source target (.setConceal k.toNat) s)

/-- SET_LIMIT (R120). -/
def execSetLimit (source : Nat) (target : Byte) (limit : Half) (s : State) : Answer :=
  .next (hearRequest source target (.setLimit limit.toNat) s)

/-- COMMIT (R161). -/
def execCommit (source : Nat) (target : Byte) (s : State) : Answer := .next (hearRequest source target .commit s)

/-- RESTART (R162). -/
def execRestart (source : Nat) (target : Byte) (s : State) : Answer := .next (hearRequest source target .restart s)

/-- A RESTART stands in the phase REPLYING (R162). -/
def restartReplying (s : State) : Bool :=
  match s.port.request with
  | some ⟨.restart, _, .replying⟩ => true
  | _ => false

/-- RESTART_WAIT_EXPIRY (R162): an expiry that finds no RESTART in execution has no effect. -/
def execRestartWaitExpiry (pins : Pins) (s : State) : Answer :=
  if restartReplying s then .next (handRestart pins s) else .next s

end Sys2Proof.Machine
end

