-- ==== Sys2Proof/Machine/SeamLine.lean ====
section
/-! DEFINITION. The meanings of the seam bus's commands (chapter 8), and the owners' taking of EDGE and LOAD frames (R105, R106, R115,
R176). -/

namespace Sys2Proof.Machine

/-! ## EDGE and LOAD frames handed to their owners -/

/-- A geometry mismatch (R106). -/
def setMismatch (s : State) : State :=
  if s.conceal.mismatch then s else raiseNotice (s.setConceal { s.conceal with mismatch := true })

/-- An accepted notice renews the record of the receiving edge (R105). -/
def renewFar (e : Edge) (content : EdgeContent) (s : State) : State :=
  let r := s.conceal.far.get e
  triggerIf (!r.valid || decide (r.entries ≠ content))
    (s.setConceal
      { s.conceal with far := s.conceal.far.put e { r with valid := true, age := 0, entries := content } })

/-- The receiving edge is PRESENT and its source station is the frame's (R105). -/
def edgeAccepts (s : State) (e : Edge) (source : Nat) : Bool :=
  (s.conceal.far.get e).present && decide ((s.conceal.far.get e).source = some source)

/-- The Concealment Unit takes an EDGE frame (R105, R106, R176). -/
def takeEdge (source : Nat) (body : List Byte) (s : State) : State :=
  match readEdgeBody body with
  | none => s
  | some (sending, content) =>
    if edgeAccepts s sending.opposite source then renewFar sending.opposite content s else setMismatch s

/-- A peer entry is renewed, or made in its place of the ascending station order (R115). -/
def insertPeer (station load : Nat) : List Peer → List Peer
  | [] => [⟨station, load, 0⟩]
  | p :: ps =>
    if station < p.station then ⟨station, load, 0⟩ :: p :: ps
    else if station = p.station then ⟨station, load, 0⟩ :: ps
    else p :: insertPeer station load ps

/-- The load figure of a LOAD body (12.4.3). -/
def loadFigure (body : List Byte) : Nat := be16 (body.getD 1 0#8) (body.getD 2 0#8)

/-- The Load Governor takes a LOAD frame (R115); under STRAP_FAULT it discards every one. -/
def takeLoad (source : Nat) (body : List Byte) (s : State) : State :=
  if s.sup.findings.strapFault || decide (16 ≤ source) || decide (source = s.seam.own) ||
      decide (Config.maxLoad < loadFigure body) then s
  else s.setGov { s.gov with peers := insertPeer source (loadFigure body) s.gov.peers }

/-- EDGE_NOTICE (R105). -/
def execEdgeNotice (source : Nat) (target : Byte) (body : List Byte) (s : State) : Answer :=
  .next (hearFrame (decide (source ≤ 30) && bodyLengthOk kindEdge body.length) source target (takeEdge source body) s)

/-- LOAD_FRAME (R115). -/
def execLoadFrame (source : Nat) (target : Byte) (body : List Byte) (s : State) : Answer :=
  .next (hearFrame (decide (source ≤ 30) && bodyLengthOk kindLoad body.length) source target (takeLoad source body) s)

/-- An accepted frame is handed to the block that owns its kind; REPLY and REPORT are taken by none (R127). -/
def handOver (f : HeardFrame) (s : State) : State :=
  match f.kind with
  | 1 => takeEdge f.source f.body s
  | 2 => takeLoad f.source f.body s
  | 4 => takeRequest f.source f.target (readRequest f.body) s
  | _ => s

/-- The judgement of the frame heard, if it is well-formed (R125: at most 125 bytes are stored, all are counted). -/
def heardFrame (s : State) (bytes : List Byte) : Option HeardFrame :=
  judgeFrame ((s.seam.buffer ++ bytes).take Config.maxFrameBytes) (s.seam.count + bytes.length)

/-- The receiver waits for the line to be idle, with an empty buffer (R125). -/
def waitIdle (s : State) : State :=
  s.setSeam { s.seam with recv := .waitIdle, buffer := [], count := 0, ownSent := false }

/-- A byte's stop bit reads dominant: the frame being heard is discarded (R125). -/
def frameBroken (s : State) : State := if hearing s then waitIdle s else s

/-- The frame of these bytes has ended (R127). -/
def endHeard (bytes : List Byte) (s : State) : State :=
  match heardFrame s bytes with
  | none => hearFrame false 0 0#8 id s
  | some f => hearFrame true f.source f.target (handOver f) s

/-- SEAM_FRAME_END (R124, R125, R127): the line is read as bytes, and a byte whose stop bit reads dominant breaks the frame. Behind
FRAME_COMPLETE this is the end of the frame the tile itself has sent, which is not judged (R125, R131): the model takes it so
whatever the line carries (DESIGN CHOICE, log entry 11). -/
def execSeamFrameEnd (line : List LineRun) (s : State) : Answer :=
  if s.seam.ownSent then .next (hearFrame false 0 0#8 id s)
  else match readLine line with
    | none => .next (frameBroken s)
    | some bytes => .next (endHeard bytes s)

/-! ## The line -/

/-- LINE_IDLE (R125). -/
def execLineIdle (recessiveUs : Nat) (s : State) : Answer :=
  match s.seam.recv with
  | .waitIdle => if recessiveUs < Config.seamIdleUs then .next s else .next (s.setSeam { s.seam with recv := .idle })
  | _ => .next s

/-- FRAMING_ERROR (R125); taken in IDLE too (DESIGN CHOICE, log entry 11). -/
def execFramingError (s : State) : Answer := .next (frameBroken s)

/-- A VALID record becomes INVALID at a break (R108). -/
def invalidate (r : FarEdge) : FarEdge := { r with valid := false }

/-- The Concealment Unit's part of a break (R108). -/
def breakConceal (s : State) : State :=
  let far := s.conceal.far
  let t := triggerIf (allEdges.any (fun e => (far.get e).valid))
    (s.setConceal { s.conceal with far := PerEdge.build (fun e => invalidate (far.get e)) })
  if isRunning s then pendEdges (fun _ => true) t else t

/-- The Load Governor's part of a break (R112, R116). -/
def breakGovernor (s : State) : State :=
  let t := s.setGov { s.gov with peers := [] }
  if isRunning s then pendLoad t else t

/-- An attempt in progress ends as discarded by a break, and its frame is recomposed (R126, R136). -/
def breakAttempt (attempt : Bool) (s : State) : State := if attempt then recompose s else s

/-- The Seam Link Controller's part of a break (R126). -/
def breakSeam (s : State) : State :=
  let t := waitIdle s
  t.setSeam { t.seam with tx := .quiet, clash := false, mismatches := 0 }

/-- BREAK (R126): a shorter dominant run is none, and an OFF receiver does not watch the line (R125). A frame in an attempt is recomposed
behind the hand-offs to the Load Governor and the Concealment Unit: R136 says so of a LOAD and an EDGE, and a tile notice then carries the
emptied peer list and the invalidated far-edge records too (DESIGN CHOICE, log entry 31). -/
def execBreakSeen (dominantUs : Nat) (s : State) : Answer :=
  if decide (dominantUs < Config.breakUs) || decide (s.seam.recv = .off) then .next s
  else
    .next (fillBanks (breakAttempt (decide (s.seam.tx ≠ .quiet)) (breakConceal (breakGovernor (breakSeam s)))))

/-- The line bank holds a frame and the tile is not in CLASH: it joins a contention (R128). -/
def joins (s : State) : Bool := s.seam.lineBank.isSome && !s.seam.clash

/-- A falling edge that the receiver sees (R124, R128): the line filter ignores a dominant pulse shorter than 1 µs, and the edge ends
an idle period. The end of a frame the tile itself has sent is not judged, so the edge may also come behind it (DESIGN CHOICE, log
entry 11). -/
def edgeSeen (dominantNs : Nat) (s : State) : Bool :=
  decide (Config.glitchNs ≤ dominantNs) &&
    (decide (s.seam.recv = .idle) || (decide (s.seam.recv = .inFrame) && s.seam.ownSent))

/-- CONTENTION_START (R128, R125): the first byte of a frame begins, and the tile joins with the line bank's frame. -/
def execContentionStart (s : State) (dominantNs : Nat := Config.bitNs) : Answer :=
  if edgeSeen dominantNs s then
    .next
      (s.setSeam
        { s.seam with
          recv := .inFrame
          buffer := []
          count := 0
          ownSent := false
          tx := if joins s then .contending else s.seam.tx })
  else .next s

/-- ARBITRATION_LOSS (R129, R136). -/
def execArbitrationLoss (s : State) : Answer :=
  match s.seam.tx with
  | .contending => .next (recompose (txQuiet s))
  | _ => .next s

/-- ARBITRATION_WON (R129). -/
def execArbitrationWon (s : State) : Answer :=
  match s.seam.tx with
  | .contending => .next (s.setSeam { s.seam with tx := .sending })
  | _ => .next s

/-- An aborted attempt (R130): the count rises, and at 3 the tile enters CLASH; otherwise the frame is recomposed (R136). -/
def abortAttempt (s : State) : State :=
  let n := s.seam.mismatches + 1
  let t := s.setSeam { s.seam with tx := .quiet, mismatches := n }
  if n < Config.mismatchLimit then recompose t else enterClash t

/-- READBACK_ABORT (R129, R130). -/
def execReadbackAbort (s : State) : Answer :=
  match s.seam.tx with
  | .quiet => .next s
  | _ => .next (abortAttempt s)

/-! ## Completion (R131) -/

/-- The refill search's cell (R164). -/
def refillCell (s : State) : Option Nat :=
  findFrom Config.cellCount s.port.refillCursor (fun c => tget s.port.marks c false)

/-- The refill that follows an entry's leaving (R164). -/
def refill (s : State) : State :=
  match refillCell s with
  | none => s
  | some c =>
    s.setPort
      { s.port with
        marks := tset s.port.marks c false
        queue := s.port.queue ++ [reportOf s c .refill false]
        refillCursor := cursorPast Config.cellCount c }

/-- The report head becomes pending when the queue is not empty (R133, R164). -/
def pendHead (s : State) : State := if s.port.queue.isEmpty then s else pend .reportHead s

/-- The completion of the report head's frame (R164). -/
def completeHead (s : State) : State :=
  match s.port.queue with
  | [] => s
  | r :: rest =>
    if r.updated then pend .reportHead (s.setPort { s.port with queue := { r with updated := false } :: rest })
    else pendHead (refill (s.setPort { s.port with queue := rest }))

/-- The completion of the tile notice's frame (R165). -/
def completeNotice (s : State) : State :=
  if s.port.reraise then pend .tileNotice (s.setPort { s.port with reraise := false })
  else s.setPort { s.port with notice := false }

/-- The completion of an EDGE frame (R102). -/
def completeEdge (e : Edge) (content : Option EdgeContent) (s : State) : State :=
  let t := s.setConceal { s.conceal with lastSent := s.conceal.lastSent.put e content }
  if edgeStale t e then pend (.edge e) t else t

/-- The owner of a completed frame's item acts (R131, R102, R114, R156, R164, R165). -/
def ownerCompletes (c : Composed) (s : State) : State :=
  match c.item with
  | .edge e => completeEdge e c.content s
  | .load => s.setGov { s.gov with carried := none }
  | .longReply => s.setPort { s.port with long := none }
  | .immediateReply => s.setPort { s.port with immediate := none }
  | .tileNotice => completeNotice s
  | .reportHead => completeHead s

/-- The Seam Link Controller's part of a completion (R131): the other bank becomes the line bank. -/
def advanceBanks (c : Composed) (s : State) : State :=
  s.setSeam
    { s.seam with
      mismatches := 0
      tx := .quiet
      items := s.seam.items.put c.item false
      lineBank := s.seam.nextBank
      nextBank := none
      ownSent := true }

/-- The completed frame was the reply of a RESTART in REPLYING (R162). -/
def endsRestart (c : Composed) (s : State) : Bool := decide (c.item = .longReply) && restartReplying s

/-- A completed frame (R131). -/
def completeFrame (c : Composed) (s : State) : State := fillBanks (ownerCompletes c (advanceBanks c s))

/-- FRAME_COMPLETE (R131, R162). -/
def execFrameComplete (pins : Pins) (s : State) : Answer :=
  match s.seam.tx, s.seam.lineBank with
  | .sending, some c =>
    if endsRestart c s then .next (handRestart pins (completeFrame c s)) else .next (completeFrame c s)
  | _, _ => .next s

end Sys2Proof.Machine
end

