-- ==== Sys2Proof/Machine/Load.lean ====
section
/-! DEFINITION. The load at start (R75, R140 to R143, R53). -/

namespace Sys2Proof.Machine

/-- What the load makes of one cell (R143). -/
structure Loaded where
  record : CellRec
  primary : Health
  spare : Health
  gain : Nat
  torn : Bool
  fromSlot : Bool
  deriving DecidableEq, Repr

/-- The factory record the load uses for a cell: the stored one if the region passed, else the default (R140). -/
def factoryRecord (passes : Bool) (b : FactoryBytes) : FactoryRecord :=
  if passes then (factoryFields b).getD FactoryRecord.default else FactoryRecord.default

/-- The load of one cell (R143 steps 1 to 4). -/
def loadCell (passes : Bool) (i : Nat) (fb : FactoryBytes) (slot : Stored SlotBytes) : Loaded :=
  let f := factoryRecord passes fb
  match slotCondition i slot with
  | .blank => ⟨CellRec.fresh, f.primary, f.spare, f.gain, false, false⟩
  | .torn => ⟨CellRec.fresh, f.primary, f.spare, f.gain, true, false⟩
  | .written r => ⟨⟨r.state, r.forced, r.gain⟩, r.primary, r.spare, f.gain, false, true⟩

/-- The load of every cell, in cell-index order (R143). -/
def loadCells (st : Store) : Vector Loaded Config.cellCount :=
  let passes := factoryPasses st
  tmapIdx (fun i (p : FactoryBytes × Stored SlotBytes) => loadCell passes i p.1 p.2) (tzip Prod.mk st.factory st.slots)

/-- A loaded cell's record after the automatic transitions at the load's end (R75). -/
def loadedRecord (l : Loaded) : CellRec :=
  if l.record.forced then l.record
  else { l.record with state := transition l.record.state l.primary.failed l.spare.failed }

/-- The load leaves a cell's mark set: its slot was torn, or its record came from a slot and the transitions moved it (R143). -/
def loadedDirty (l : Loaded) : Bool := l.torn || (l.fromSlot && decide (loadedRecord l ≠ l.record))

/-- A die record after the load (R53). -/
def loadedDie (h : Health) : DieRec := { DieRec.fresh with health := h }

/-- The two die records of a loaded cell, in die-index order. -/
def loadedDies (l : Loaded) : List DieRec := [loadedDie l.primary, loadedDie l.spare]

/-- K and C_lim from the settings record (R142). -/
def loadedSettings (st : Store) : Nat × Nat :=
  match settingsCondition st.settings with
  | .written p => p
  | _ => (Config.defaultK, 0)

/-- SETTINGS_DEFAULTED (R142). -/
def settingsDefaulted (st : Store) : Bool :=
  match settingsCondition st.settings with
  | .written _ => false
  | _ => true

/-- The settings mark after the load (R142). -/
def settingsTorn (st : Store) : Bool :=
  match settingsCondition st.settings with
  | .torn => true
  | _ => false

/-- The load completes: records, dies, gains, settings, marks and findings (R143), with no cell event (R75), then the rebuild trigger,
CHAIN_CHECK and its scan position (R170, R14). -/
def completeLoad (s : State) : State :=
  let l := loadCells s.store
  let p := loadedSettings s.store
  trigger
    { s with
      sup :=
        { s.sup with
          state := .chainCheck
          findings :=
            { s.sup.findings with
              factoryFault := !factoryPasses s.store
              settingsDefaulted := settingsDefaulted s.store
              tornSlots := tcount (fun x => x.torn) l } }
      scan := { s.scan with position := .check }
      health := { s.health with dies := tofList _ (l.toList.flatMap loadedDies) DieRec.fresh }
      map := ⟨tmap loadedRecord l, tmap (fun x => x.gain) l⟩
      conceal := { s.conceal with k := p.1 }
      gov := { s.gov with limit := p.2 }
      store := { s.store with dirty := tmap loadedDirty l, settingsDirty := settingsTorn s.store } }

end Sys2Proof.Machine
end

