-- ==== Sys2Proof/Machine/Startup.lean ====
section
/-! DEFINITION. The meanings of the reset, start and supply commands (11_start_up_and_supply_supervision.md). A command whose event
cannot arise where the tile stands has no effect (log entry 10). -/

namespace Sys2Proof.Machine

/-- POWER_ON (R167, R168). -/
def execPowerOn (s : State) : Answer := .next (resetTile .powerOn s)

/-- PIN_RESET (R167): an assertion under 10 µs is ignored. It is a reset like any other before the supply has first risen above 4.1 V too
(DESIGN CHOICE, log entry 20). -/
def execPinReset (heldUs : Nat) (s : State) : Answer :=
  if heldUs < Config.resetPinUs then .next s else .next (resetTile .pin s)

/-- SUPPLY_FAIL (R167, R173), a reset like any other before the supply has first risen above 4.1 V too (DESIGN CHOICE, log entry 20). -/
def execSupplyFail (s : State) : Answer := .next (resetTile .supply s)

/-- The conditions that hold the tile in RESET, by what the pins show (R167): the reset pin as it stands, and the supply until it
has once been seen above 4.1 V. -/
def seePins (pins : Pins) (s : State) : State :=
  s.setSup
    { s.sup with
      pinAsserted := pins.resetPin
      supplyHeld := s.sup.supplyHeld && decide (pins.supplyMv ≤ Config.releaseMv) }

/-- A condition of R167 still holds the tile in RESET. -/
def heldInReset (s : State) : Bool := s.sup.pinAsserted || s.sup.supplyHeld

/-- START_BEGIN (R167 to R169): the start begins once both conditions have cleared; until then the tile stays in RESET. -/
def execStartBegin (pins : Pins) (s : State) : Answer :=
  match s.sup.state with
  | .reset =>
    let t := seePins pins s
    if heldInReset t then .next t else .next (beginStart pins t)
  | _ => .next s

/-- LOAD_COMPLETE (R143, R170). -/
def execLoadComplete (s : State) : Answer :=
  match s.sup.state with
  | .loading => .next (completeLoad s)
  | _ => .next s

/-- The entry into READY_WAIT (R170, R171, R137). -/
def enterReadyWait (failed : Bool) (s : State) : State :=
  { s with
    sup :=
      { s.sup with
        state := .readyWait
        findings := { s.sup.findings with chainFault := s.sup.findings.chainFault || failed }
        readyTimer := true
        readyLow := false }
    scan := { s.scan with position := .idle, marker := .none }
    seam := { s.seam with recv := .waitIdle, buffer := [], count := 0, ownSent := false } }

/-- CHAIN_CHECK_COMPLETE (R14, R170): the check's marker status is not carried into a frame period. -/
def execChainCheckComplete (markerP markerS : Bool) (s : State) : Answer :=
  match s.sup.state with
  | .chainCheck =>
    if markerP && markerS then .next (fillBanks (enterReadyWait false s))
    else .next (fillBanks (enterReadyWait true (markerFailed s)))
  | _ => .next s

/-- The entry into RUNNING (R172, R112, R101, R165). -/
def enterRunning (timeout : Bool) (s : State) : State :=
  let t : State :=
    { s with
      sup :=
        { s.sup with
          state := .running
          readyTimer := false
          findings := { s.sup.findings with readyTimeout := s.sup.findings.readyTimeout || timeout } }
      gov := { s.gov with counter := 0 }
      conceal := { s.conceal with refresh := 0 } }
  settle (pendEdges (fun _ => true) (pendLoad (raiseNotice t)))

/-- READY_LINE_HIGH (R171): a high pulse under 10 µs is ignored, and a tile in RUNNING does not read the line. -/
def execReadyLineHigh (highUs : Nat) (s : State) : Answer :=
  match s.sup.state with
  | .readyWait => if highUs < Config.readyHighUs then .next s else .next (enterRunning false s)
  | _ => .next s

/-- READY_TIMEOUT (R171): a stopped timer does not expire. -/
def execReadyTimeout (s : State) : Answer :=
  match s.sup.state with
  | .readyWait => if s.sup.readyTimer then .next (enterRunning true s) else .next s
  | _ => .next s

/-- SUPPLY_LOW (R173): the store and the Service Port are told; a long request in execution is judged (R161). -/
def execSupplyLow (s : State) : Answer :=
  match s.sup.supply with
  | .ok => .next (fillBanks (judgeLong (s.setSup { s.sup with supply := .low })))
  | .low => .next s

/-- SUPPLY_OK (R173): a write may begin (R149). A supply above 4.5 V has risen above 4.1 V (R167). -/
def execSupplyOk (s : State) : Answer :=
  match s.sup.supply with
  | .low => .next (settle (s.setSup { s.sup with supply := .ok, supplyHeld := false }))
  | .ok => .next s

end Sys2Proof.Machine
end

