-- ==== Sys2Proof/Machine/StoreWrites.lean ====
section
/-! DEFINITION. The meanings of the store's write commands (R148, R150, R152). -/

namespace Sys2Proof.Machine

/-- A record of the field region receives the write's snapshot, and the cursor moves (R148). -/
def landWrite (job : WriteJob) (st : Store) : Store :=
  match job with
  | .settings b => { st with settings := .bytes b }
  | .cell i b => { st with slots := tset st.slots i (.bytes b), cursor := cursorPast Config.cellCount i }

/-- A write that timed out: its record is left torn and its mark is set again (R150). -/
def failWrite (job : WriteJob) (st : Store) : Store :=
  match job with
  | .settings _ => { st with settings := .cut, settingsDirty := true }
  | .cell i _ => { st with slots := tset st.slots i .cut, dirty := tset st.dirty i true }

/-- The store after a completed write (R148). -/
def completeWrite (job : WriteJob) (s : State) : State :=
  s.setStore { landWrite job s.store with inFlight := none, state := .idle }

/-- The store after a write's timeout (R150). -/
def timeoutWrite (job : WriteJob) (s : State) : State :=
  s.setStore { failWrite job s.store with inFlight := none, state := .faulted }

/-- A RESTART reset that has waited for the write is taken in the event that ends the write (R152). -/
def takeHeldRestart (pins : Pins) (s : State) : State := beginStart pins (resetTile .restart s)

/-- WRITE_COMPLETE (R148): a completion that belongs to no write in flight has no effect (R150). -/
def execWriteComplete (pins : Pins) (s : State) : Answer :=
  match s.store.state, s.store.inFlight with
  | .writing, some job =>
    let t := completeWrite job s
    if s.store.restartHold then .next (takeHeldRestart pins t) else .next (settle (judgeLong t))
  | _, _ => .next s

/-- WRITE_TIMEOUT (R150). -/
def execWriteTimeout (pins : Pins) (s : State) : Answer :=
  match s.store.state, s.store.inFlight with
  | .writing, some job =>
    let t := timeoutWrite job s
    if s.store.restartHold then .next (takeHeldRestart pins t) else .next (fillBanks (judgeLong (raiseNotice t)))
  | _, _ => .next s

end Sys2Proof.Machine
end

