-- ==== Sys2Proof/Machine/Dispatch.lean ====
section
/-! DEFINITION. One arm for each row of spec/opcode_table.json, in the table's order. -/

namespace Sys2Proof.Machine

def exec (i : Instr) (s : State) : Host.Outcome State Fault Refusal :=
  match i with
  | .powerOn => Sys2Proof.Machine.execPowerOn s
  | .pinReset heldUs => Sys2Proof.Machine.execPinReset heldUs s
  | .supplyFail => Sys2Proof.Machine.execSupplyFail s
  | .startBegin pins => Sys2Proof.Machine.execStartBegin pins s
  | .loadComplete => Sys2Proof.Machine.execLoadComplete s
  | .chainCheckComplete markerP markerS => Sys2Proof.Machine.execChainCheckComplete markerP markerS s
  | .readyLineHigh highUs => Sys2Proof.Machine.execReadyLineHigh highUs s
  | .readyTimeout => Sys2Proof.Machine.execReadyTimeout s
  | .supplyLow => Sys2Proof.Machine.execSupplyLow s
  | .supplyOk => Sys2Proof.Machine.execSupplyOk s
  | .recordEnd link taking => Sys2Proof.Machine.execRecordEnd link taking s
  | .intervalTimerExpiry taking => Sys2Proof.Machine.execIntervalTimerExpiry taking s
  | .darkEntry => Sys2Proof.Machine.execDarkEntry s
  | .shiftComplete markerP markerS => Sys2Proof.Machine.execShiftComplete markerP markerS s
  | .blankFlagClear => Sys2Proof.Machine.execBlankFlagClear s
  | .observeEnd chainP chainS => Sys2Proof.Machine.execObserveEnd chainP chainS s
  | .refreshPositionEnd => Sys2Proof.Machine.execRefreshPositionEnd s
  | .probeEnd result => Sys2Proof.Machine.execProbeEnd result s
  | .anomalyRunNotice => Sys2Proof.Machine.execAnomalyRunNotice s
  | .rebuildComplete => Sys2Proof.Machine.execRebuildComplete s
  | .announcementDue => Sys2Proof.Machine.execAnnouncementDue s
  | .peerEntryExpiry => Sys2Proof.Machine.execPeerEntryExpiry s
  | .farEdgeExpiry => Sys2Proof.Machine.execFarEdgeExpiry s
  | .edgeRefresh => Sys2Proof.Machine.execEdgeRefresh s
  | .lineIdle recessiveUs => Sys2Proof.Machine.execLineIdle recessiveUs s
  | .framingError => Sys2Proof.Machine.execFramingError s
  | .seamFrameEnd line => Sys2Proof.Machine.execSeamFrameEnd line s
  | .breakSeen dominantUs => Sys2Proof.Machine.execBreakSeen dominantUs s
  | .contentionStart dominantNs => Sys2Proof.Machine.execContentionStart s dominantNs
  | .arbitrationLoss => Sys2Proof.Machine.execArbitrationLoss s
  | .readbackAbort => Sys2Proof.Machine.execReadbackAbort s
  | .frameComplete pins => Sys2Proof.Machine.execFrameComplete pins s
  | .edgeNotice source target body => Sys2Proof.Machine.execEdgeNotice source target body s
  | .loadFrame source target body => Sys2Proof.Machine.execLoadFrame source target body s
  | .status source target => Sys2Proof.Machine.execStatus source target s
  | .readCell source target cell => Sys2Proof.Machine.execReadCell source target cell s
  | .listFaults source target start => Sys2Proof.Machine.execListFaults source target start s
  | .force source target cell code clear => Sys2Proof.Machine.execForce source target cell code clear s
  | .release source target cell => Sys2Proof.Machine.execRelease source target cell s
  | .setGain source target cell mode code => Sys2Proof.Machine.execSetGain source target cell mode code s
  | .probe source target cell => Sys2Proof.Machine.execProbe source target cell s
  | .setConceal source target k => Sys2Proof.Machine.execSetConceal source target k s
  | .setLimit source target limit => Sys2Proof.Machine.execSetLimit source target limit s
  | .commit source target => Sys2Proof.Machine.execCommit source target s
  | .restart source target => Sys2Proof.Machine.execRestart source target s
  | .restartWaitExpiry pins => Sys2Proof.Machine.execRestartWaitExpiry pins s
  | .writeComplete pins => Sys2Proof.Machine.execWriteComplete pins s
  | .writeTimeout pins => Sys2Proof.Machine.execWriteTimeout pins s
  | .arbitrationWon => Sys2Proof.Machine.execArbitrationWon s

end Sys2Proof.Machine
end

