-- ==== Sys2Proof/Safety.lean ====
section
/-! DEFINITION. What counts as a sound state: the laws of the device that the chapters state ("Law of …"), each as a predicate on
one state, and the relations between records that the rules rest on. Nothing here is checked when a command runs; the
certificates state that every step keeps each law. -/

namespace Sys2Proof.Machine

/-! ## RESET does no work (R167) -/

/-- The tile right after a reset: every block at its reset values; only the reset cause, the supply state, the two conditions that hold
it in RESET, the store's two regions and the queue are the state's own. -/
def pristine (s : State) : State :=
  { State.reset with
    sup :=
      { Supervisor.reset with
        cause := s.sup.cause
        supply := s.sup.supply
        pinAsserted := s.sup.pinAsserted
        supplyHeld := s.sup.supplyHeld }
    store :=
      { Store.reset with
        factory := s.store.factory
        factoryCheckHi := s.store.factoryCheckHi
        factoryCheckLo := s.store.factoryCheckLo
        slots := s.store.slots
        settings := s.store.settings }
    pending := s.pending }

/-- A tile in RESET stands as its reset left it (R167: "In RESET the tile does no work"), and neither condition of R167 stands once a
start has begun. -/
def ResetLaw (s : State) : Prop :=
  (s.sup.state = .reset → s = pristine s) ∧
    (s.sup.state ≠ .reset → s.sup.pinAsserted = false ∧ s.sup.supplyHeld = false)

/-! ## Dies (R33, R34) -/

/-- A die record that agrees with R34: GOOD at strike 0, SUSPECT at 1 to 7, FAILED at no more than 11; the age saturates at
4,095. -/
def DieRec.sound (r : DieRec) : Prop :=
  r.age ≤ Config.maxAge ∧
    match r.health with
    | .good => r.strike = 0
    | .suspect => 1 ≤ r.strike ∧ r.strike < Config.failStrike
    | .failedOpen => r.strike ≤ 11
    | .failedShort => r.strike ≤ 11

/-- Law of the die record (R34), with the ranges of R33. -/
def DieLaw (s : State) : Prop := ∀ d, d < Config.dieCount → (dieAt s d).sound

/-- Law of the driven die (R56): an unforced cell never drives a FAILED die. -/
def DrivenDieLaw (s : State) : Prop :=
  ∀ c, c < Config.cellCount → (cellAt s c).forced = false →
    ∀ d, drivenDie c (cellAt s c).state = some d → dieFailed s d = false

/-! ## Probe lists (R43, R44) -/

/-- Law of the probe request list (R43), and the bounds of the probe plan and the sweep cursor (3.1). -/
def ProbeLaw (s : State) : Prop :=
  s.health.requests.length ≤ Config.probeListSize ∧ (s.health.requests.map (fun q => q.cell)).Nodup ∧
    (∀ q ∈ s.health.requests, q.cell < Config.cellCount ∧ (q.primaryDone && q.spareDone) = false) ∧
    s.health.plan.length ≤ Config.probePlanSize ∧ s.health.plan.Nodup ∧ s.health.cursor < Config.dieCount

/-! ## Link, scan and drive (R12, R21, R25, R35, R84 to R87) -/

/-- The holding count agrees with the link state (R25): 0 in SEARCH and LOCKED, 1 to 29 in HOLDING, 30 in DARK. -/
def heldSound (b : PixelRx) : Prop :=
  match b.link with
  | .search => b.holding = 0
  | .locked => b.holding = 0
  | .holding => 1 ≤ b.holding ∧ b.holding < Config.holdingLimit
  | .dark => b.holding = Config.holdingLimit

/-- The blank flag, the run count and the marker status agree (R11, R12, 1.5). -/
def BlankLaw (s : State) : Prop :=
  s.scan.runCount ≤ Config.goodRunLimit ∧ (s.scan.blank = false → s.scan.runCount = 0) ∧
    (s.scan.marker = .failed → s.scan.blank = true ∧ s.scan.runCount = 0)

/-- Laws of the drive value and of the frame load (R84, R86), the clamp of R21, R35's "at most one die of a cell carries a
non-zero value in any frame", and the holding count of R25. -/
def DriveLaw (s : State) : Prop :=
  (∀ c, tget s.rx.frameStore c 0 ≤ Config.maxValue) ∧
    (∀ c, tget s.scan.chanP c 0 ≤ Config.maxValue ∧ tget s.scan.chanS c 0 ≤ Config.maxValue ∧
      (tget s.scan.chanP c 0 = 0 ∨ tget s.scan.chanS c 0 = 0)) ∧
    s.drive.clip ≤ Config.cellCount ∧ s.drive.load ≤ Config.maxLoad ∧ s.drive.peak ≤ Config.maxLoad ∧
    (∀ p, s.gov.carried = some p → p ≤ Config.maxLoad) ∧ heldSound s.rx

/-! ## Concealment (R92, R95, R99) -/

/-- The ranges of a table entry (R92). -/
def Entry.sound : Entry → Prop
  | .hole sh => sh ≤ 255
  | .lit b => b ≤ Config.maxBsum

/-- Law of the concealment tables (R95), with the range of K; and an ABSENT edge's record is never VALID (R99). -/
def ConcealLaw (s : State) : Prop :=
  (∀ c, (tget s.conceal.active c (.lit 0)).sound) ∧ (∀ c, (tget s.conceal.shadow c (.lit 0)).sound) ∧ s.conceal.k ≤ 255 ∧
    (∀ n, s.conceal.rebuild = .running n → n.k ≤ 255) ∧
    (∀ e, (s.conceal.far.get e).present = false →
      (s.conceal.far.get e).valid = false ∧ (s.conceal.far.get e).source = none)

/-! ## Load sharing (R115, R117, R118, R120) -/

/-- Laws of the peer load list and of the governor factor (R115, R118), and the ranges of 7.1. A tile with STRAP_FAULT keeps an
empty list (R115). An age of 64 and a counter of 16, one above the ranges of R115 and 7.1, are those of a count left due at its limit by a
boundary taken `apart` (the model's choice, log entry 1). -/
def GovernorLaw (s : State) : Prop :=
  s.gov.peers.Pairwise (fun p q => p.station < q.station) ∧
    (∀ p ∈ s.gov.peers, p.station < 16 ∧ p.station ≠ s.seam.own ∧ p.load ≤ Config.maxLoad ∧ p.age ≤ Config.peerAgeLimit) ∧
    s.gov.peers.length ≤ 15 ∧ (s.sup.findings.strapFault = true → s.gov.peers = []) ∧ s.seam.own < 16 ∧
    s.gov.factor ≤ Config.fullFactor ∧ s.gov.estimate ≤ Config.maxLimit ∧ s.gov.limit ≤ Config.maxLimit ∧
    s.gov.counter ≤ Config.announcePeriod

/-! ## Seam bus (R128, R130, R132 to R134, R114) -/

/-- The banks, the pending set, the transmit state, the mismatch count, CLASH and the carried peak agree. -/
def BankLaw (s : State) : Prop :=
  (∀ c, s.seam.lineBank = some c → s.seam.items.has c.item = true) ∧
    (∀ c, s.seam.nextBank = some c → s.seam.items.has c.item = true ∧ s.seam.lineBank.isSome = true) ∧
    (∀ c d, s.seam.lineBank = some c → s.seam.nextBank = some d → c.item ≠ d.item) ∧
    (s.seam.clash = true → s.seam.lineBank = none) ∧
    (s.seam.tx ≠ .quiet → s.seam.lineBank.isSome = true) ∧
    s.seam.mismatches ≤ Config.mismatchLimit ∧ (s.seam.clash = false → s.seam.mismatches < Config.mismatchLimit) ∧
    s.gov.carried.isSome = isComposed s .load ∧
    (∀ e, s.seam.items.edges.get e = true → (s.conceal.far.get e).present = true)

/-! ## Reports and replies (R133, R163) -/

/-- Law of the report queue (R163), and no mark stands while the queue has room (R164's refill). -/
def ReportLaw (s : State) : Prop :=
  s.port.queue.length ≤ Config.reportQueueSize ∧ (s.port.queue.map (fun r => r.cell)).Nodup ∧
    (∀ r ∈ s.port.queue, tget s.port.marks r.cell false = false) ∧
    (s.port.queue.length < Config.reportQueueSize → ∀ c, tget s.port.marks c false = false)

/-- The Service Port's pending items mirror its slots, its flag and its queue (R133, R156, R163, R165). -/
def ItemLaw (s : State) : Prop :=
  s.seam.items.longReply = s.port.long.isSome ∧ s.seam.items.immediateReply = s.port.immediate.isSome ∧
    s.seam.items.tileNotice = s.port.notice ∧ s.seam.items.reportHead = !s.port.queue.isEmpty

/-! ## Store (R141, R145, R146, R152) -/

/-- A write is in flight exactly in WRITING and only in RUNNING, its record is given up, and a RESTART waits only for it. -/
def StoreLaw (s : State) : Prop :=
  (s.store.inFlight.isSome = decide (s.store.state = .writing)) ∧ (s.store.state ≠ .idle → s.sup.state = .running) ∧
    (s.store.restartHold = true → s.store.state = .writing) ∧ s.store.cursor < Config.cellCount ∧
    (∀ b, s.store.inFlight = some (.settings b) → s.store.settings = .cut) ∧
    (∀ i b, s.store.inFlight = some (.cell i b) → i < Config.cellCount ∧ s.store.slots.toList[i]? = some .cut)

/-! ## Relations the certificates speak of -/

/-- The values that the chapters give for the tile after a reset (R16, R31, R52, R91, R111, R123, R138, R154, R166, R167, R174). The
values that the manual does not give are not named here. -/
def ResetValues (t : State) : Prop :=
  (t.sup.state = .reset ∧ t.sup.findings = ⟨false, false, false, 0, false, false⟩ ∧ t.sup.readyTimer = false ∧
      t.sup.readyLow = true) ∧
    (t.rx.started = false ∧ t.rx.link = .search ∧ (∀ c, c < Config.cellCount → tget t.rx.frameStore c 1 = 0) ∧
      t.rx.buffer = [] ∧ t.rx.timer = .stopped ∧ t.rx.holding = 0) ∧
    (t.scan.position = .idle ∧
      (∀ c, c < Config.cellCount → tget t.scan.chanP c 1 = 0 ∧ tget t.scan.chanS c 1 = 0) ∧ t.scan.blank = false ∧
      t.scan.marker = .none ∧ t.scan.runCount = 0) ∧
    (t.health.requests = [] ∧ t.health.plan = [] ∧ t.health.cursor = 0 ∧ t.health.findings = .neither ∧
      t.health.anomalyRun = 0) ∧
    (t.drive.clip = 0 ∧ t.drive.load = 0 ∧ t.drive.peak = 0) ∧
    ((∀ c, c < Config.cellCount →
        tget t.conceal.active c (.hole 0) = .lit 0 ∧ tget t.conceal.shadow c (.hole 0) = .lit 0) ∧
      t.conceal.rebuild = .idle ∧ t.conceal.rerun = false ∧ t.conceal.k = 192 ∧
      (∀ e, (t.conceal.far.get e).valid = false ∧ t.conceal.lastSent.get e = none) ∧ t.conceal.refresh = 0 ∧
      t.conceal.mismatch = false) ∧
    (t.gov.peers = [] ∧ t.gov.factor = 256 ∧ t.gov.overFlag = false ∧ t.gov.estimate = 0 ∧ t.gov.limit = 0 ∧
      t.gov.counter = 0 ∧ t.gov.carried = none) ∧
    (t.seam.recv = .off ∧ t.seam.buffer = [] ∧ (∀ it, t.seam.items.has it = false) ∧ t.seam.lineBank = none ∧
      t.seam.nextBank = none ∧ t.seam.tx = .quiet ∧ t.seam.mismatches = 0 ∧ t.seam.clash = false) ∧
    ((∀ c, c < Config.cellCount → tget t.store.dirty c true = false) ∧ t.store.settingsDirty = false ∧
      t.store.state = .idle ∧ t.store.inFlight = none ∧ t.store.cursor = 0 ∧ t.store.restartHold = false) ∧
    (t.port.immediate = none ∧ t.port.long = none ∧ t.port.request = none ∧ t.port.queue = [] ∧
      (∀ c, c < Config.cellCount → tget t.port.marks c true = false) ∧ t.port.refillCursor = 0 ∧ t.port.notice = false ∧
      t.port.reraise = false)

/-- The factory region and the settings record of `t`, and each of its slots, are those of `s`, but for the record that a write in
flight was writing, which is torn (R151, R154). -/
def CutRegions (s t : State) : Prop :=
  t.store.factory = s.store.factory ∧ t.store.factoryCheckHi = s.store.factoryCheckHi ∧
    t.store.factoryCheckLo = s.store.factoryCheckLo ∧
    (match s.store.inFlight with
      | none => t.store.slots = s.store.slots ∧ t.store.settings = s.store.settings
      | some (.settings _) => t.store.slots = s.store.slots ∧ t.store.settings = .cut
      | some (.cell i _) => t.store.slots = tset s.store.slots i .cut ∧ t.store.settings = s.store.settings)

/-- A frame with this source and target is heard and accepted (R125, R127): in IDLE or IN_FRAME, and right behind FRAME_COMPLETE too, as
another sender's frame (the model's choice, log entry 11). -/
def Heard (s : State) (source : Nat) (target : Byte) : Prop :=
  hearing s = true ∧ source ≤ 30 ∧ (target.toNat = s.seam.own ∨ target.toNat = Config.allStations)

/-- A request addressed to this tile alone is heard in RUNNING, with no long request in execution and the immediate reply slot
empty: it reaches step 6 of R155 if it is no long request. What is heard is as in `Heard` (log entry 11). -/
def Taken (s : State) (source : Nat) (target : Byte) : Prop :=
  hearing s = true ∧ source ≤ 30 ∧ s.seam.own < 16 ∧ target.toNat = s.seam.own ∧ s.sup.state = .running ∧
    s.port.request = none ∧ s.port.immediate = none

/-- The tile behind the test of R132 on a well-formed frame from `source`: a frame from another station changes nothing; one from the
tile's own station brings CLASH if it was clear, with no attempt, both banks EMPTY, and the carried peak of a LOAD in a bank given
back (R114). -/
def ownTested (source : Nat) (s : State) : State :=
  if source = s.seam.own ∧ s.seam.clash = false then
    { s with
      drive :=
        { s.drive with
          peak := if isComposed s .load then max s.drive.peak (s.gov.carried.getD 0) else s.drive.peak }
      gov := { s.gov with carried := if isComposed s .load then none else s.gov.carried }
      seam := { s.seam with clash := true, tx := .quiet, lineBank := none, nextBank := none } }
  else s

/-- The request a request row carries, with its source station and target byte. -/
def requestOf : Instr → Option (Nat × Byte × Request)
  | .status source target => some (source, target, .status)
  | .readCell source target cell => some (source, target, .readCell cell)
  | .listFaults source target start => some (source, target, .listFaults start.toNat)
  | .force source target cell code clear => some (source, target, .force cell code clear)
  | .release source target cell => some (source, target, .release cell)
  | .setGain source target cell mode code => some (source, target, .setGain cell mode code.toNat)
  | .probe source target cell => some (source, target, .probe cell)
  | .setConceal source target k => some (source, target, .setConceal k.toNat)
  | .setLimit source target limit => some (source, target, .setLimit limit.toNat)
  | .commit source target => some (source, target, .commit)
  | .restart source target => some (source, target, .restart)
  | _ => none

/-- The frame being heard has ended and nothing else has changed: IDLE, with an empty buffer (R125). -/
def FrameEnded (s u : State) : Prop :=
  u = { s with seam := { s.seam with recv := .idle, buffer := [], count := 0, ownSent := false } }

/-- `u` has a reply with this result and body in its immediate reply slot, and the item pending (R156). -/
def Replied (u : State) (source : Nat) (kind : Byte) (result : ReplyResult) (body : ReplyBody) : Prop :=
  u.port.immediate = some ⟨source, kind, result, 0, body, none⟩ ∧ u.seam.items.immediateReply = true

/-- What the frame that carries a request leaves of `s` in `u` beside the blocks named by the statement: the Supervisor, the receiver,
the Scan Engine, the Drive Value Unit, the queue, and the Seam Link Controller but for the end of the frame and its items. -/
def OnlyServed (s u : State) : Prop :=
  u.sup = s.sup ∧ u.rx = s.rx ∧ u.scan = s.scan ∧ u.drive = s.drive ∧ u.pending = s.pending ∧
    u.seam =
      { s.seam with recv := .idle, buffer := [], count := 0, ownSent := false, items := u.seam.items } ∧
    (∀ e, u.seam.items.edges.get e = s.seam.items.edges.get e) ∧ u.seam.items.load = s.seam.items.load ∧
    u.seam.items.longReply = s.seam.items.longReply ∧ u.seam.items.tileNotice = s.seam.items.tileNotice ∧
    u.port.long = s.port.long ∧ u.port.request = s.port.request ∧ u.port.refillCursor = s.port.refillCursor ∧
    u.port.notice = s.port.notice ∧ u.port.reraise = s.port.reraise

/-- `u` stands after a signal that raises the tile notice, taken on `s` (R165), and after no other change to the port. -/
def NoticeRaised (s u : State) : Prop :=
  u.port = { s.port with notice := true, reraise := s.port.reraise || (s.port.notice && isComposed s .tileNotice) } ∧
    u.seam.items.tileNotice = (s.seam.items.tileNotice || !s.port.notice)

/-- The Seam Link Controller of `u` is that of `s` but for the tile notice's item. -/
def OnlyNoticeItem (s u : State) : Prop :=
  u.seam = { s.seam with items := { s.seam.items with tileNotice := u.seam.items.tileNotice } }

/-- `u` stands after a rebuild trigger taken on the Concealment Unit's state `b` (R96, R97). -/
def Triggered (b : Conceal) (u : State) : Prop :=
  (b.rebuild = .idle ∧ u.conceal = { b with rebuild := .running ⟨tmap isHole u.map.cells, b.far, b.k⟩ }) ∨
    (b.rebuild ≠ .idle ∧ u.conceal = { b with rerun := true })

/-- A cell's event stands in the Service Port of `u` as R163 has it, taken on the port of `s`, with the cell's content as it stands in
`u` (R69): in its cell's place if the queue had one, with the updated mark if that is the report head and composed; at the tail of a
queue with room; else as the cell's mark. Every other entry and mark stays. -/
def Posted (s u : State) (c : Nat) (cause : Cause) : Prop :=
  let fresh : Bool → Report :=
    fun b => ⟨c, (cellAt u c).state, (dieAt u (primaryDie c)).health, (dieAt u (spareDie c)).health, cause, b⟩
  (∀ before after r, s.port.queue = before ++ r :: after → r.cell = c → (∀ x ∈ before ++ after, x.cell ≠ c) →
    u.port.queue = before ++ fresh (r.updated || (decide (before = []) && isComposed s .reportHead)) :: after ∧
      u.port.marks = s.port.marks ∧ u.seam.items.reportHead = s.seam.items.reportHead) ∧
    ((∀ x ∈ s.port.queue, x.cell ≠ c) → s.port.queue.length < 32 →
      u.port.queue = s.port.queue ++ [fresh false] ∧ u.port.marks = s.port.marks ∧
        u.seam.items.reportHead = (s.seam.items.reportHead || decide (s.port.queue = []))) ∧
    ((∀ x ∈ s.port.queue, x.cell ≠ c) → 32 ≤ s.port.queue.length →
      u.port.queue = s.port.queue ∧ u.port.marks = tset s.port.marks c true ∧
        u.seam.items.reportHead = s.seam.items.reportHead)

/-- A die of cell `c` became FAILED between `s` and `u` (a FAILED die stays so, R37). -/
def losesDie (s u : State) (c : Nat) : Bool :=
  dieFailed s (primaryDie c) != dieFailed u (primaryDie c) || dieFailed s (spareDie c) != dieFailed u (spareDie c)

/-- The cause that the failures between `s` and `u` give the event of cell `c` (R60): that of its spare if it became FAILED, else that
of its primary. -/
def passCause (s u : State) (c : Nat) : Cause :=
  let spareLost := dieFailed s (spareDie c) ≠ dieFailed u (spareDie c)
  if spareLost ∧ (cellAt u c).state = .primary then .spareLost
  else if (dieAt u (if spareLost then spareDie c else primaryDie c)).health = .failedOpen then .autoOpen
  else .autoShort

/-- The events of every cell one of whose dies became FAILED between `s` and `u`, and no others, stand in the Service Port of `u`, each
as R163 has it, with the content of R69 and the cause of R60: an entry of such a cell is replaced in its place, and every other entry
of `s` stays in its place as it was; behind them stand new entries of such cells, in ascending index, while the queue has room (the
order is the model's choice of log entry 8); the rest of such cells have their marks set, and every other mark stays. -/
def PassPosted (s u : State) : Prop :=
  let event : Nat → Bool → Report :=
    fun c b => ⟨c, (cellAt u c).state, (dieAt u (primaryDie c)).health, (dieAt u (spareDie c)).health, passCause s u c, b⟩
  let late := fun c : Nat => decide (s.port.queue.head?.map (fun r => r.cell) = some c) && isComposed s .reportHead
  ∃ added : List Report,
    u.port.queue =
        s.port.queue.map (fun r => if losesDie s u r.cell then event r.cell (r.updated || late r.cell) else r) ++ added ∧
      (∀ r ∈ added, r.cell < Config.cellCount ∧ losesDie s u r.cell = true ∧ (∀ x ∈ s.port.queue, x.cell ≠ r.cell) ∧
        r = event r.cell r.updated ∧ (s.port.queue ≠ [] ∨ isComposed s .reportHead = false → r.updated = false)) ∧
      added.Pairwise (fun x y => x.cell < y.cell) ∧ (added ≠ [] → u.port.queue.length ≤ 32) ∧
      (∀ c, c < Config.cellCount → losesDie s u c = true → (∀ r ∈ u.port.queue, r.cell ≠ c) →
        32 ≤ u.port.queue.length ∧ (∀ r ∈ added, r.cell < c) ∧ tget u.port.marks c false = true) ∧
      (∀ c, c < Config.cellCount → losesDie s u c = false ∨ (∃ r ∈ u.port.queue, r.cell = c) →
        tget u.port.marks c false = tget s.port.marks c false) ∧
      u.seam.items.reportHead = (s.seam.items.reportHead || decide (s.port.queue = [] ∧ added ≠ []))

/-- A change to the cell has had its effects but for the rebuild trigger: the cell's mark, and no other, is set, and the event is
posted (R68). -/
def Changed (s u : State) (c : Nat) (cause : Cause) : Prop :=
  u.store = { s.store with dirty := tset s.store.dirty c true } ∧ Posted s u c cause

/-- No effect of a change: marks, reports and concealment stand as before (R68). -/
def Unchanged (s u : State) : Prop :=
  u.store = s.store ∧ u.port.queue = s.port.queue ∧ u.port.marks = s.port.marks ∧
    u.seam.items.reportHead = s.seam.items.reportHead ∧ u.conceal = s.conceal

/-- The request was answered with this result and body, and did nothing else. -/
def OnlyReplied (s u : State) (source : Nat) (kind : Byte) (result : ReplyResult) (body : ReplyBody) : Prop :=
  Replied u source kind result body ∧ OnlyServed s u ∧ Unchanged s u ∧ u.health = s.health ∧ u.map = s.map ∧ u.gov = s.gov

/-! ## Resets (R167) -/

/-- The command is a reset of the tile: one of the three events, or the RESTART reset that may be taken in four others, which begins the
start at once (R167). -/
def ResetTaken (c : Instr) (t : State) : Prop :=
  (t.sup.state = .reset ∧ (c = .powerOn ∨ c = .supplyFail ∨ ∃ us, c = .pinReset us ∧ 10 ≤ us)) ∨
    (t.sup.state = .loading ∧ t.sup.cause = .restart ∧
      ∃ pins, c = .frameComplete pins ∨ c = .restartWaitExpiry pins ∨ c = .writeComplete pins ∨ c = .writeTimeout pins)

/-- `t` is the tile `r` with its start begun on these pins: the straps are read, the station, the findings' STRAP_FAULT, the edges and
the supply state follow, the receiver is started and the tile is LOADING (R169, R99, R31, R173); every other block stands as in `r`. -/
def StartBegun (pins : Pins) (r t : State) : Prop :=
  let p := pins.straps
  let x := p.x.val
  let y := p.y.val
  let w := p.widthLess1.val + 1
  let h := p.heightLess1.val + 1
  let fault := decide (w ≤ x ∨ h ≤ y)
  t.sup =
      { r.sup with
        state := .loading
        straps := p
        findings := { r.sup.findings with strapFault := fault }
        readyLow := true
        supply := if 4500 < pins.supplyMv then .ok else .low } ∧
    t.rx =
      { r.rx with
        started := true
        interval := p.rate
        timer := .oneT
        inTail := pins.linkBusy
        buffer := [] } ∧
    t.seam = { r.seam with own := y * 4 + x } ∧
    (∀ e, (t.conceal.far.get e).valid = false ∧ (t.conceal.far.get e).age = (r.conceal.far.get e).age ∧
      (t.conceal.far.get e).entries = (r.conceal.far.get e).entries) ∧
    (t.conceal.far.left.present = (!fault && decide (x > 0)) ∧
      (t.conceal.far.left.present = true → t.conceal.far.left.source = some (y * 4 + (x - 1)))) ∧
    (t.conceal.far.right.present = (!fault && decide (x < w - 1)) ∧
      (t.conceal.far.right.present = true → t.conceal.far.right.source = some (y * 4 + (x + 1)))) ∧
    (t.conceal.far.top.present = (!fault && decide (y > 0)) ∧
      (t.conceal.far.top.present = true → t.conceal.far.top.source = some ((y - 1) * 4 + x))) ∧
    (t.conceal.far.bottom.present = (!fault && decide (y < h - 1)) ∧
      (t.conceal.far.bottom.present = true → t.conceal.far.bottom.source = some ((y + 1) * 4 + x))) ∧
    (∀ e, (t.conceal.far.get e).present = false → (t.conceal.far.get e).source = none) ∧
    t.conceal = { r.conceal with far := t.conceal.far } ∧
    t = { r with sup := t.sup, rx := t.rx, seam := t.seam, conceal := t.conceal }

/-! ## The one-way map (R57) -/

/-- The order in which a cell gives up its dies (R57). -/
def CellState.rank : CellState → Nat
  | .primary => 0
  | .spare => 1
  | .hole => 2

/-- The commands that may take a cell back: FORCE, in its own row or as the frame that carries it, and a start (the resets, and the
completion of the load); a RESTART's start may begin in the last four (R57). -/
def mayReturnCell : Instr → Bool
  | .force _ _ _ _ _ => true
  | .seamFrameEnd _ => true
  | .powerOn => true
  | .pinReset _ => true
  | .supplyFail => true
  | .loadComplete => true
  | .frameComplete _ => true
  | .restartWaitExpiry _ => true
  | .writeComplete _ => true
  | .writeTimeout _ => true
  | _ => false

end Sys2Proof.Machine
end

