-- ==== Sys2Proof/Certificates/Slice0/Obligations.lean ====
section
/-! DEFINITION. The statements for the provers. A command's statement concludes that `exec` answers a next state and says what that
state holds. Where an event ends with the test of R145 and the filling of the banks, the next state is `settle u` or `fillBanks u`,
and the statement says what `u` holds; what those two do is stated on its own (WriteBeginsWithItsSnapshot,
BanksAreFilledInOrder). -/

open Sys2Proof Sys2Proof.Machine

/-! ## The machine -/

/-- The command at the front of the queue is run on the state with the queue's rest; on an empty queue the tile idles (the model's
own queue: log entries 12 and 19). -/
def Obligations.StepRunsTheFrontCommand : Prop :=
  ∀ s : State, (∀ c rest, s.pending = c :: rest → step s = exec c { s with pending := rest }) ∧
    (s.pending = [] → step s = .next s)

/-- No command stops the tile, none touches the queue, and none writes the factory region (R139). -/
def Obligations.EveryCommandCompletes : Prop :=
  ∀ (c : Instr) (s : State), ∃ t, exec c s = .next t ∧ t.pending = s.pending ∧
    t.store.factory = s.store.factory ∧ t.store.factoryCheckHi = s.store.factoryCheckHi ∧
      t.store.factoryCheckLo = s.store.factoryCheckLo

/-- Law of the one-way map (R57): a command that is neither a FORCE nor part of a start moves no cell earlier in the order PRIMARY,
SPARE, HOLE. -/
def Obligations.CellsOnlyGiveUpTheirDies : Prop :=
  ∀ (c : Instr) (s t : State), mayReturnCell c = false → exec c s = .next t →
    ∀ x, (cellAt s x).state.rank ≤ (cellAt t x).state.rank

/-! ## Resets and the start (chapter 11) -/

/-- POWER_ON, PIN_RESET of 10 µs or more and SUPPLY_FAIL reset every block, record their own cause, tear a write in flight, and begin
their own hold of RESET beside one that stands: PIN_RESET until the pin is released, the other two until the supply is above 4.1 V; a
shorter assertion of the pin is ignored (R167, R168, R151). That PIN_RESET leaves the supply state as it was is the model's deduction
from R173 (log entry 5); that POWER_ON knows of no assertion of the pin, and that PIN_RESET and SUPPLY_FAIL set their cause also before
the supply has first risen above 4.1 V behind POWER_ON, is its choice (log entry 20). -/
def Obligations.ResetsClearTheTile : Prop :=
  (∀ s : State, ∃ t, exec .powerOn s = .next t ∧ ResetValues t ∧ CutRegions s t ∧ t.sup.cause = .powerOn ∧
    t.sup.supplyHeld = true ∧ t.sup.pinAsserted = false) ∧
    (∀ (s : State) (us : Nat), 10 ≤ us →
      ∃ t, exec (.pinReset us) s = .next t ∧ ResetValues t ∧ CutRegions s t ∧ t.sup.cause = .pin ∧
        t.sup.supply = s.sup.supply ∧ t.sup.pinAsserted = true ∧ t.sup.supplyHeld = s.sup.supplyHeld) ∧
    (∀ (s : State) (us : Nat), us < 10 → exec (.pinReset us) s = .next s) ∧
    (∀ s : State, ∃ t, exec .supplyFail s = .next t ∧ ResetValues t ∧ CutRegions s t ∧ t.sup.cause = .supply ∧
      t.sup.supplyHeld = true ∧ t.sup.pinAsserted = s.sup.pinAsserted)

/-- START_BEGIN in RESET with the reset pin released, and the supply above 4.1 V if it had to rise, reads the straps, gives the station
and the edges, starts the receiver and enters LOADING (R167, R169, R99, R31, R173); every other block stands as it was. While the pin
is asserted, or the supply has still to rise, the tile stays in RESET (R167, R168): what the pins show at the event is the command's
operand (the model's choice, log entry 20). In another state nothing changes (log entry 10). -/
def Obligations.StartReadsTheStraps : Prop :=
  (∀ (s : State) (pins : Pins), s.sup.state = .reset → pins.resetPin = false →
    s.sup.supplyHeld = false ∨ 4100 < pins.supplyMv →
    ∃ t, exec (.startBegin pins) s = .next t ∧
      StartBegun pins { s with sup := { s.sup with pinAsserted := false, supplyHeld := false } } t) ∧
    (∀ (s : State) (pins : Pins), s.sup.state = .reset →
      pins.resetPin = true ∨ (s.sup.supplyHeld = true ∧ pins.supplyMv ≤ 4100) →
        exec (.startBegin pins) s =
          .next { s with
            sup :=
              { s.sup with
                pinAsserted := pins.resetPin
                supplyHeld := s.sup.supplyHeld && decide (pins.supplyMv ≤ 4100) } }) ∧
    (∀ (s : State) (pins : Pins), s.sup.state ≠ .reset → exec (.startBegin pins) s = .next s)

/-- LOAD_COMPLETE in LOADING gives every cell its record, its dies' health, its factory gain and its mark by the condition of its
slot, and applies the automatic transitions to every unforced cell (R143, R75, R53). -/
def Obligations.LoadGivesEveryCellItsRecord : Prop :=
  ∀ s : State, s.sup.state = .loading →
    ∃ t, exec .loadComplete s = .next t ∧
      ∀ c, c < Config.cellCount →
        let f := factoryRecord (factoryPasses s.store) (tget s.store.factory c FactoryBytes.plain)
        factoryGainAt t c = f.gain ∧
          match slotCondition c (tget s.store.slots c .cut) with
          | .blank =>
            cellAt t c = ⟨transition .primary f.primary.failed f.spare.failed, false, none⟩ ∧
              dieAt t (primaryDie c) = ⟨f.primary, 0, 0, .none⟩ ∧ dieAt t (spareDie c) = ⟨f.spare, 0, 0, .none⟩ ∧
              tget t.store.dirty c true = false
          | .torn =>
            cellAt t c = ⟨transition .primary f.primary.failed f.spare.failed, false, none⟩ ∧
              dieAt t (primaryDie c) = ⟨f.primary, 0, 0, .none⟩ ∧ dieAt t (spareDie c) = ⟨f.spare, 0, 0, .none⟩ ∧
              tget t.store.dirty c false = true
          | .written r =>
            (cellAt t c).forced = r.forced ∧ (cellAt t c).gain = r.gain ∧
              (cellAt t c).state =
                (if r.forced then r.state else transition r.state r.primary.failed r.spare.failed) ∧
              dieAt t (primaryDie c) = ⟨r.primary, 0, 0, .none⟩ ∧ dieAt t (spareDie c) = ⟨r.spare, 0, 0, .none⟩ ∧
              tget t.store.dirty c false = decide ((cellAt t c).state ≠ r.state)

/-- LOAD_COMPLETE in LOADING takes K and C_lim from the settings record or their defaults, hands over its three findings and keeps the
others, triggers the rebuild and enters CHAIN_CHECK; it writes neither region and posts no cell event (R142, R143, R170, R174). -/
def Obligations.LoadHandsOverItsFindings : Prop :=
  ∀ s : State, s.sup.state = .loading →
    ∃ t, exec .loadComplete s = .next t ∧
      (match settingsCondition s.store.settings with
        | .written p =>
          t.conceal.k = p.1 ∧ t.gov.limit = p.2 ∧ t.sup.findings.settingsDefaulted = false ∧ t.store.settingsDirty = false
        | .blank =>
          t.conceal.k = 192 ∧ t.gov.limit = 0 ∧ t.sup.findings.settingsDefaulted = true ∧ t.store.settingsDirty = false
        | .torn =>
          t.conceal.k = 192 ∧ t.gov.limit = 0 ∧ t.sup.findings.settingsDefaulted = true ∧ t.store.settingsDirty = true) ∧
      t.sup.findings =
        { s.sup.findings with
          factoryFault := !factoryPasses s.store
          settingsDefaulted := t.sup.findings.settingsDefaulted
          tornSlots :=
            (List.range Config.cellCount).countP
              (fun c => decide (slotCondition c (tget s.store.slots c .cut) = .torn)) } ∧
      t.sup = { s.sup with state := .chainCheck, findings := t.sup.findings } ∧
      t.scan = { s.scan with position := .check } ∧ Triggered { s.conceal with k := t.conceal.k } t ∧
      t.store = { s.store with dirty := t.store.dirty, settingsDirty := t.store.settingsDirty } ∧
      t.health = { s.health with dies := t.health.dies } ∧ t.gov = { s.gov with limit := t.gov.limit } ∧
      t = { s with sup := t.sup, scan := t.scan, health := t.health, map := t.map, conceal := t.conceal, gov := t.gov,
                   store := t.store }

/-- CHAIN_CHECK_COMPLETE in CHAIN_CHECK releases the READY line, starts the READY timer and enters READY_WAIT with the receiver in
WAIT_IDLE; a failed check records CHAIN_FAULT_AT_START, sets the blank flag and raises the tile notice (R14, R170, R137, R11). -/
def Obligations.ChainCheckEntersReadyWait : Prop :=
  ∀ (s : State) (p q : Bool), s.sup.state = .chainCheck →
    ∃ u, exec (.chainCheckComplete p q) s = .next (fillBanks u) ∧
      u.sup =
        { s.sup with
          state := .readyWait
          readyTimer := true
          readyLow := false
          findings := { s.sup.findings with chainFault := s.sup.findings.chainFault || !(p && q) } } ∧
      u.scan.position = .idle ∧ u.scan.marker = .none ∧ u.scan.blank = (s.scan.blank || !(p && q)) ∧
      u.scan.runCount = (if p && q then s.scan.runCount else 0) ∧ u.scan.chanP = s.scan.chanP ∧ u.scan.chanS = s.scan.chanS ∧
      u.seam = { s.seam with recv := .waitIdle, buffer := [], count := 0, ownSent := false, items := u.seam.items } ∧
      ((p && q || s.scan.blank) = true → u.port = s.port ∧ u.seam.items = s.seam.items) ∧
      ((p && q || s.scan.blank) = false → NoticeRaised s u ∧
        u.seam.items = { s.seam.items with tileNotice := u.seam.items.tileNotice }) ∧
      u = { s with sup := u.sup, scan := u.scan, seam := u.seam, port := u.port }

/-- READY_LINE_HIGH (10 µs or more) and READY_TIMEOUT (the timer running) take READY_WAIT to RUNNING, without and with the finding;
the tile notice, a LOAD (unless STRAP_FAULT) and an EDGE for every present edge become pending, and the counters start (R171, R172,
R112, R101). A shorter pulse, an expired timer that is stopped, and either event in another state change nothing.
Where the event cannot arise, nothing changes (the model's choice, log entry 10). -/
def Obligations.ReadyLineOrTimeoutEntersRunning : Prop :=
  (∀ (s : State) (c : Instr) (us : Nat),
    s.sup.state = .readyWait → ((c = .readyLineHigh us ∧ 10 ≤ us) ∨ (c = .readyTimeout ∧ s.sup.readyTimer = true)) →
      ∃ u, exec c s = .next (settle u) ∧
        u.sup =
          { s.sup with
            state := .running
            readyTimer := false
            findings := { s.sup.findings with readyTimeout := s.sup.findings.readyTimeout || decide (c = .readyTimeout) } } ∧
        u.gov = { s.gov with counter := 0 } ∧ u.conceal = { s.conceal with refresh := 0 } ∧ NoticeRaised s u ∧
        u.seam =
          { s.seam with
            items :=
              { s.seam.items with
                edges := u.seam.items.edges, load := u.seam.items.load, tileNotice := u.seam.items.tileNotice } } ∧
        u.seam.items.load = (s.seam.items.load || !s.sup.findings.strapFault) ∧
        (∀ e, u.seam.items.edges.get e = (s.seam.items.edges.get e || (s.conceal.far.get e).present)) ∧
        u = { s with sup := u.sup, gov := u.gov, conceal := u.conceal, seam := u.seam, port := u.port }) ∧
    (∀ (s : State) (us : Nat), s.sup.state ≠ .readyWait ∨ us < 10 → exec (.readyLineHigh us) s = .next s) ∧
    (∀ s : State, s.sup.state ≠ .readyWait ∨ s.sup.readyTimer = false → exec .readyTimeout s = .next s)

/-- SUPPLY_LOW and SUPPLY_OK change the supply state; a turn to LOW judges a long request in execution and begins no write, a return
to OK may begin one (R173, R149, R161). That a supply above 4.5 V has also risen above 4.1 V, which ends its hold of RESET, is the
model's deduction (log entry 20).
Where the event cannot arise, nothing changes (the model's choice, log entry 10). -/
def Obligations.SupplyStateFollowsTheSupply : Prop :=
  (∀ s : State, s.sup.supply = .ok →
    ∃ u, exec .supplyLow s = .next (fillBanks u) ∧ u.sup = { s.sup with supply := .low } ∧ u.store = s.store ∧
      (∀ r, s.port.request = some r → r.phase = .executing →
        u.port.long =
          some ⟨r.source, r.kind.byte, if s.store.state = .faulted then .storeFault else .supplyLow, dirtyCount s, .empty, none⟩ ∧
        u.seam.items.longReply = true ∧
        u.port.request = (if r.kind = .commit then none else some { r with phase := .replying })) ∧
      ((∀ r, s.port.request = some r → r.phase = .replying) → u.port = s.port ∧ u.seam = s.seam) ∧
      u = { s with sup := u.sup, port := u.port, seam := u.seam }) ∧
    (∀ s : State, s.sup.supply = .low →
      exec .supplyOk s = .next (settle { s with sup := { s.sup with supply := .ok, supplyHeld := false } })) ∧
    (∀ s : State, s.sup.supply = .low → exec .supplyLow s = .next s) ∧
    (∀ s : State, s.sup.supply = .ok → exec .supplyOk s = .next s)

/-! ## The pixel link (chapter 2) -/

/-- The bytes of a VIDEO record of 3,072 fields, of a BLANK record, of a written slot, of a written settings record and of an EDGE
body read back as what they carry, a slot's SUSPECT as GOOD and every other health as it is (R20, R21, R141, R142, R146, R176,
R177). No other record is accepted (R20); a slot and the settings record are blank, torn and written exactly as R141, R142 and R177
say, and the factory region passes exactly as R140 says. An EDGE body is refused exactly when its edge code is above 3 or its length
is not 13 plus the HOLE bits of its map, and it is read as the edge and the entries that spell it (R176). -/
def Obligations.RecordsReadBack : Prop :=
  (∀ vs : List Nat, vs.length = 3072 → (∀ v ∈ vs, v < 65536) →
    readRecord ((86#8 :: vs.flatMap bytes16) ++ bytes16 (crc (86#8 :: vs.flatMap bytes16))) = some (.video vs)) ∧
    readRecord (66#8 :: bytes16 (crc [66#8])) = some .blank ∧
    (∀ (i : Nat) (r : CellRec) (p q : Health), i < Config.cellCount →
      (∀ g, r.gain = some g → Config.minGain ≤ g ∧ g ≤ Config.maxGain) →
      slotCondition i (.bytes (slotBytes i r p q)) =
        .written ⟨r.state, r.forced, savedHealth p, savedHealth q, r.gain⟩) ∧
    savedHealth .suspect = .good ∧ (∀ h : Health, h ≠ .suspect → savedHealth h = h) ∧
    (∀ k limit : Nat, k ≤ 255 → limit ≤ Config.maxLimit →
      settingsCondition (.bytes (settingsBytes k limit)) = .written (k, limit)) ∧
    (∀ (e : Edge) (content : EdgeContent), (∀ x ∈ content.toList, ∀ sh, x = .hole sh → sh ≤ 255) →
      readEdgeBody (edgeBody e content) = some (e, content) ∧ bodyLengthOk kindEdge (edgeBody e content).length = true) ∧
    (∀ body : List Byte,
      let holes := (List.range 96).countP (fun i => (body.getD (1 + i / 8) 0#8).getLsbD (7 - i % 8))
      (readEdgeBody body = none ↔ 3 < (body.getD 0 0#8).toNat ∨ body.length ≠ 13 + holes) ∧
        (∀ e content, readEdgeBody body = some (e, content) → body = edgeBody e content)) ∧
    (∀ (bytes : List Byte) (f : PixelFrame), readRecord bytes = some f →
      (f = .blank ∧ bytes = 66#8 :: bytes16 (crc [66#8])) ∨
        ∃ vs : List Nat, f = .video vs ∧ vs.length = 3072 ∧ (∀ v ∈ vs, v < 65536) ∧
          bytes = (86#8 :: vs.flatMap bytes16) ++ bytes16 (crc (86#8 :: vs.flatMap bytes16))) ∧
    (∀ (i : Nat) (b : SlotBytes),
      let allOnes := b = ⟨255#8, 255#8, 255#8, 255#8, 255#8, 255#8, 255#8, 255#8⟩
      let gain := be16 b.gainHi b.gainLo
      let agrees := be16 b.checkHi b.checkLo = crc (bytes16 i ++ [b.state, b.forced, b.primary, b.spare, b.gainHi, b.gainLo])
      let healthOk := fun h : Byte => h = 0#8 ∨ h = 2#8 ∨ h = 3#8
      let allowed := b.state.toNat ≤ 2 ∧ b.forced.toNat ≤ 1 ∧ healthOk b.primary ∧ healthOk b.spare ∧
        (gain = 0 ∨ 128 ≤ gain ∧ gain ≤ 511)
      (slotCondition i (.bytes b) = .blank ↔ allOnes) ∧
        (slotCondition i (.bytes b) = .torn ↔ ¬allOnes ∧ ¬(agrees ∧ allowed)) ∧
        (∀ r, slotCondition i (.bytes b) = .written r →
          r.state.code = b.state.toNat ∧ (r.forced = true ↔ b.forced = 1#8) ∧ r.primary.code = b.primary.toNat ∧
            r.spare.code = b.spare.toNat ∧ r.gain = (if gain = 0 then none else some gain)) ∧
        slotCondition i .cut = .torn) ∧
    (∀ b : SettingsBytes,
      let allOnes := b = ⟨255#8, 255#8, 255#8, 255#8, 255#8⟩
      let limit := be16 b.limitHi b.limitLo
      let agrees := be16 b.checkHi b.checkLo = crc [b.k, b.limitHi, b.limitLo]
      (settingsCondition (.bytes b) = .blank ↔ allOnes) ∧
        (settingsCondition (.bytes b) = .torn ↔ ¬allOnes ∧ ¬(agrees ∧ limit ≤ 49136)) ∧
        (∀ p, settingsCondition (.bytes b) = .written p → p = (b.k.toNat, limit)) ∧
        settingsCondition .cut = .torn) ∧
    (∀ st : Store,
      let healthOk := fun h : Byte => h = 0#8 ∨ h = 2#8 ∨ h = 3#8
      let fits := fun b : FactoryBytes =>
        healthOk b.primary ∧ healthOk b.spare ∧ 128 ≤ be16 b.gainHi b.gainLo ∧ be16 b.gainHi b.gainLo ≤ 511
      (factoryPasses st = true ↔
        (∀ b ∈ st.factory.toList, fits b) ∧
          be16 st.factoryCheckHi st.factoryCheckLo =
            crc (st.factory.toList.flatMap (fun b => [b.primary, b.spare, b.gainHi, b.gainLo]))) ∧
        (∀ b, factoryRecord false b = ⟨.good, .good, 256⟩) ∧
        (∀ b, fits b →
          let r := factoryRecord true b
          r.primary.code = b.primary.toNat ∧ r.spare.code = b.spare.toNat ∧ r.gain = be16 b.gainHi b.gainLo))

/-- RECORD_END reads the link's levels: ten bit times of 20 ns a byte, and the record ends at the moment the link has stayed at the stop
level for 1 µs, the stop bit and the ones before it among it; without that, the data is collected and nothing is decided (R19, 12.6). At
the end, an accepted record replaces the frame store whole, locks the link, sets the timer to 1.5 T and produces a boundary, and a link
that leaves DARK raises the notice; a discarded record, and a tail, empty the receive buffer and change nothing else. Several records are
taken one after the other; a stopped receiver ignores the link (R19 to R25, R27, R30, R31). That the banks are filled behind the
boundary's whole work, so that a notice waiting for composition carries the boundary's own figures, is the model's choice (log entry 9);
that a 1 stands at the stop level, the sampling in the middle of a bit time, and the discarding of data behind a unit without its stop
bit are its choices too (log entry 29). -/
def Obligations.AcceptedRecordLocksTheLink : Prop :=
  (∀ (s : State) (bytes : List Byte) (m n : Nat) (tk : Taking), s.rx.started = true → m < 1000 →
    let link := ⟨.recessive, m⟩ :: (linkLine bytes ++ [⟨.recessive, n⟩])
    let quiet :=
      if bytes = [] then m + n
      else 20 * ((frameLevels bytes).reverse.takeWhile (fun l => decide (l = .recessive))).length + n
    (quiet < 1000 →
      exec (.recordEnd link tk) s =
        .next { s with
          rx := { s.rx with buffer := if s.rx.inTail then s.rx.buffer else (s.rx.buffer ++ bytes).take 6148 } }) ∧
      (∀ f, 1000 ≤ quiet → s.rx.inTail = false → readRecord (s.rx.buffer ++ bytes) = some f →
        ∃ u, exec (.recordEnd link tk) s = .next (fillBanks (boundary tk u)) ∧
          u.rx =
            { s.rx with frameStore := u.rx.frameStore, link := .locked, holding := 0, timer := .oneAndHalfT, buffer := [] } ∧
          (∀ c, c < Config.cellCount →
            tget u.rx.frameStore c 0 =
              match f with
              | .video vs => min 4095 (vs.getD c 0)
              | .blank => 0) ∧
          (s.rx.link = .dark → NoticeRaised s u ∧ OnlyNoticeItem s u) ∧
          (s.rx.link ≠ .dark → u.port = s.port ∧ u.seam = s.seam) ∧
          u = { s with rx := u.rx, port := u.port, seam := u.seam }) ∧
      (1000 ≤ quiet → s.rx.inTail = true ∨ readRecord (s.rx.buffer ++ bytes) = none →
        exec (.recordEnd link tk) s = .next { s with rx := { s.rx with buffer := [], inTail := false } })) ∧
    (∀ (bytes : List Byte),
      linkLine bytes =
        (bytes.flatMap (fun b =>
          .dominant :: ([7, 6, 5, 4, 3, 2, 1, 0].map (fun i => if b.getLsbD i then .recessive else .dominant) ++
            [.recessive]))).map (fun l => ⟨l, 20⟩)) ∧
    (∀ (s : State) (tk : Taking) (k n : Nat), s.rx.started = true → 190 < k → 1000 ≤ n →
      exec (.recordEnd [⟨.dominant, k⟩, ⟨.recessive, n⟩] tk) s =
        .next { s with rx := { s.rx with buffer := [], inTail := false } }) ∧
    (∀ (s : State) (tk : Taking) (before rest : List LineRun) (n k : Nat), s.rx.started = true → 1000 ≤ n → 0 < k →
      ∃ t, exec (.recordEnd (before ++ [⟨.recessive, n⟩]) tk) s = .next t ∧
        exec (.recordEnd (before ++ ⟨.recessive, n⟩ :: ⟨.dominant, k⟩ :: rest) tk) s =
          exec (.recordEnd (⟨.dominant, k⟩ :: rest) tk) t) ∧
    (∀ (s : State) (link : List LineRun) (tk : Taking), s.rx.started = false → exec (.recordEnd link tk) s = .next s)

/-- INTERVAL_TIMER_EXPIRY sets the timer to T, moves the link and the holding count by R23 and R25 and produces a boundary, behind
which, in the same event, a link in HOLDING whose count has reached 30 enters DARK with a tile notice, and any other link stays as it
is (R24, R25, R27, R30). DARK_ENTRY is that entry as a row of its own; where it is not due nothing changes (log entry 1: an expiry
leaves none due). That the banks are filled behind the boundary's whole work and the entry, so that a notice raised inside the event
carries the boundary's own clip count and L, is the model's choice (log entry 9). A stopped timer does not expire (log entry 10). -/
def Obligations.SilentLinkHoldsThenGoesDark : Prop :=
  (∀ (s : State) (tk : Taking), s.rx.timer ≠ .stopped → s.rx.holding ≤ 30 →
    ∃ u, exec (.intervalTimerExpiry tk) s = .next (fillBanks (takeDark (boundary tk u))) ∧
      u =
        { s with
          rx :=
            { s.rx with
              timer := .oneT
              link := if s.rx.link = .locked then .holding else s.rx.link
              holding :=
                if s.rx.link = .locked then 1
                else if s.rx.link = .holding then min 30 (s.rx.holding + 1)
                else s.rx.holding } }) ∧
    (∀ (s : State) (tk : Taking), s.rx.timer = .stopped → exec (.intervalTimerExpiry tk) s = .next s) ∧
    (∀ s : State, s.rx.link = .holding → 30 ≤ s.rx.holding →
      ∃ u, exec .darkEntry s = .next (fillBanks u) ∧ takeDark s = u ∧ u.rx = { s.rx with link := .dark } ∧
        NoticeRaised s u ∧ OnlyNoticeItem s u ∧ u = { s with rx := u.rx, port := u.port, seam := u.seam }) ∧
    (∀ s : State, s.rx.link ≠ .holding ∨ s.rx.holding < 30 → takeDark s = s ∧ exec .darkEntry s = .next s)

/-! ## The frame boundary (chapters 1, 3, 5, 6, 7) -/

/-- At a boundary of READY_WAIT or RUNNING every cell's drive value is computed through the six stages from the frame store, the cell
record, the installed table and the S of the step before, and routed onto its driven die's chain; the clip count, L and the peak
follow, and the Scan Engine goes to the gap before OBSERVE 0 (R4, R8, R78 to R88). That the video value follows the blank flag as this
boundary leaves it is the model's choice of R12's two orders (log entry 1). -/
def Obligations.BoundaryDrivesEveryCell : Prop :=
  ∀ (s : State) (tk : Taking), displayRuns s = true →
    let t := boundary tk s
    let v := fun c => if s.rx.link.showsFrame && !t.scan.blank then tget s.rx.frameStore c 0 else 0
    let b := fun c => (activeEntry t c).bsum * s.gov.factor / 256
    let g := fun c => if (cellAt s c).state = .primary then 256 else (cellAt s c).gain.getD (factoryGainAt s c)
    let q := fun c => if (cellAt s c).state = .hole then 0 else (v c * g c * (256 + b c) + 32768) / 65536
    (∀ c, c < Config.cellCount →
      tget t.scan.chanP c 0 = (if (cellAt s c).state = .primary then min 4095 (q c) else 0) ∧
        tget t.scan.chanS c 0 = (if (cellAt s c).state = .spare then min 4095 (q c) else 0)) ∧
      t.drive.clip = (List.range Config.cellCount).countP (fun c => decide (4095 < q c)) ∧
      t.drive.load = ((List.range Config.cellCount).map (fun c => min 4095 (q c))).sum / 4096 ∧
      t.drive.peak = max s.drive.peak t.drive.load ∧ t.scan.position = .gap (.observe 0) ∧ t.scan.slot = [] ∧
      t.map = s.map ∧ t.store = s.store ∧ t.sup = s.sup ∧ t.rx = s.rx ∧ t.pending = s.pending ∧
      t.port = { s.port with notice := t.port.notice, reraise := t.port.reraise } ∧
      t.seam =
        { s.seam with
          items :=
            { s.seam.items with
              edges := t.seam.items.edges, load := t.seam.items.load, tileNotice := t.seam.items.tileNotice } }

/-- At a boundary of READY_WAIT or RUNNING the Health Monitor judges the period, ages every die and clears the probe plan (R38, R42,
R47, R51), and the Scan Engine judges the period's markers (R12): at the sixteenth good period the blank flag clears within the
boundary, or stands due for BLANK_FLAG_CLEAR when it is left apart, and so does the notice of an anomaly run that reaches 8 (the model's
choice of log entry 1). The boundary raises the tile notice exactly when the blank flag clears, an anomaly run reaches 8 (a run that
stays at 8 raises nothing) or OVER changes (R165). -/
def Obligations.BoundaryJudgesThePeriod : Prop :=
  ∀ (s : State) (tk : Taking), displayRuns s = true →
    let t := boundary tk s
    let n := if s.scan.blank && decide (s.scan.marker = .good) then min 16 (s.scan.runCount + 1) else s.scan.runCount
    let reached := s.health.findings = .anomalous ∧ s.health.anomalyRun = 7
    let raised := (tk = .within ∧ s.scan.blank = true ∧ 16 ≤ n) ∨ (tk = .within ∧ (s.health.anomalyDue = true ∨ reached)) ∨
      t.gov.overFlag ≠ s.gov.overFlag
    (∀ d, d < Config.dieCount → dieAt t d = { dieAt s d with age := min 4095 ((dieAt s d).age + 1) }) ∧
      t.health.plan = [] ∧ t.health.findings = .neither ∧ t.health.requests = s.health.requests ∧
      t.health.cursor = s.health.cursor ∧
      t.health.anomalyRun =
        (match s.health.findings with
          | .anomalous => min 8 (s.health.anomalyRun + 1)
          | .clean => 0
          | .neither => s.health.anomalyRun) ∧
      (tk = .within → t.health.anomalyDue = false) ∧
      (tk = .apart → (t.health.anomalyDue = true ↔ s.health.anomalyDue = true ∨ reached)) ∧
      t.scan.marker = .none ∧
      (tk = .within → s.scan.blank = true → 16 ≤ n → t.scan.blank = false ∧ t.scan.runCount = 0) ∧
      (tk = .apart ∨ s.scan.blank = false ∨ n < 16 → t.scan.blank = s.scan.blank ∧ t.scan.runCount = n) ∧
      (raised → t.port.notice = true ∧
        (s.port.notice = true →
          t.port.reraise = (s.port.reraise || isComposed s .tileNotice) ∧
            t.seam.items.tileNotice = s.seam.items.tileNotice) ∧
        (s.port.notice = false → isComposed s .tileNotice = false →
          t.port.reraise = s.port.reraise ∧ t.seam.items.tileNotice = true)) ∧
      (¬raised → t.port = s.port ∧ t.seam.items.tileNotice = s.seam.items.tileNotice)

/-- At a boundary of READY_WAIT or RUNNING the Load Governor ages its peers, forms E from the boundary's own L and the entries that
have not reached 64, steps S and OVER, and counts the announcement in RUNNING (R112, R116 to R119). Left apart, an entry stands at 64 and
the counter at 16 until PEER_ENTRY_EXPIRY and ANNOUNCEMENT_DUE take them (the model's choice of log entry 1). -/
def Obligations.BoundaryStepsTheGovernor : Prop :=
  ∀ (s : State) (tk : Taking), displayRuns s = true →
    let t := boundary tk s
    let live := s.gov.peers.filter (fun p => decide (p.age + 1 < 64))
    t.gov.estimate = t.drive.load + (live.map (fun p => p.load)).sum ∧
      t.gov.factor =
        (if s.gov.limit = 0 then 256
          else if t.gov.estimate > s.gov.limit then s.gov.factor - 32
          else if 16 * t.gov.estimate ≤ 15 * s.gov.limit then min 256 (s.gov.factor + 8)
          else s.gov.factor) ∧
      t.gov.overFlag =
        (if s.gov.limit = 0 ∨ t.gov.estimate ≤ s.gov.limit then false
          else if t.gov.factor = 0 then true
          else s.gov.overFlag) ∧
      (tk = .within → t.gov.peers = live.map (fun p => { p with age := p.age + 1 })) ∧
      (tk = .apart → t.gov.peers = s.gov.peers.map (fun p => { p with age := min 64 (p.age + 1) })) ∧
      t.gov.limit = s.gov.limit ∧ t.gov.carried = s.gov.carried ∧
      (tk = .within → s.sup.state = .running →
        t.gov.counter = (if 15 ≤ s.gov.counter then 0 else s.gov.counter + 1) ∧
          t.seam.items.load =
            (s.seam.items.load || (decide (15 ≤ s.gov.counter) && !s.sup.findings.strapFault))) ∧
      (tk = .apart → s.sup.state = .running →
        t.gov.counter = min 16 (s.gov.counter + 1) ∧ t.seam.items.load = s.seam.items.load) ∧
      (s.sup.state = .readyWait → t.gov.counter = s.gov.counter ∧ t.seam.items.load = s.seam.items.load)

/-- R119: the OVER flag is set, cleared or left by the step, and a step that changes it raises the tile notice. -/
def Obligations.OverFollowsTheStep : Prop :=
  ∀ s : State,
    let t := governorStep s
    (0 < s.gov.limit ∧ t.gov.estimate > s.gov.limit ∧ t.gov.factor = 0 → t.gov.overFlag = true) ∧
      (s.gov.limit = 0 ∨ t.gov.estimate ≤ s.gov.limit → t.gov.overFlag = false) ∧
      (0 < s.gov.limit → t.gov.estimate > s.gov.limit → t.gov.factor ≠ 0 → t.gov.overFlag = s.gov.overFlag) ∧
      (t.gov.overFlag ≠ s.gov.overFlag → NoticeRaised s t ∧ OnlyNoticeItem s t) ∧
      (t.gov.overFlag = s.gov.overFlag → t.port = s.port ∧ t.seam = s.seam) ∧
      t = { s with
            gov := { s.gov with estimate := t.gov.estimate, factor := t.gov.factor, overFlag := t.gov.overFlag }
            port := t.port
            seam := t.seam }

/-- At a boundary that finds a completed rebuild, in any supervisor state, the tables change places, the edges whose content differs
from their last-sent content, and no others, become pending in RUNNING, and a marked rerun starts; a boundary that finds none leaves the
tables (R98, R101). The refresh count counts in RUNNING (R103). A VALID far-edge record ages, and at 2,048 becomes INVALID within the
boundary, with one trigger for all, or stands due for FAR_EDGE_EXPIRY when it is left apart (R107; the model's choice of log entry 1);
that the installation comes before the ageing is the model's choice of log entry 7. The content of an edge is that of its cells in the
active table (R100). -/
def Obligations.BoundaryInstallsTheRebuild : Prop :=
  (∀ (s : State) (tk : Taking),
    let t := boundary tk s
    let installs := s.conceal.rebuild = .complete
    let expires := fun e : Edge =>
      displayRuns s = true ∧ tk = .within ∧ (s.conceal.far.get e).valid = true ∧ 2047 ≤ (s.conceal.far.get e).age
    let rerunNow : Rebuild := .running ⟨tmap isHole s.map.cells, s.conceal.far, s.conceal.k⟩
    let rebuildNow : Rebuild := .running ⟨tmap isHole s.map.cells, t.conceal.far, s.conceal.k⟩
    (installs → t.conceal.active = s.conceal.shadow ∧ t.conceal.shadow = s.conceal.active) ∧
      (¬installs → t.conceal.active = s.conceal.active ∧ t.conceal.shadow = s.conceal.shadow) ∧
      ((∀ e, ¬expires e) →
        (installs → t.conceal.rebuild = (if s.conceal.rerun then rerunNow else .idle) ∧ t.conceal.rerun = false) ∧
          (¬installs → t.conceal.rebuild = s.conceal.rebuild ∧ t.conceal.rerun = s.conceal.rerun)) ∧
      ((∃ e, expires e) →
        (installs → t.conceal.rebuild = (if s.conceal.rerun then rerunNow else rebuildNow) ∧
          t.conceal.rerun = s.conceal.rerun) ∧
          (s.conceal.rebuild = .idle → t.conceal.rebuild = rebuildNow ∧ t.conceal.rerun = s.conceal.rerun) ∧
          (∀ n, s.conceal.rebuild = .running n → t.conceal.rebuild = .running n ∧ t.conceal.rerun = true)) ∧
      (∀ e, t.seam.items.edges.get e = true ↔
        s.seam.items.edges.get e = true ∨
          s.sup.state = .running ∧ (s.conceal.far.get e).present = true ∧
            ((installs ∧ s.conceal.lastSent.get e ≠ some (edgeContent t e)) ∨ (tk = .within ∧ 511 ≤ s.conceal.refresh))) ∧
      t.conceal.k = s.conceal.k ∧ t.conceal.lastSent = s.conceal.lastSent ∧ t.conceal.mismatch = s.conceal.mismatch ∧
      t.conceal.refresh =
        (if s.sup.state ≠ .running then s.conceal.refresh
          else if tk = .apart then min 512 (s.conceal.refresh + 1)
          else if 511 ≤ s.conceal.refresh then 0
          else s.conceal.refresh + 1) ∧
      (∀ e, (displayRuns s = true ∧ (s.conceal.far.get e).valid = true →
          (t.conceal.far.get e).age = min 2048 ((s.conceal.far.get e).age + 1)) ∧
        (¬(displayRuns s = true ∧ (s.conceal.far.get e).valid = true) → t.conceal.far.get e = s.conceal.far.get e) ∧
        (expires e → (t.conceal.far.get e).valid = false) ∧
        (¬expires e → (t.conceal.far.get e).valid = (s.conceal.far.get e).valid) ∧
        t.conceal.far.get e =
          { s.conceal.far.get e with valid := (t.conceal.far.get e).valid, age := (t.conceal.far.get e).age })) ∧
    (∀ (s : State) (e : Edge) (pos colour : Nat), pos < 32 → colour < 3 →
      let cell :=
        match e with
        | .left => (pos * 32 + 0) * 3 + colour
        | .right => (pos * 32 + 31) * 3 + colour
        | .top => (0 * 32 + pos) * 3 + colour
        | .bottom => (31 * 32 + pos) * 3 + colour
      tget (edgeContent s e) (pos * 3 + colour) .working =
        (match tget s.conceal.active cell (.lit 0) with
          | .lit _ => .working
          | .hole sh => .hole sh))

/-- The rows of the events that a boundary brings due take effect when they are due: BLANK_FLAG_CLEAR (R12), ANOMALY_RUN_NOTICE
(R42), ANNOUNCEMENT_DUE (R112), PEER_ENTRY_EXPIRY (R116), FAR_EDGE_EXPIRY (R107) and EDGE_REFRESH (R103). That they may stand due
behind a boundary, and that a row whose event is not due changes nothing, is the model's choice (log entries 1 and 10). -/
def Obligations.DueEventsTakeEffect : Prop :=
  (∀ s : State, s.scan.blank = true → s.scan.runCount = 16 →
    ∃ u, exec .blankFlagClear s = .next (fillBanks u) ∧
      u.scan = { s.scan with blank := false, runCount := 0, seenBlank := u.scan.seenBlank } ∧ NoticeRaised s u ∧
      OnlyNoticeItem s u ∧
      u = { s with scan := u.scan, port := u.port, seam := u.seam }) ∧
    (∀ s : State, s.health.anomalyDue = true →
      ∃ u, exec .anomalyRunNotice s = .next (fillBanks u) ∧ u.health = { s.health with anomalyDue := false } ∧
        NoticeRaised s u ∧ OnlyNoticeItem s u ∧ u = { s with health := u.health, port := u.port, seam := u.seam }) ∧
    (∀ s : State, s.sup.state = .running → s.gov.counter = 16 →
      ∃ u, exec .announcementDue s = .next (fillBanks u) ∧
        u = { s with
              gov := { s.gov with counter := 0 }
              seam :=
                { s.seam with
                  items := { s.seam.items with load := s.seam.items.load || !s.sup.findings.strapFault } } }) ∧
    (∀ s : State, ∃ t, exec .peerEntryExpiry s = .next t ∧
      t = { s with gov := { s.gov with peers := t.gov.peers } } ∧ t.gov.peers.Sublist s.gov.peers ∧
      (∀ p, p ∈ t.gov.peers ↔ p ∈ s.gov.peers ∧ p.age < 64)) ∧
    (∀ (s : State) (e : Edge), (s.conceal.far.get e).valid = true → (s.conceal.far.get e).age = 2048 →
      ∃ t, exec .farEdgeExpiry s = .next t ∧ Triggered { s.conceal with far := t.conceal.far } t ∧
        (∀ f, t.conceal.far.get f =
          { s.conceal.far.get f with
            valid := (s.conceal.far.get f).valid && decide ((s.conceal.far.get f).age < 2048) }) ∧
        t = { s with conceal := t.conceal }) ∧
    (∀ s : State, s.sup.state = .running → s.conceal.refresh = 512 →
      ∃ u, exec .edgeRefresh s = .next (fillBanks u) ∧ u.conceal = { s.conceal with refresh := 0 } ∧
        (∀ e, u.seam.items.edges.get e = (s.seam.items.edges.get e || (s.conceal.far.get e).present)) ∧
        u.seam = { s.seam with items := { s.seam.items with edges := u.seam.items.edges } } ∧
        u = { s with conceal := u.conceal, seam := u.seam }) ∧
    (∀ s : State,
      (s.scan.blank = false ∨ s.scan.runCount < 16 → exec .blankFlagClear s = .next s) ∧
        (s.health.anomalyDue = false → exec .anomalyRunNotice s = .next s) ∧
        (s.sup.state ≠ .running ∨ s.gov.counter < 16 → exec .announcementDue s = .next s) ∧
        ((∀ e, (s.conceal.far.get e).valid = true → (s.conceal.far.get e).age < 2048) → exec .farEdgeExpiry s = .next s) ∧
        (s.sup.state ≠ .running ∨ s.conceal.refresh < 512 → exec .edgeRefresh s = .next s))

/-- R82, R83 and R84 on one cell: G is 256 on the primary and the spare gain on the spare; b is floor(Bsum × S / 256) and lies in 0
to 512; D′ is the rounded and clipped product, 0 in HOLE; the cell is clipped exactly from P = 268,402,688 on, and at a gain of 256
without boost D′ is V, never clipped. -/
def Obligations.DriveValueStages : Prop :=
  ∀ (v gain bsum factor : Nat) (st : CellState), v ≤ 4095 → 128 ≤ gain → gain ≤ 511 → bsum ≤ 512 → factor ≤ 256 →
    let b := bsum * factor / 256
    let g := if st = .primary then 256 else gain
    let p := v * g * (256 + b)
    let o := driveCell v st gain bsum factor
    b ≤ 512 ∧ (factor = 256 → b = bsum) ∧ (factor = 0 → b = 0) ∧ (bsum = 0 → b = 0) ∧ 128 ≤ g ∧ g ≤ 511 ∧
      p ≤ 1607074560 ∧ p + 32768 < 2 ^ 31 ∧ o.state = st ∧ o.value ≤ 4095 ∧
      (st = .hole → o.value = 0 ∧ o.clipped = false) ∧
      (st ≠ .hole →
        o.value = min 4095 ((p + 32768) / 65536) ∧ (o.clipped = true ↔ 4095 < (p + 32768) / 65536) ∧
          (o.clipped = true ↔ 268402688 ≤ p) ∧ (g = 256 → b = 0 → o.value = v ∧ o.clipped = false))

/-- R86: L is floor(ΣD′ / 4,096) over all 3,072 cells, and lies in 0 to 3,071. -/
def Obligations.FrameLoadStaysInRange : Prop :=
  ∀ s : State,
    let t := driveBoundary s
    t.drive.load = ((driveTable s).toList.map (fun o => o.value)).sum / 4096 ∧ t.drive.load ≤ 3071 ∧
      (∀ o ∈ (driveTable s).toList, o.value ≤ 4095 ∧ (o.state = .hole → o.value = 0)) ∧ (driveTable s).toList.length = 3072

/-! ## Scan, observation and probes (chapters 1 and 3) -/

/-- SHIFT_COMPLETE in a gap: two good markers light the position and count as a GOOD check; a failed marker sets the blank flag,
zeroes the run count, makes the period FAILED, raises the notice if the flag was clear, lights nothing, and hands the probes of the
slot back as NOT_MADE (R6, R9, R10, R11, R47). What each die is driven at follows: in a lit OBSERVE or REFRESH position of its phase
its channel value, or 0 while the blank flag is set; in a lit PROBE position 512 for the die in hand; at any other time 0 (R3, R6, R17).
Where the event cannot arise, nothing changes (the model's choice, log entry 10). -/
def Obligations.ShiftLightsOrBlanks : Prop :=
  (∀ (s : State) (next : LitPos), s.scan.position = .gap next →
    exec (.shiftComplete true true) s =
      .next { s with
        scan :=
          { s.scan with
            position := .run next true
            marker := if s.scan.marker = .failed then .failed else .good } }) ∧
    (∀ (s : State) (next : LitPos) (p q : Bool), s.scan.position = .gap next → (p && q) = false →
      ∃ u, exec (.shiftComplete p q) s = .next (fillBanks u) ∧
        u.scan =
          { s.scan with
            blank := true
            runCount := 0
            marker := .failed
            seenBlank := true
            position := match next with
              | .probe _ => .gap (.refresh 0)
              | _ => .run next false
            slot := match next with
              | .probe _ => []
              | _ => s.scan.slot } ∧
        u.health =
          { s.health with
            plan := match next with
              | .probe _ => s.health.plan.filter (fun d => decide (d ∉ s.scan.slot))
              | _ => s.health.plan } ∧
        (s.scan.blank = false → NoticeRaised s u ∧ OnlyNoticeItem s u) ∧
        (s.scan.blank = true → u.port = s.port ∧ u.seam = s.seam) ∧
        u = { s with scan := u.scan, health := u.health, port := u.port, seam := u.seam }) ∧
    (∀ (s : State) (p q : Bool), (∀ next, s.scan.position ≠ .gap next) → exec (.shiftComplete p q) s = .next s) ∧
    (∀ (s : State) (d : Nat), d < Config.dieCount →
      let phase := d / 2 / 96 % 4
      let value :=
        if s.scan.blank then 0
        else if d % 2 = 1 then tget s.scan.chanS (d / 2) 0
        else tget s.scan.chanP (d / 2) 0
      dieOutput s d =
        match s.scan.position with
        | .run (.observe p) true => if phase = p.val then value else 0
        | .run (.refresh p) true => if phase = p.val then value else 0
        | .run (.probe _) true => if s.scan.slot.head? = some d then 512 else 0
        | _ => 0)

/-- R36 and R37 on one die record, with R34's health: OPEN raises the strike by 2 and SHORT by 4, to at most 15, OK lowers it by 1;
the health follows the strike; a FAILED die keeps both. Every observation sets the age to 0, and a probe's sets the last probe
outcome. -/
def Obligations.ObservationMovesTheStrike : Prop :=
  ∀ (byProbe : Bool) (m : Measure) (r : DieRec), r.sound →
    let o := observe byProbe m r
    o.age = 0 ∧
      o.lastProbe =
        (if byProbe then
          match m with
          | .ok => .ok
          | .openPath => .openPath
          | .shortPath => .shortPath
        else r.lastProbe) ∧
      (r.health = .failedOpen ∨ r.health = .failedShort → o.health = r.health ∧ o.strike = r.strike) ∧
      (r.health = .good ∨ r.health = .suspect →
        o.strike =
          (match m with
            | .ok => r.strike - 1
            | .openPath => min 15 (r.strike + 2)
            | .shortPath => min 15 (r.strike + 4)) ∧
          (o.strike = 0 → o.health = .good) ∧ (1 ≤ o.strike → o.strike ≤ 7 → o.health = .suspect) ∧
          (8 ≤ o.strike → m = .openPath → o.health = .failedOpen) ∧
          (8 ≤ o.strike → m = .shortPath → o.health = .failedShort) ∧ (m = .ok → o.strike ≤ 7) ∧ o.strike ≤ 11)

/-- OBSERVE_END of a pass that is not void. The faulty entries of a half are those of the phase that are driven, at whatever value
above 0, and measured OPEN or SHORT: a half with fewer than 64 is taken, each of its entries driven at 256 or more is an observation of
its die, and a discarded half changes no die; every cell of a die that became FAILED is marked, reported and, when it is not forced,
moved by the automatic transitions; its event carries its state, its healths and the cause of R60, and no other entry or mark of the
reports changes. After OBSERVE 3 the cycle reaches the probe slot (R3, R5, R7, R35, R36, R39, R41, R42, R58 to R60, R68, R69, R163). That
all the notices of the pass are taken, in ascending die index, before a write begins, with its choice made from all the marks, is the
model's choice (log entries 8 and 9). -/
def Obligations.SensePassIsTaken : Prop :=
  ∀ (s : State) (p : Fin 4) (lit : Bool) (mP mS : Vector Measure Config.channelCount),
    s.scan.position = .run (.observe p) lit → s.scan.blank = false → s.scan.seenBlank = false →
      ∃ u, exec (.observeEnd mP mS) s = .next (settle u) ∧
        (let phase := fun c : Nat => c / 96 % 4
         let channel := fun c : Nat => (c / 96 / 4 * 32 + c / 3 % 32) * 3 + c % 3
         let faulty := fun (chan : Vector Nat Config.cellCount) (m : Vector Measure Config.channelCount) =>
          (List.range Config.cellCount).countP
            (fun c => decide (phase c = p.val) && decide (0 < tget chan c 0) && decide (tget m (channel c) .ok ≠ .ok))
         let cleanP := decide (faulty s.scan.chanP mP < 64)
         let cleanS := decide (faulty s.scan.chanS mS < 64)
         let sees := fun d : Nat =>
          phase (d / 2) = p.val ∧
            if d % 2 = 1 then cleanS = true ∧ 256 ≤ tget s.scan.chanS (d / 2) 0
            else cleanP = true ∧ 256 ≤ tget s.scan.chanP (d / 2) 0
         let result := fun d : Nat =>
          if d % 2 = 1 then tget mS (channel (d / 2)) .ok else tget mP (channel (d / 2)) .ok
         (∀ d, d < Config.dieCount → sees d → dieAt u d = observe false (result d) (dieAt s d)) ∧
          (∀ d, d < Config.dieCount → ¬sees d → dieAt u d = dieAt s d) ∧
          u.health.findings =
            (if (cleanP && cleanS) = false then .anomalous
              else if s.health.findings = .anomalous then .anomalous else .clean)) ∧
        (∀ c, c < Config.cellCount →
          (dieFailed s (primaryDie c) = dieFailed u (primaryDie c) ∧ dieFailed s (spareDie c) = dieFailed u (spareDie c) →
            cellAt u c = cellAt s c ∧ tget u.store.dirty c false = tget s.store.dirty c false) ∧
          (dieFailed s (primaryDie c) ≠ dieFailed u (primaryDie c) ∨ dieFailed s (spareDie c) ≠ dieFailed u (spareDie c) →
            cellAt u c =
              (if (cellAt s c).forced then cellAt s c
                else
                  { cellAt s c with
                    state := transition (cellAt s c).state (dieFailed u (primaryDie c)) (dieFailed u (spareDie c)) }) ∧
              tget u.store.dirty c false = true ∧
              ((∃ r ∈ u.port.queue, r.cell = c) ∨ tget u.port.marks c false = true))) ∧
        PassPosted s u ∧
        ((∀ d, d < Config.dieCount → dieFailed u d = dieFailed s d) →
          u.port = s.port ∧ u.seam = s.seam ∧ u.store = s.store ∧ u.map = s.map) ∧
        (p ≠ 3 → u.scan = { s.scan with position := .gap (.observe (p + 1)) } ∧ u.health.plan = s.health.plan ∧
          u.health.cursor = s.health.cursor) ∧
        (p = 3 → u = reachProbeSlot
          { u with scan := s.scan, health := { u.health with plan := s.health.plan, cursor := s.health.cursor } }) ∧
        ((∀ c, c < Config.cellCount → isHole (cellAt u c) = isHole (cellAt s c)) → u.conceal = s.conceal) ∧
        ((∃ c, c < Config.cellCount ∧ isHole (cellAt u c) ≠ isHole (cellAt s c)) → Triggered s.conceal u) ∧
        u.scan = { s.scan with position := u.scan.position, slot := u.scan.slot } ∧
        u.health =
          { s.health with
            dies := u.health.dies, plan := u.health.plan, cursor := u.health.cursor, findings := u.health.findings } ∧
        u.map = { s.map with cells := u.map.cells } ∧ u.store = { s.store with dirty := u.store.dirty } ∧
        u.port = { s.port with queue := u.port.queue, marks := u.port.marks } ∧
        u.seam = { s.seam with items := { s.seam.items with reportHead := u.seam.items.reportHead } } ∧
        u.sup = s.sup ∧ u.rx = s.rx ∧ u.drive = s.drive ∧ u.gov = s.gov ∧ u.pending = s.pending

/-- OBSERVE_END of a void pass takes no observation and leaves the period findings; OBSERVE 0 to 2 are followed by the gap before the
next OBSERVE, OBSERVE 3 with the blank flag clear by the probe slot, and with it set by the gap before REFRESH 0, no die being asked
for; REFRESH_POSITION_END goes to the next REFRESH, round and round (R5, R7, R10, R40, R48). -/
def Obligations.VoidPassIsDiscarded : Prop :=
  (∀ (s : State) (p : Fin 4) (lit : Bool) (mP mS : Vector Measure Config.channelCount),
    s.scan.position = .run (.observe p) lit → s.scan.blank = true →
      exec (.observeEnd mP mS) s =
        .next { s with
          scan :=
            { s.scan with
              position := if p = 3 then .gap (.refresh 0) else .gap (.observe (p + 1))
              seenBlank := true } }) ∧
    (∀ (s : State) (p : Fin 4) (lit : Bool) (mP mS : Vector Measure Config.channelCount),
      s.scan.position = .run (.observe p) lit → s.scan.seenBlank = true →
        ∃ t, exec (.observeEnd mP mS) s = .next t ∧ t.health.dies = s.health.dies ∧ t.health.findings = s.health.findings ∧
          t.map = s.map ∧ t.store = s.store ∧ t.port = s.port ∧ t.seam = s.seam ∧ t.conceal = s.conceal ∧
          (p ≠ 3 → t = { s with scan := { s.scan with position := .gap (.observe (p + 1)), seenBlank := s.scan.blank } }) ∧
          (p = 3 → t = reachProbeSlot s)) ∧
    (∀ (s : State) (p : Fin 4) (lit : Bool), s.scan.position = .run (.refresh p) lit →
      exec .refreshPositionEnd s =
        .next { s with scan := { s.scan with position := .gap (.refresh (p + 1)), seenBlank := s.scan.blank } })

/-- OBSERVE_END of OBSERVE 3 with the blank flag clear reaches the probe slot (R9), on the state `v` that the pass leaves (SensePassIsTaken,
VoidPassIsDiscarded). The plan is at most four distinct dies: first what the request list supplies, oldest entry first and the primary
before the spare; then, for each place left, the first die from the sweep cursor on, wrapping round, that is not FAILED, not in the plan,
and not its cell's driven die or unobserved for 1,024 boundaries, the cursor moving behind it; a place stays unused only when no die
qualifies. The plan is the slot's dies (R9, R44, R45). -/
def Obligations.ProbePlanIsChosen : Prop :=
  ∀ (s : State) (lit : Bool) (mP mS : Vector Measure Config.channelCount),
    s.scan.position = .run (.observe 3) lit → s.scan.blank = false →
      ∃ v, exec (.observeEnd mP mS) s =
          .next (if s.scan.seenBlank then reachProbeSlot v else settle (reachProbeSlot v)) ∧
        v.scan = s.scan ∧ v.health.requests = s.health.requests ∧ v.health.cursor = s.health.cursor ∧
        (s.scan.seenBlank = true → v = s) ∧
        (let t := reachProbeSlot v
         let wanted := v.health.requests.flatMap
          (fun q => (if q.primaryDone then [] else [primaryDie q.cell]) ++ (if q.spareDone then [] else [spareDie q.cell]))
         let asked := wanted.take 4
         let plan := t.health.plan
         let qualifies := fun (i d : Nat) =>
          dieFailed v d = false ∧ d ∉ plan.take i ∧
            (drivenDie (cellOfDie d) (cellAt v (cellOfDie d)).state ≠ some d ∨ 1024 ≤ (dieAt v d).age)
         let cursorAt := fun i : Nat =>
          if i ≤ asked.length then v.health.cursor else (plan.getD (i - 1) 0 + 1) % Config.dieCount
         t.scan.slot = plan ∧ plan.length ≤ 4 ∧ plan.Nodup ∧
          (wanted.Nodup →
            asked <+: plan ∧
              (∀ i, asked.length ≤ i → i < plan.length →
                ∃ n, n < Config.dieCount ∧ plan.getD i 0 = (cursorAt i + n) % Config.dieCount ∧
                  qualifies i (plan.getD i 0) ∧ ∀ m, m < n → ¬qualifies i ((cursorAt i + m) % Config.dieCount)) ∧
              (plan.length < 4 → ∀ d, d < Config.dieCount → ¬qualifies plan.length d) ∧
              t.health.cursor = cursorAt plan.length) ∧
          t.scan.position = (if plan = [] then .gap (.refresh 0) else .gap (.probe 0)) ∧
          t = { v with
                scan := { v.scan with position := t.scan.position, slot := plan, seenBlank := false }
                health := { v.health with plan := plan, cursor := t.health.cursor } })

/-- PROBE_END of the die in hand goes on to the next die of the slot or to the refresh rounds. A die in the plan leaves it, its record
takes the observation, its request entry, in its place, takes its mark and leaves the list when both are set, and a die that became
FAILED hands its notice over, by which the cell is marked, reported and, when it is not forced, moved; for a die that is not in the
plan nothing else changes (R9, R39, R46, R47, R58, R59). With the blank flag set the rest of the slot is NOT_MADE (R10): that this event
may find the flag set is the model's deduction (log entry 25). In another position nothing changes (log entry 10). -/
def Obligations.ProbeResultIsTaken : Prop :=
  (∀ (s : State) (n d : Nat) (rest : List Nat) (lit : Bool) (m : Measure),
    s.scan.position = .run (.probe n) lit → s.scan.slot = d :: rest → s.scan.blank = false → d < Config.dieCount →
      ∃ u, exec (.probeEnd m) s = .next (settle u) ∧
        u.scan =
          { s.scan with
            slot := rest
            position := if rest = [] then .gap (.refresh 0) else .gap (.probe (n + 1))
            seenBlank := false } ∧
        (d ∉ s.health.plan → u = { s with scan := u.scan }) ∧
        (d ∈ s.health.plan →
          let c := cellOfDie d
          let mark := fun q : ProbeReq =>
            if q.cell ≠ c then q
            else if d % 2 = 1 then { q with spareDone := true } else { q with primaryDone := true }
          let done := fun q : ProbeReq => q.cell = c ∧ q.primaryDone = true ∧ q.spareDone = true
          (∀ x, dieAt u x = if x = d then observe true m (dieAt s d) else dieAt s x) ∧
            u.health.plan = s.health.plan.filter (fun x => x != d) ∧
            u.health.requests = (s.health.requests.map mark).filter (fun q => !decide (done q)) ∧
            (dieFailed s d = dieFailed u d → u.map = s.map ∧ Unchanged s u) ∧
            (dieFailed s d ≠ dieFailed u d →
              cellAt u c =
                  (if (cellAt s c).forced then cellAt s c
                    else
                      { cellAt s c with
                        state :=
                          match (cellAt s c).state with
                          | .primary =>
                            if dieFailed u (primaryDie c) then (if dieFailed u (spareDie c) then .hole else .spare)
                            else .primary
                          | .spare => if dieFailed u (spareDie c) then .hole else .spare
                          | .hole => .hole }) ∧
                Changed s u c
                  (if d % 2 = 1 ∧ (cellAt u c).state = .primary then .spareLost
                    else if (dieAt u d).health = .failedOpen then .autoOpen else .autoShort) ∧
                (∀ x, x ≠ c → cellAt u x = cellAt s x) ∧ u.map.factoryGain = s.map.factoryGain ∧
                (isHole (cellAt s c) = isHole (cellAt u c) → u.conceal = s.conceal) ∧
                (isHole (cellAt s c) ≠ isHole (cellAt u c) → Triggered s.conceal u)) ∧
            u.health =
              { s.health with dies := u.health.dies, plan := u.health.plan, requests := u.health.requests } ∧
            u.port = { s.port with queue := u.port.queue, marks := u.port.marks } ∧
            u.seam = { s.seam with items := { s.seam.items with reportHead := u.seam.items.reportHead } } ∧
            u.sup = s.sup ∧ u.rx = s.rx ∧ u.drive = s.drive ∧ u.gov = s.gov ∧ u.pending = s.pending)) ∧
    (∀ (s : State) (n : Nat) (lit : Bool) (m : Measure),
      s.scan.position = .run (.probe n) lit → s.scan.blank = true → s.scan.slot ≠ [] →
        exec (.probeEnd m) s =
          .next { s with
            health := { s.health with plan := s.health.plan.filter (fun d => decide (d ∉ s.scan.slot)) }
            scan := { s.scan with position := .gap (.refresh 0), seenBlank := true, slot := [] } }) ∧
    (∀ (s : State) (m : Measure), (∀ n lit, s.scan.position ≠ .run (.probe n) lit) → exec (.probeEnd m) s = .next s)

/-- A failure notice for a die: the automatic transitions decide an unforced cell, a forced cell keeps its record; the cell is
marked and its event posted, with SPARE_LOST for a spare whose cell stands in PRIMARY, else AUTO_OPEN or AUTO_SHORT by the die's
health (R58, R59, R60). -/
def Obligations.FailureNoticeMovesTheCell : Prop :=
  ∀ (s : State) (d : Nat), d < Config.dieCount →
    let c := cellOfDie d
    let t := takeNotice d s
    (∀ x, x ≠ c → cellAt t x = cellAt s x) ∧
      cellAt t c =
        (if (cellAt s c).forced then cellAt s c
          else
            { cellAt s c with
              state :=
                match (cellAt s c).state with
                | .primary =>
                  if dieFailed s (primaryDie c) then (if dieFailed s (spareDie c) then .hole else .spare) else .primary
                | .spare => if dieFailed s (spareDie c) then .hole else .spare
                | .hole => .hole }) ∧
      Changed s t c
        (if d % 2 = 1 ∧ (cellAt t c).state = .primary then .spareLost
          else if (dieAt s d).health = .failedOpen then .autoOpen else .autoShort) ∧
      t.health = s.health ∧ t.conceal = s.conceal

/-! ## Concealment (chapter 6) -/

/-- REBUILD_COMPLETE writes the shadow table from the snapshot and leaves the rebuild COMPLETE: a hole's entry is HOLE with the share
floor(K / W), 0 where no neighbour works; any other entry is LIT with the capped sum of what its neighbours ask of it; across an edge
only a VALID record of a PRESENT edge counts (R93 to R97). The neighbours of the cell at row r, column c and colour k are those of
R93, and its index is that of R1. -/
def Obligations.RebuildWritesTheTable : Prop :=
  (∀ (s : State) (n : Snapshot), s.conceal.rebuild = .running n →
    ∃ t, exec .rebuildComplete s = .next t ∧
      (let hole := fun c : Nat => tget n.holes c false = true
       let beyond := fun (e : Edge) (i : Nat) =>
        if (n.far.get e).present = true ∧ (n.far.get e).valid = true then some (tget (n.far.get e).entries i .working) else none
       let works := fun (c : Nat) (e : Edge) =>
        match neighbour c e with
        | .inside x => if hole x then 0 else 1
        | .across f i => if beyond f i = some .working then 1 else 0
       let count := fun c : Nat => works c .left + works c .right + works c .top + works c .bottom
       let share := fun c : Nat => if count c = 0 then 0 else n.k / count c
       let asked := fun (c : Nat) (e : Edge) =>
        match neighbour c e with
        | .inside x => if hole x then share x else 0
        | .across f i =>
          match beyond f i with
          | some (.hole sh) => sh
          | _ => 0
       ∀ c, c < Config.cellCount →
        tget t.conceal.shadow c (.lit 0) =
          if hole c then .hole (share c)
          else .lit (min 512 (asked c .left + asked c .right + asked c .top + asked c .bottom))) ∧
      t = { s with conceal := { s.conceal with shadow := t.conceal.shadow, rebuild := .complete } }) ∧
    (∀ row col colour : Nat, row < 32 → col < 32 → colour < 3 →
      let cell := fun r c => (r * 32 + c) * 3 + colour
      neighbour (cell row col) .left =
          (if col = 0 then .across .left (row * 3 + colour) else .inside (cell row (col - 1))) ∧
        neighbour (cell row col) .right =
          (if col = 31 then .across .right (row * 3 + colour) else .inside (cell row (col + 1))) ∧
        neighbour (cell row col) .top =
          (if row = 0 then .across .top (col * 3 + colour) else .inside (cell (row - 1) col)) ∧
        neighbour (cell row col) .bottom =
          (if row = 31 then .across .bottom (col * 3 + colour) else .inside (cell (row + 1) col)))

/-- EDGE_NOTICE heard and addressed to this tile, behind R132's test of its source: on a PRESENT receiving edge whose source station is
the frame's, the record becomes VALID at age 0 with the entries received, and a rebuild is triggered if it was INVALID or its entries
change; any other notice sets the mismatch flag, with the tile notice when the flag was clear; a body that cannot be read is discarded
(R105, R106, R132, R176). That the row is taken right behind FRAME_COMPLETE too, as another sender's frame, so that its own source
brings CLASH there, and in IDLE as in IN_FRAME, is the model's choice (log entry 11). -/
def Obligations.EdgeNoticeIsJudged : Prop :=
  ∀ (o : State) (source : Nat) (target : Byte) (body : List Byte), Heard o source target → bodyLengthOk kindEdge body.length = true →
    let s := ownTested source o
    ∃ u, exec (.edgeNotice source target body) o = .next (settle u) ∧
      match readEdgeBody body with
      | none => FrameEnded s u
      | some (sending, content) =>
        let e := sending.opposite
        let r := s.conceal.far.get e
        if r.present = true ∧ r.source = some source then
          u.conceal.far.get e = { r with valid := true, age := 0, entries := content } ∧
            (∀ f, f ≠ e → u.conceal.far.get f = s.conceal.far.get f) ∧
            (r.valid = false ∨ r.entries ≠ content → Triggered { s.conceal with far := u.conceal.far } u) ∧
            (r.valid = true → r.entries = content → u.conceal = { s.conceal with far := u.conceal.far }) ∧
            FrameEnded { s with conceal := u.conceal } u
        else
          u.conceal = { s.conceal with mismatch := true } ∧ (s.conceal.mismatch = true → FrameEnded s u) ∧
            (s.conceal.mismatch = false → NoticeRaised s u ∧
              u.seam.items = { s.seam.items with tileNotice := u.seam.items.tileNotice }) ∧
            FrameEnded { s with conceal := u.conceal, port := u.port, seam := { s.seam with items := u.seam.items } } u

/-! ## Load sharing (chapter 7) -/

/-- LOAD_FRAME heard and addressed to this tile, behind R132's test of its source: with a figure up to 3,071 from another tile's
station, and no STRAP_FAULT, it makes or renews that station's entry at age 0 in the ascending list and leaves the other entries; any
other LOAD, the own station's among them, is discarded (R115, R132, R176). That the row is taken right behind FRAME_COMPLETE too, as
another sender's frame, so that its own source brings CLASH there, and in IDLE as in IN_FRAME, is the model's choice (log entry 11). -/
def Obligations.LoadFrameEntersTheList : Prop :=
  ∀ (o : State) (source : Nat) (target : Byte) (body : List Byte), Heard o source target → body.length = 8 →
    o.gov.peers.Pairwise (fun p q => p.station < q.station) →
      let s := ownTested source o
      ∃ u, exec (.loadFrame source target body) o = .next (settle u) ∧
        (let figure := be16 (body.getD 1 0#8) (body.getD 2 0#8)
         (s.sup.findings.strapFault = true ∨ 16 ≤ source ∨ source = s.seam.own ∨ 3071 < figure → FrameEnded s u) ∧
          (s.sup.findings.strapFault = false → source < 16 → source ≠ s.seam.own → figure ≤ 3071 →
            (∀ p, p ∈ u.gov.peers ↔ p = ⟨source, figure, 0⟩ ∨ p ∈ s.gov.peers ∧ p.station ≠ source) ∧
              u.gov.peers.Pairwise (fun p q => p.station < q.station) ∧
              FrameEnded { s with gov := { s.gov with peers := u.gov.peers } } u))

/-! ## The seam bus (chapter 8) -/

/-- The line of a frame that a row carries, heard whole, is that row: an EDGE frame is EDGE_NOTICE, a LOAD frame LOAD_FRAME, and a
REQUEST frame the row of its kind with the operands of its body, laid out as 12.4.1 says (R124, R127, R176, 12.4; that a row stands
for the end of its frame is the model's choice of log entry 15). -/
def Obligations.FramesAreHeardAsTheirRows : Prop :=
  (∀ s : State, s.seam.buffer = [] → s.seam.count = 0 → s.seam.ownSent = false →
    (∀ (source : Nat) (target : Byte) (body : List Byte), source ≤ 30 → bodyLengthOk kindEdge body.length = true →
      ∃ t, exec (.seamFrameEnd (frameLine (frameBytes kindEdge source target.toNat body))) s = .next t ∧
        exec (.edgeNotice source target body) s = .next t) ∧
    (∀ (source : Nat) (target : Byte) (body : List Byte), source ≤ 30 → body.length = 8 →
      ∃ t, exec (.seamFrameEnd (frameLine (frameBytes kindLoad source target.toNat body))) s = .next t ∧
        exec (.loadFrame source target body) s = .next t) ∧
    (∀ (c : Instr) (source : Nat) (target : Byte) (r : Request), requestOf c = some (source, target, r) → source ≤ 30 →
      ∃ t, exec (.seamFrameEnd (frameLine (frameBytes kindRequest source target.toNat (requestBody r)))) s = .next t ∧
        exec c s = .next t)) ∧
    (∀ (source : Nat) (target : Byte) (f : CellField) (code clear mode k : Byte) (v : Half),
      let field := [f.form, f.b1, f.b2, f.b3]
      let two := [byteOf (v.toNat / 256), byteOf v.toNat]
      let carries := fun (c : Instr) (body : List Byte) => ∃ r, requestOf c = some (source, target, r) ∧ requestBody r = body
      carries (.status source target) [1#8] ∧ carries (.readCell source target f) (2#8 :: field) ∧
        carries (.listFaults source target v) (3#8 :: two) ∧
        carries (.force source target f code clear) (4#8 :: (field ++ [code, clear])) ∧
        carries (.release source target f) (5#8 :: field) ∧
        carries (.setGain source target f mode v) (6#8 :: (field ++ mode :: two)) ∧
        carries (.probe source target f) (7#8 :: field) ∧ carries (.setConceal source target k) [8#8, k] ∧
        carries (.setLimit source target v) (9#8 :: two) ∧ carries (.commit source target) [10#8] ∧
        carries (.restart source target) [11#8])

/-- SEAM_FRAME_END reads the line as bytes: a byte whose stop bit reads dominant breaks the frame, and the receiver waits for the
line to be idle. A frame that is not well-formed, or that the tile itself has sent, is discarded; so is a frame for another station,
and a REPLY or REPORT, which no block takes; a receiver that hears nothing is not touched (R124, R125, R127, R131). The body lengths
a kind may have are those of 12.4, and no kind but EDGE, LOAD, REPLY, REQUEST and REPORT has any. That the end behind FRAME_COMPLETE
is the own frame's is the model's choice (log entry 11). Where the event cannot arise, nothing changes (the model's choice, log
entry 10). -/
def Obligations.BadFramesAreDiscarded : Prop :=
  (∀ (s : State) (line : List LineRun), hearing s = true →
    s.seam.ownSent = true ∨ (∃ bytes, readLine line = some bytes ∧ heardFrame s bytes = none) →
      ∃ t, exec (.seamFrameEnd line) s = .next t ∧ FrameEnded s t) ∧
    (∀ (s : State) (line : List LineRun), hearing s = true → s.seam.ownSent = false → readLine line = none →
      exec (.seamFrameEnd line) s =
        .next { s with seam := { s.seam with recv := .waitIdle, buffer := [], count := 0, ownSent := false } }) ∧
    (∀ (s : State) (line : List LineRun) (bytes : List Byte) (f : HeardFrame), hearing s = true → s.seam.ownSent = false →
      readLine line = some bytes → heardFrame s bytes = some f → f.source ≠ s.seam.own →
        (f.target.toNat ≠ s.seam.own ∧ f.target.toNat ≠ 31) ∨ f.kind = 3 ∨ f.kind = 5 →
          ∃ u, exec (.seamFrameEnd line) s = .next (settle u) ∧ FrameEnded s u) ∧
    (∀ (s : State) (line : List LineRun), hearing s = false → exec (.seamFrameEnd line) s = .next s) ∧
    (∀ (s : State) (bytes : List Byte), s.seam.buffer = [] → s.seam.count = 0 →
      heardFrame s bytes = judgeFrame (bytes.take 125) bytes.length) ∧
    (∀ (arb target len : Byte) (rest : List Byte) (count : Nat),
      judgeFrame (arb :: target :: len :: rest) count =
        if arb.toNat / 32 ≠ 0 ∧ arb.toNat / 32 ≤ 5 ∧ arb.toNat % 32 ≠ 31 ∧ bodyLengthOk (arb.toNat / 32) len.toNat = true ∧
            count = len.toNat + 5 ∧ rest.length = len.toNat + 2 ∧
            be16 (rest.getD len.toNat 0#8) (rest.getD (len.toNat + 1) 0#8) =
              crc (arb :: target :: len :: rest.take len.toNat) then
          some ⟨arb.toNat / 32, arb.toNat % 32, target, rest.take len.toNat⟩
        else none) ∧
    (∀ kind n : Nat,
      bodyLengthOk kind n = true ↔
        (kind = 1 ∧ 13 ≤ n ∧ n ≤ 109) ∨ (kind = 2 ∧ n = 8) ∨ (kind = 3 ∧ 4 ≤ n ∧ n ≤ 88) ∨
          (kind = 4 ∧ n ∈ [1, 2, 3, 5, 7, 8]) ∨ (kind = 5 ∧ (n = 7 ∨ 40 ≤ n ∧ n ≤ 85)))

/-- A well-formed frame with the tile's own station as its source, whatever its kind and target, brings CLASH: the attempt ends, both
banks become EMPTY, no item is lost and a carried peak goes back; a frame for this tile or for all is still handed to its owner, where
a LOAD is discarded for its source; in CLASH nothing more is composed, and a further such frame changes nothing further (R115, R132,
R114). What the owners of an EDGE and of a request do with it is stated with their rows (EdgeNoticeIsJudged and the statements of
requests, behind the same test). -/
def Obligations.OwnSourceBringsClash : Prop :=
  ∀ (s : State) (line : List LineRun) (bytes : List Byte) (f : HeardFrame), hearing s = true → s.seam.ownSent = false →
    readLine line = some bytes → heardFrame s bytes = some f → f.source = s.seam.own →
      ∃ v u, exec (.seamFrameEnd line) s = .next (settle u) ∧ (settle u).seam = u.seam ∧
        (s.seam.clash = true → FrameEnded s v) ∧
        (s.seam.clash = false →
          v =
            { s with
              drive :=
                { s.drive with
                  peak := if isComposed s .load then max s.drive.peak (s.gov.carried.getD 0) else s.drive.peak }
              gov := { s.gov with carried := if isComposed s .load then none else s.gov.carried }
              seam :=
                { s.seam with
                  recv := .idle
                  buffer := []
                  count := 0
                  ownSent := false
                  clash := true
                  tx := .quiet
                  lineBank := none
                  nextBank := none } }) ∧
        (f.target.toNat ≠ s.seam.own ∧ f.target.toNat ≠ 31 ∨ f.kind = 2 ∨ f.kind = 3 ∨ f.kind = 5 → u = v) ∧
        (f.target.toNat = s.seam.own ∨ f.target.toNat = 31 → u = handOver f v) ∧
        (∀ it, s.seam.items.has it = true → u.seam.items.has it = true) ∧
        u.seam = { v.seam with items := u.seam.items }

/-- The line and its receiver. A byte is ten bit times, a dominant start bit, its bits with the most significant first and a recessive
stop bit; a frame's bytes follow each other, 20 µs each. The tile drives a dominant bit time for each 0 of its attempt and nothing else,
never more than nine in a row; the line is dominant when any station drives it; a frame is read back as its bytes, and a dominant pulse
under 1 µs is read as recessive (R124). LINE_IDLE ends WAIT_IDLE after 24 µs of a recessive line, FRAMING_ERROR brings it back, and
CONTENTION_START, a falling edge of 1 µs or more in IDLE, begins a frame and joins when the line bank holds one and CLASH is clear
(R124, R125, R128). That FRAMING_ERROR is taken in IDLE too, and CONTENTION_START behind the tile's own frame, is the model's choice
(log entry 11). Where the event cannot arise, nothing changes (the model's choice, log entry 10). -/
def Obligations.LineIsFollowed : Prop :=
  (∀ (s : State) (us : Nat),
    exec (.lineIdle us) s =
      .next (if s.seam.recv = .waitIdle ∧ 24 ≤ us then { s with seam := { s.seam with recv := .idle } } else s)) ∧
    (∀ s : State,
      exec .framingError s =
        .next (if s.seam.recv = .idle ∨ s.seam.recv = .inFrame then
            { s with seam := { s.seam with recv := .waitIdle, buffer := [], count := 0, ownSent := false } }
          else s)) ∧
    (∀ (s : State) (ns : Nat), 1000 ≤ ns → s.seam.recv = .idle ∨ (s.seam.recv = .inFrame ∧ s.seam.ownSent = true) →
      exec (.contentionStart ns) s =
        .next { s with
          seam :=
            { s.seam with
              recv := .inFrame
              buffer := []
              count := 0
              ownSent := false
              tx := if s.seam.lineBank ≠ none ∧ s.seam.clash = false then .contending else s.seam.tx } }) ∧
    (∀ (s : State) (ns : Nat),
      ns < 1000 ∨ s.seam.recv = .off ∨ s.seam.recv = .waitIdle ∨ (s.seam.recv = .inFrame ∧ s.seam.ownSent = false) →
        exec (.contentionStart ns) s = .next s) ∧
    (∀ b : Byte, (byteLevels b).length = 10 ∧ (byteLevels b).getD 0 .recessive = .dominant ∧
      (byteLevels b).getD 9 .dominant = .recessive ∧
      (∀ i, i < 8 → ((byteLevels b).getD (i + 1) .recessive = .dominant ↔ b.getLsbD (7 - i) = false))) ∧
    (∀ bytes : List Byte, readLine (frameLine bytes) = some bytes ∧
      ((frameLine bytes).map (fun r => r.ns)).sum = 20000 * bytes.length) ∧
    (∀ (s : State) (k : Nat),
      (s.seam.tx = .quiet ∨ s.seam.lineBank = none → drivenLevel s k = .recessive) ∧
        (∀ c, s.seam.tx ≠ .quiet → s.seam.lineBank = some c →
          drivenLevel s k = (c.bytes.flatMap byteLevels).getD k .recessive) ∧
        (∃ j, j ≤ 9 ∧ drivenLevel s (k + j) = .recessive)) ∧
    (∀ sent : List Level, wiredLevel sent = .dominant ↔ .dominant ∈ sent) ∧
    (∀ (before after : List LineRun) (x n y : Nat), 0 < x → 0 < y →
      let through := fun level : Level => filteredLine (before ++ ⟨.recessive, x⟩ :: ⟨level, n⟩ :: ⟨.recessive, y⟩ :: after)
      (n < 1000 → through .dominant = through .recessive) ∧ (1000 ≤ n → ⟨.dominant, n⟩ ∈ through .dominant))

/-- ARBITRATION_WON turns CONTENDING to SENDING. ARBITRATION_LOSS in CONTENDING ends the attempt, the mismatch count unchanged;
READBACK_ABORT ends an attempt with the count one higher. Each recomposes the line bank's frame from its item's current content, a
LOAD from the peak given back; at a third mismatch in a row the tile enters CLASH instead (R129, R130, R132, R136, R114).
Where the event cannot arise, nothing changes (the model's choice, log entry 10). -/
def Obligations.AttemptsEnd : Prop :=
  (∀ s : State,
    exec .arbitrationWon s =
      .next (if s.seam.tx = .contending then { s with seam := { s.seam with tx := .sending } } else s)) ∧
    (∀ s : State, s.seam.tx ≠ .contending → exec .arbitrationLoss s = .next s) ∧
    (∀ s : State, s.seam.tx = .quiet → exec .readbackAbort s = .next s) ∧
    (∀ (s : State) (c : Instr) (b : Composed) (m : Nat),
      ((c = .arbitrationLoss ∧ s.seam.tx = .contending ∧ m = s.seam.mismatches) ∨
        (c = .readbackAbort ∧ s.seam.tx ≠ .quiet ∧ s.seam.mismatches < 2 ∧ m = s.seam.mismatches + 1)) →
      s.seam.lineBank = some b → (b.item = .load → s.gov.carried ≠ none) →
        ∃ t, exec c s = .next t ∧
          t.seam = { s.seam with tx := .quiet, mismatches := m, lineBank := t.seam.lineBank } ∧
          (b.item ≠ .load → t.seam.lineBank = some (frameOf s b.item) ∧ t.drive = s.drive ∧ t.gov = s.gov) ∧
          (b.item = .load →
            let p := max s.drive.peak (s.gov.carried.getD 0)
            t.drive = { s.drive with peak := 0 } ∧ t.gov = { s.gov with carried := some p } ∧
              t.seam.lineBank =
                some ⟨.load, none,
                  frameBytes 2 s.seam.own 31
                    (byteOf s.seam.own ::
                      (bytes16 p ++ bytes16 s.gov.factor ++ bytes16 (countState s .hole) ++ [flagByte s.gov.overFlag]))⟩) ∧
          t = { s with seam := t.seam, drive := t.drive, gov := t.gov, port := t.port } ∧
          t.port =
            { s.port with
              long := if b.item = .longReply then s.port.long.map (fixReply s) else s.port.long
              immediate := if b.item = .immediateReply then s.port.immediate.map (fixReply s) else s.port.immediate
              reraise := s.port.reraise && decide (b.item ≠ .tileNotice)
              queue := if b.item = .reportHead then clearUpdated s.port.queue else s.port.queue }) ∧
    (∀ s : State, s.seam.tx ≠ .quiet → s.seam.mismatches = 2 → s.seam.clash = false →
      s.gov.carried.isSome = isComposed s .load →
        exec .readbackAbort s =
          .next { s with
            drive := { s.drive with peak := max s.drive.peak (s.gov.carried.getD 0) }
            gov := { s.gov with carried := none }
            seam := { s.seam with mismatches := 3, clash := true, tx := .quiet, lineBank := none, nextBank := none } })

/-- FRAME_COMPLETE in SENDING clears the mismatch count, removes the item, moves the next bank's frame up, and its owner acts: an
EDGE's content becomes the last-sent content, with the notice pending again if the content has changed; a LOAD's carried peak is
dropped; a reply's slot becomes empty (R131, R102, R114, R156). Where the event cannot arise, nothing changes (the model's
choice, log entry 10). -/
def Obligations.CompletedFrameLeavesItsBank : Prop :=
  (∀ (s : State) (pins : Pins) (b : Composed), s.seam.tx = .sending → s.seam.lineBank = some b →
    (b.item = .longReply → ∀ source, s.port.request ≠ some ⟨.restart, source, .replying⟩) →
      ∃ u, exec (.frameComplete pins) s = .next (fillBanks u) ∧
        u.seam =
          { s.seam with
            mismatches := 0
            tx := .quiet
            lineBank := s.seam.nextBank
            nextBank := none
            ownSent := true
            items := u.seam.items } ∧
        (∀ it, it ≠ b.item → u.seam.items.has it = s.seam.items.has it) ∧
        (∀ e, b.item = .edge e →
          u.conceal = { s.conceal with lastSent := s.conceal.lastSent.put e b.content } ∧
            u.seam.items.has b.item = decide (b.content ≠ some (edgeContent s e)) ∧
            u = { s with conceal := u.conceal, seam := u.seam }) ∧
        (b.item = .load →
          u.seam.items.load = false ∧ u = { s with gov := { s.gov with carried := none }, seam := u.seam }) ∧
        (b.item = .longReply →
          u.seam.items.longReply = false ∧ u = { s with port := { s.port with long := none }, seam := u.seam }) ∧
        (b.item = .immediateReply →
          u.seam.items.immediateReply = false ∧ u = { s with port := { s.port with immediate := none }, seam := u.seam })) ∧
    (∀ (s : State) (pins : Pins), s.seam.tx ≠ .sending → exec (.frameComplete pins) s = .next s)

/-- FRAME_COMPLETE of a REPORT. A tile notice that was re-raised stays pending and any other ends; a report head with its updated
mark stays at the head and pending again, the mark cleared; any other head leaves, and the first marked cell from the refill cursor
on takes the freed place at the tail with its content as it stands and the cause REFILL, its mark cleared and the cursor moved past
it (R164, R165, R131). -/
def Obligations.CompletedReportLeavesTheQueue : Prop :=
  ∀ (s : State) (pins : Pins) (b : Composed), s.seam.tx = .sending → s.seam.lineBank = some b →
    (b.item = .tileNotice →
      ∃ u, exec (.frameComplete pins) s = .next (fillBanks u) ∧
        u.port = { s.port with notice := s.port.notice && s.port.reraise, reraise := false } ∧
        u.seam.items.tileNotice = s.port.reraise ∧ u = { s with port := u.port, seam := u.seam }) ∧
    (∀ (r : Report) (rest : List Report), b.item = .reportHead → s.port.queue = r :: rest →
      ∃ u, exec (.frameComplete pins) s = .next (fillBanks u) ∧ u = { s with port := u.port, seam := u.seam } ∧
        (r.updated = true →
          u.port = { s.port with queue := { r with updated := false } :: rest } ∧ u.seam.items.reportHead = true) ∧
        (r.updated = false → (∀ c, c < Config.cellCount → tget s.port.marks c false = false) →
          u.port = { s.port with queue := rest } ∧ u.seam.items.reportHead = !rest.isEmpty) ∧
        (∀ c n, r.updated = false → n < Config.cellCount → c = (s.port.refillCursor + n) % Config.cellCount →
          tget s.port.marks c false = true →
          (∀ m, m < n → tget s.port.marks ((s.port.refillCursor + m) % Config.cellCount) false = false) →
            u.port =
              { s.port with
                queue :=
                  rest ++
                    [⟨c, (cellAt s c).state, (dieAt s (primaryDie c)).health, (dieAt s (spareDie c)).health, .refill, false⟩]
                marks := tset s.port.marks c false
                refillCursor := (c + 1) % Config.cellCount } ∧
              u.seam.items.reportHead = true))

/-- BREAK of 1,000 µs or more, in any receive state but OFF: the receiver waits for idle with an empty buffer, the attempt ends, CLASH
and the mismatch count clear, the peer list empties, VALID records become INVALID with one trigger for all, and in RUNNING every
present edge and, without STRAP_FAULT, the LOAD become pending; a frame in an attempt is recomposed into its bank from the content then
current, a LOAD from the peak given back, and with no attempt the banks, the peak and the port stay (R126, R108, R112, R114, R116, R136).
That a tile notice recomposed in the break's event carries the peer list and the far-edge records as the break leaves them is the model's
choice (log entry 31). Where the event cannot arise, nothing changes (the model's choice, log entry 10). -/
def Obligations.BreakForgetsTheNeighbours : Prop :=
  (∀ (s : State) (us : Nat), 1000 ≤ us → s.seam.recv ≠ .off →
    ∃ u, exec (.breakSeen us) s = .next (fillBanks u) ∧
      u.seam =
        { s.seam with
          recv := .waitIdle
          buffer := []
          count := 0
          ownSent := false
          tx := .quiet
          clash := false
          mismatches := 0
          items := u.seam.items
          lineBank := u.seam.lineBank } ∧
      (∀ e, u.seam.items.edges.get e =
        (s.seam.items.edges.get e || (decide (s.sup.state = .running) && (s.conceal.far.get e).present))) ∧
      u.seam.items =
        { s.seam.items with
          edges := u.seam.items.edges
          load := s.seam.items.load || (decide (s.sup.state = .running) && !s.sup.findings.strapFault) } ∧
      (∀ e, u.conceal.far.get e = { s.conceal.far.get e with valid := false }) ∧
      ((∃ e, (s.conceal.far.get e).valid = true) → Triggered { s.conceal with far := u.conceal.far } u) ∧
      ((∀ e, (s.conceal.far.get e).valid = false) → u.conceal = s.conceal) ∧
      (s.seam.tx = .quiet ∨ s.seam.lineBank = none →
        u.seam.lineBank = s.seam.lineBank ∧
          u = { s with seam := u.seam, conceal := u.conceal, gov := { s.gov with peers := [] } }) ∧
      (∀ b, s.seam.tx ≠ .quiet → s.seam.lineBank = some b →
        (b.item ≠ .load →
          u.seam.lineBank = some (frameOf { s with gov := u.gov, conceal := u.conceal } b.item) ∧ u.drive = s.drive ∧
            u.gov = { s.gov with peers := [] }) ∧
          (b.item = .load →
            let p := max s.drive.peak (s.gov.carried.getD 0)
            u.drive = { s.drive with peak := 0 } ∧ u.gov = { s.gov with peers := [], carried := some p } ∧
              u.seam.lineBank =
                some ⟨.load, none,
                  frameBytes 2 s.seam.own 31
                    (byteOf s.seam.own ::
                      (bytes16 p ++ bytes16 s.gov.factor ++ bytes16 (countState s .hole) ++ [flagByte s.gov.overFlag]))⟩) ∧
          u.port =
            { s.port with
              long := if b.item = .longReply then u.port.long else s.port.long
              immediate := if b.item = .immediateReply then u.port.immediate else s.port.immediate
              reraise := s.port.reraise && decide (b.item ≠ .tileNotice)
              queue := if b.item = .reportHead then clearUpdated s.port.queue else s.port.queue } ∧
          (∀ r, s.port.long = some r → r.fixed ≠ none → u.port.long = some r) ∧
          (∀ r, s.port.immediate = some r → r.fixed ≠ none → u.port.immediate = some r)) ∧
      u.sup = s.sup ∧ u.rx = s.rx ∧ u.scan = s.scan ∧ u.health = s.health ∧ u.map = s.map ∧ u.store = s.store ∧
      u.pending = s.pending) ∧
    (∀ (s : State) (us : Nat), us < 1000 ∨ s.seam.recv = .off → exec (.breakSeen us) s = .next s)

/-- The banks at the end of an event: with CLASH clear, the first item of R134's order that is waiting and may be composed in the
tile's state is composed, into the line bank when both banks are EMPTY, with the next such item in the next bank, and into the next
bank when only it is EMPTY; the frame carries the item's content at that moment, with the kind, target and body of R127, R135 and
12.4. In CLASH, with both banks full, in RESET, LOADING and CHAIN_CHECK, or when no pending item is both waiting and one that the
tile's state lets be composed, nothing changes: such items stay pending and wait (R133); and filling changes no other state than the
banks, what a LOAD takes of the peak, and the marks and contents fixed at composition: a tile notice newly composed clears the
re-raise mark, a report head its updated mark, and a reply's bytes are fixed (R113, R132 to R135, R156, R164, R165). That a reply
composed before, and returned to waiting by CLASH, keeps its first bytes is the model's choice (log entry 28). -/
def Obligations.BanksAreFilledInOrder : Prop :=
  (∀ (s : State) (before after : List Item) (it : Item),
    [Item.edge .left, .edge .right, .edge .top, .edge .bottom, .load, .longReply, .immediateReply, .tileNotice, .reportHead] =
      before ++ it :: after →
    s.seam.clash = false → s.seam.lineBank = none → s.seam.nextBank = none →
    (s.sup.state = .running ∨ s.sup.state = .readyWait ∧ (it = .longReply ∨ it = .immediateReply)) →
    s.seam.items.has it = true →
    (∀ x ∈ before,
      s.seam.items.has x = false ∨ s.sup.state = .readyWait ∧ x ≠ .longReply ∧ x ≠ .immediateReply) →
      (fillBanks s).seam.lineBank = some (frameOf s it) ∧
        (∀ (between rest : List Item) (second : Item), after = between ++ second :: rest →
          s.seam.items.has second = true →
          (s.sup.state = .running ∨ s.sup.state = .readyWait ∧ (second = .longReply ∨ second = .immediateReply)) →
          (∀ x ∈ between,
            s.seam.items.has x = false ∨ s.sup.state = .readyWait ∧ x ≠ .longReply ∧ x ≠ .immediateReply) →
            (fillBanks s).seam.nextBank = some (frameOf s second)) ∧
        ((∀ x ∈ after,
            s.seam.items.has x = false ∨ s.sup.state = .readyWait ∧ x ≠ .longReply ∧ x ≠ .immediateReply) →
          (fillBanks s).seam.nextBank = none)) ∧
    (∀ (s : State) (before after : List Item) (it : Item) (b : Composed),
      [Item.edge .left, .edge .right, .edge .top, .edge .bottom, .load, .longReply, .immediateReply, .tileNotice, .reportHead] =
        before ++ it :: after →
      s.seam.clash = false → s.seam.lineBank = some b → s.seam.nextBank = none →
      (s.sup.state = .running ∨ s.sup.state = .readyWait ∧ (it = .longReply ∨ it = .immediateReply)) →
      s.seam.items.has it = true → it ≠ b.item →
      (∀ x ∈ before,
        x = b.item ∨ s.seam.items.has x = false ∨ s.sup.state = .readyWait ∧ x ≠ .longReply ∧ x ≠ .immediateReply) →
        (fillBanks s).seam.lineBank = some b ∧ (fillBanks s).seam.nextBank = some (frameOf s it)) ∧
    (∀ s : State,
      s.seam.clash = true ∨ (s.seam.lineBank ≠ none ∧ s.seam.nextBank ≠ none) ∨ (∀ it, s.seam.items.has it = false) ∨
          s.sup.state = .reset ∨ s.sup.state = .loading ∨ s.sup.state = .chainCheck ∨
          (∀ it, s.seam.items.has it = true →
            (∃ b, (s.seam.lineBank = some b ∨ s.seam.nextBank = some b) ∧ b.item = it) ∨
              (s.sup.state ≠ .running ∧ ¬(s.sup.state = .readyWait ∧ (it = .longReply ∨ it = .immediateReply)))) →
        fillBanks s = s) ∧
    (∀ s : State,
      let t := fillBanks s
      t.seam = { s.seam with lineBank := t.seam.lineBank, nextBank := t.seam.nextBank } ∧
        t.drive = { s.drive with peak := t.drive.peak } ∧ t.gov = { s.gov with carried := t.gov.carried } ∧
        (isComposed t .load = isComposed s .load → t.drive = s.drive ∧ t.gov = s.gov) ∧
        (isComposed t .load = true → isComposed s .load = false →
          t.drive.peak = 0 ∧ t.gov.carried = some s.drive.peak) ∧
        t.port.request = s.port.request ∧ t.port.marks = s.port.marks ∧ t.port.refillCursor = s.port.refillCursor ∧
        t.port.notice = s.port.notice ∧ t.port.long.isSome = s.port.long.isSome ∧
        t.port.immediate.isSome = s.port.immediate.isSome ∧
        t.port.queue.map (fun r => { r with updated := false }) = s.port.queue.map (fun r => { r with updated := false }) ∧
        t = { s with seam := t.seam, drive := t.drive, gov := t.gov, port := t.port }) ∧
    (∀ (kind source target : Nat) (body : List Byte),
      let covered := byteOf (kind * 32 + source) :: byteOf target :: byteOf body.length :: body
      frameBytes kind source target body = covered ++ [byteOf (crc covered / 256), byteOf (crc covered)]) ∧
    (∀ (s : State) (e : Edge),
      let content := edgeContent s e
      let map := (List.range 12).map (fun j => ((edgeBody e content).getD (j + 1) 0#8))
      frameOf s (.edge e) =
          ⟨.edge e, some content, frameBytes 1 s.seam.own ((s.conceal.far.get e).source.getD 31) (edgeBody e content)⟩ ∧
        edgeBody e content =
          byteOf e.code ::
            (map ++ content.toList.filterMap (fun x => match x with
              | .working => none
              | .hole sh => some (byteOf sh))) ∧
        (∀ i, i < 96 → ((map.getD (i / 8) 0#8).getLsbD (7 - i % 8) = true ↔ tget content i .working ≠ .working))) ∧
    (∀ s : State,
      let t := fillBanks s
      let newly := fun it : Item => isComposed t it && !isComposed s it
      let fixed := fun (b : Bool) (r : Reply) => if b then { r with fixed := some (replyBytes s r) } else r
      t.port =
        { s.port with
          reraise := s.port.reraise && !newly .tileNotice
          queue :=
            match s.port.queue with
            | [] => []
            | r :: rest => { r with updated := r.updated && !newly .reportHead } :: rest
          long := s.port.long.map (fixed (newly .longReply))
          immediate := s.port.immediate.map (fixed (newly .immediateReply)) }) ∧
    (∀ s : State,
      let holes := s.map.cells.toList.countP (fun r => decide (r.state = .hole))
      frameOf s .load =
        ⟨.load, none,
          frameBytes 2 s.seam.own 31
            [byteOf s.seam.own, byteOf (s.drive.peak / 256), byteOf s.drive.peak, byteOf (s.gov.factor / 256),
              byteOf s.gov.factor, byteOf (holes / 256), byteOf holes, if s.gov.overFlag then 1#8 else 0#8]⟩) ∧
    (∀ s : State, frameOf s .tileNotice = ⟨.tileNotice, none, frameBytes 5 s.seam.own 31 (1#8 :: statusRecord s)⟩) ∧
    (∀ (s : State) (r : Report) (rest : List Report), s.port.queue = r :: rest →
      frameOf s .reportHead =
        ⟨.reportHead, none,
          frameBytes 5 s.seam.own 31
            [0#8, byteOf (r.cell / 256), byteOf r.cell, byteOf r.state.code, byteOf r.primary.code, byteOf r.spare.code,
              byteOf r.cause.code]⟩) ∧
    (∀ (s : State) (r : Reply),
      let head := [r.kind, byteOf r.result.code, byteOf (r.residual / 256), byteOf r.residual]
      (s.port.long = some r → frameOf s .longReply = ⟨.longReply, none, frameBytes 3 s.seam.own r.station (replyBytes s r)⟩) ∧
        (s.port.immediate = some r →
          frameOf s .immediateReply = ⟨.immediateReply, none, frameBytes 3 s.seam.own r.station (replyBytes s r)⟩) ∧
        (r.fixed = none →
          replyBytes s r =
            head ++
              (match r.body with
                | .empty => []
                | .status => statusRecord s
                | .cell c => cellRecordBytes s c
                | .faults start =>
                  byteOf (faultList s start).length ::
                    ((faultList s start).flatMap bytes16 ++ bytes16 ((faultContinuation (faultList s start)).getD 65535))
                | .value8 v => [byteOf v]
                | .value16 v => bytes16 v)))

/-! ## Requests (chapters 4, 7, 10) -/

/-- The three queries, heard behind R132's test of their source, are answered and do nothing else: STATUS in every state in which
the tile hears, to its own station or to all; READ CELL in RUNNING also while a long request is in execution; LIST FAULTS in RUNNING
with none (R155, R157, R158). That a request row is heard right behind FRAME_COMPLETE too, as another sender's frame, is the model's
choice (log entry 11). -/
def Obligations.QueriesAreAnswered : Prop :=
  (∀ (o : State) (source : Nat) (target : Byte), Heard o source target → o.port.immediate = none →
    ∃ u, exec (.status source target) o = .next (settle u) ∧ OnlyReplied (ownTested source o) u source 1#8 .done .status) ∧
    (∀ (o : State) (source : Nat) (target : Byte) (f : CellField) (c : Nat), Heard o source target → o.port.immediate = none →
      o.sup.state = .running → target.toNat ≠ 31 → cellOf f = some c →
        ∃ u, exec (.readCell source target f) o = .next (settle u) ∧
          OnlyReplied (ownTested source o) u source 2#8 .done (.cell c)) ∧
    (∀ (o : State) (source : Nat) (target : Byte) (n : Half), Taken o source target → n.toNat < Config.cellCount →
      ∃ u, exec (.listFaults source target n) o = .next (settle u) ∧
        OnlyReplied (ownTested source o) u source 3#8 .done (.faults n.toNat))

/-- What the records hold: the status record is 39 bytes and three for each peer entry, in the order of the list, the cell record 25
bytes, with the fields at their offsets (R157, R158, 12.4.2), and each field given as a code carries the code of 12.1. That a reply,
once composed, keeps its bytes through every recomposition is the model's deduction from R136 and R156 (log entry 16), and that it
keeps them when CLASH has returned it to waiting the model's choice (log entry 28); that bits 6 and 7 of the findings byte, which
the layout does not name, are 0 is its choice too (log entry 30). -/
def Obligations.RecordsHoldTheirFields : Prop :=
  (∀ s : State,
    let b := fun i => ((statusRecord s).getD i 0#8).toNat
    let w := fun i => be16 ((statusRecord s).getD i 0#8) ((statusRecord s).getD (i + 1) 0#8)
    let finding := fun i => ((statusRecord s).getD 3 0#8).getLsbD i
    (statusRecord s).length = 39 + 3 * s.gov.peers.length ∧ b 0 = s.seam.own % 256 ∧ b 1 = s.sup.state.code ∧
      b 2 = s.sup.cause.code ∧
      (finding 0 = s.sup.findings.strapFault ∧ finding 1 = s.sup.findings.factoryFault ∧
        finding 2 = s.sup.findings.settingsDefaulted ∧ finding 3 = decide (0 < s.sup.findings.tornSlots) ∧
        finding 4 = s.sup.findings.chainFault ∧ finding 5 = s.sup.findings.readyTimeout ∧ finding 6 = false ∧
        finding 7 = false) ∧
      w 4 = s.sup.findings.tornSlots % 65536 ∧
        b 6 = s.sup.supply.code ∧ b 7 = s.rx.link.code ∧
      b 8 = (if s.scan.blank then 1 else 0) ∧ w 9 = countState s .spare ∧ w 11 = countState s .hole ∧ w 13 = countForced s ∧
      w 15 = countSuspect s ∧ b 17 = s.health.anomalyRun % 256 ∧ w 18 = s.drive.clip % 65536 ∧
      w 20 = s.drive.load % 65536 ∧ w 22 = s.gov.factor % 65536 ∧ w 24 = s.gov.estimate % 65536 ∧
      b 26 = (if s.gov.overFlag then 1 else 0) ∧ w 27 = s.gov.limit % 65536 ∧ b 29 = s.conceal.k % 256 ∧
      b 30 =
        farCode s.conceal.far.left * 64 + farCode s.conceal.far.right * 16 + farCode s.conceal.far.top * 4 +
          farCode s.conceal.far.bottom ∧
      b 31 = (if s.conceal.mismatch then 1 else 0) ∧ b 32 = s.store.state.code ∧ w 33 = dirtyCount s ∧
      b 35 = s.port.queue.length % 256 ∧ w 36 = countMarks s ∧ b 38 = s.gov.peers.length % 256 ∧
      (∀ (i : Nat) (p : Peer), s.gov.peers[i]? = some p →
        b (39 + 3 * i) = p.station % 256 ∧ w (40 + 3 * i) = p.load % 65536)) ∧
    (∀ (s : State) (c : Nat), c < Config.cellCount →
      let b := fun i => ((cellRecordBytes s c).getD i 0#8).toNat
      let w := fun i => be16 ((cellRecordBytes s c).getD i 0#8) ((cellRecordBytes s c).getD (i + 1) 0#8)
      (cellRecordBytes s c).length = 25 ∧ w 0 = c ∧ b 2 = (cellAt s c).state.code ∧
        b 3 = (if (cellAt s c).forced then 1 else 0) ∧ w 4 = (cellAt s c).gain.getD 0 % 65536 ∧
        w 6 = (cellAt s c).gain.getD (factoryGainAt s c) % 65536 ∧ b 8 = (if (cellAt s c).gain.isSome then 1 else 0) ∧
        b 9 = (dieAt s (primaryDie c)).health.code ∧ b 10 = (dieAt s (primaryDie c)).strike % 256 ∧
        w 11 = (dieAt s (primaryDie c)).age % 65536 ∧ b 13 = (dieAt s (primaryDie c)).lastProbe.code ∧
        b 14 = (dieAt s (spareDie c)).health.code ∧ b 15 = (dieAt s (spareDie c)).strike % 256 ∧
        w 16 = (dieAt s (spareDie c)).age % 65536 ∧ b 18 = (dieAt s (spareDie c)).lastProbe.code ∧
        (b 19, w 20) =
          (match activeEntry s c with
            | .lit n => (0, n % 65536)
            | .hole sh => (1, sh % 65536)) ∧
        b 22 = (if tget s.store.dirty c false then 1 else 0) ∧ b 23 = (if tget s.port.marks c false then 1 else 0) ∧
        b 24 = (if ∃ r ∈ s.port.queue, r.cell = c then 1 else 0)) ∧
    (∀ (s : State) (r : Reply) (body : List Byte), r.fixed = some body → replyBytes s r = body) ∧
    (∀ (s t : State) (r : Reply), replyBytes t (fixReply s r) = replyBytes s r) ∧
    ([CellState.primary, .spare, .hole].map CellState.code = [0, 1, 2] ∧
      [Health.good, .suspect, .failedOpen, .failedShort].map Health.code = [0, 1, 2, 3] ∧
      [ProbeOutcome.none, .ok, .openPath, .shortPath].map ProbeOutcome.code = [0, 1, 2, 3] ∧
      [LinkState.search, .locked, .holding, .dark].map LinkState.code = [0, 1, 2, 3] ∧
      [SupState.loading, .chainCheck, .readyWait, .running].map SupState.code = [1, 2, 3, 4] ∧
      [ResetCause.powerOn, .pin, .supply, .restart].map ResetCause.code = [0, 1, 2, 3] ∧
      [StoreState.idle, .writing, .faulted].map StoreState.code = [0, 1, 2] ∧
      [SupplyState.ok, .low].map SupplyState.code = [0, 1] ∧
      [Edge.left, .right, .top, .bottom].map Edge.code = [0, 1, 2, 3] ∧
      [LongKind.commit, .restart].map LongKind.byte = [10#8, 11#8] ∧
      [ReplyResult.done, .busy, .notReady, .badTarget, .badCell, .badValue, .dieFailed, .queueFull, .supplyLow,
          .storeFault].map ReplyResult.code = [0, 1, 2, 3, 4, 5, 6, 7, 8, 9] ∧
      [Cause.autoOpen, .autoShort, .spareLost, .forced, .released, .gainSet, .refill].map Cause.code =
        [0, 1, 2, 3, 4, 5, 6]) ∧
    (∀ r : FarEdge, farCode r = if r.present = false then 0 else if r.valid = false then 1 else 2) ∧
    (∀ (n : Nat) (st : CellState), cellStateOfCode n = some st ↔ n = st.code)

/-- LIST FAULTS lists in ascending order at most 12 cells from the start index on that are not in PRIMARY or are forced; fewer
than 12 are all there are; with 12 the reply continues behind the last, unless that is cell 3,071: so no such cell is passed over by a
host that goes on with the continuation index (R158). -/
def Obligations.FaultListMissesNoCell : Prop :=
  ∀ (s : State) (start : Nat),
    let listed := faultList s start
    listed.length ≤ 12 ∧ listed.Pairwise (fun a b => a < b) ∧
      (∀ c ∈ listed, start ≤ c ∧ c < Config.cellCount ∧ ((cellAt s c).state ≠ .primary ∨ (cellAt s c).forced = true)) ∧
      (∀ c, start ≤ c → c < Config.cellCount → ((cellAt s c).state ≠ .primary ∨ (cellAt s c).forced = true) →
        c ∈ listed ∨ ∃ n, faultContinuation listed = some n ∧ n ≤ c) ∧
      (∀ n, faultContinuation listed = some n → listed.length = 12 ∧ start < n ∧ n < Config.cellCount ∧ n - 1 ∈ listed) ∧
      (∀ c, listed.getLast? = some c →
        faultContinuation listed = if listed.length = 12 ∧ c < 3071 then some (c + 1) else none)

/-- The order of the refusals, heard behind R132's test of the source: an unknown kind BAD_VALUE in any state, a body being of an
unknown kind when its kind byte is none of 1 to 11 or its length is not its kind's (R176, 12.4.1); outside RUNNING NOT_READY; to all
stations BAD_TARGET; while a long request is in execution BUSY; the kinds that each step excepts pass it (R155). A request whose
reply's slot is full is dropped, with no effect: the long reply slot for a request that would be taken into execution, the immediate
reply slot for every other outcome. That a request row is heard right behind FRAME_COMPLETE too, as another sender's frame, is the
model's choice (log entry 11). -/
def Obligations.RequestsAreRefusedInOrder : Prop :=
  (∀ (o : State) (source : Nat) (target kind : Byte) (line : List LineRun) (bytes rest : List Byte), Heard o source target →
    o.seam.ownSent = false → readLine line = some bytes →
      heardFrame o bytes = some ⟨kindRequest, source, target, kind :: rest⟩ → readRequest (kind :: rest) = .unknown kind →
        ∃ u, exec (.seamFrameEnd line) o = .next (settle u) ∧
          (o.port.immediate = none → OnlyReplied (ownTested source o) u source kind .badValue .empty) ∧
          (o.port.immediate ≠ none → FrameEnded (ownTested source o) u)) ∧
    (∀ (kind : Byte) (rest : List Byte),
      let kindsAndLengths := [(1, 1), (2, 5), (3, 3), (4, 7), (5, 5), (6, 8), (7, 5), (8, 2), (9, 3), (10, 1), (11, 1)]
      (readRequest (kind :: rest) = .unknown kind ↔ (kind.toNat, rest.length + 1) ∉ kindsAndLengths) ∧
        (readRequest (kind :: rest)).kind = kind) ∧
    (∀ (o : State) (i : Instr) (source : Nat) (target : Byte) (r : Request), requestOf i = some (source, target, r) →
      Heard o source target → o.port.immediate = none → o.sup.state ≠ .running → r ≠ .status →
        ∃ u, exec i o = .next (settle u) ∧ OnlyReplied (ownTested source o) u source r.kind .notReady .empty) ∧
    (∀ (o : State) (i : Instr) (source : Nat) (target : Byte) (r : Request), requestOf i = some (source, target, r) →
      Heard o source target → o.port.immediate = none → o.sup.state = .running → target.toNat = 31 →
        r ≠ .status → r ≠ .commit → r ≠ .restart →
          ∃ u, exec i o = .next (settle u) ∧ OnlyReplied (ownTested source o) u source r.kind .badTarget .empty) ∧
    (∀ (o : State) (i : Instr) (source : Nat) (target : Byte) (r : Request), requestOf i = some (source, target, r) →
      Heard o source target → o.port.immediate = none → o.sup.state = .running →
        target.toNat ≠ 31 ∨ r = .commit ∨ r = .restart → o.port.request ≠ none →
          r ≠ .status → (∀ f, r ≠ .readCell f) →
            ∃ u, exec i o = .next (settle u) ∧ OnlyReplied (ownTested source o) u source r.kind .busy .empty) ∧
    (∀ (o : State) (i : Instr) (source : Nat) (target : Byte) (r : Request), requestOf i = some (source, target, r) →
      Heard o source target →
        let executed := (r = .commit ∨ r = .restart) ∧ o.sup.state = .running ∧ o.port.request = none
        (executed ∧ o.port.long ≠ none) ∨ (¬executed ∧ o.port.immediate ≠ none) →
          ∃ u, exec i o = .next (settle u) ∧ FrameEnded (ownTested source o) u)

/-- The checks on a request's operands, heard behind R132's test of the source: a field that names no cell, BAD_CELL; a FORCE to a
code above 2, BAD_VALUE, and onto a FAILED die without the clear flag, DIE_FAILED; a PROBE of a cell not in a full list, QUEUE_FULL.
Nothing is changed (R2, R43, R62, R158, R176). A field names a cell by row, column and colour, or by its index (R1, R2). That a
request row is heard right behind FRAME_COMPLETE too, as another sender's frame, is the model's choice (log entry 11). -/
def Obligations.BadOperandsAreRefused : Prop :=
  ∀ (o : State) (source : Nat) (target : Byte), Taken o source target →
    let s := ownTested source o
    (∀ (f : CellField) (code clear mode : Byte) (gain : Half), cellOf f = none →
      ∀ i ∈ [Instr.readCell source target f, .force source target f code clear, .release source target f,
          .setGain source target f mode gain, .probe source target f],
        ∀ r, requestOf i = some (source, target, r) →
          ∃ u, exec i o = .next (settle u) ∧ OnlyReplied s u source r.kind .badCell .empty) ∧
      (∀ n : Half, Config.cellCount ≤ n.toNat →
        ∃ u, exec (.listFaults source target n) o = .next (settle u) ∧ OnlyReplied s u source 3#8 .badCell .empty) ∧
      (∀ (f : CellField) (code clear : Byte) (c : Nat), cellOf f = some c → 3 ≤ code.toNat →
        ∃ u, exec (.force source target f code clear) o = .next (settle u) ∧ OnlyReplied s u source 4#8 .badValue .empty) ∧
      (∀ (f : CellField) (code : Byte) (c d : Nat), cellOf f = some c →
        ((code.toNat = 0 ∧ d = primaryDie c) ∨ (code.toNat = 1 ∧ d = spareDie c)) → dieFailed s d = true →
          ∃ u, exec (.force source target f code 0#8) o = .next (settle u) ∧
            OnlyReplied s u source 4#8 .dieFailed .empty) ∧
      (∀ (f : CellField) (c : Nat), cellOf f = some c → 8 ≤ s.health.requests.length →
        (∀ q ∈ s.health.requests, q.cell ≠ c) →
          ∃ u, exec (.probe source target f) o = .next (settle u) ∧ OnlyReplied s u source 7#8 .queueFull .empty) ∧
      (∀ f : CellField, cellOf f = none ↔
        (f.form ≠ 0#8 ∧ f.form ≠ 1#8) ∨ (f.form = 0#8 ∧ (31 < f.b1.toNat ∨ 31 < f.b2.toNat ∨ 2 < f.b3.toNat)) ∨
          (f.form = 1#8 ∧ 3072 ≤ be16 f.b2 f.b3)) ∧
      (∀ (f : CellField) (c : Nat), cellOf f = some c →
        (f.form = 0#8 → c = (f.b1.toNat * 32 + f.b2.toNat) * 3 + f.b3.toNat) ∧ (f.form = 1#8 → c = be16 f.b2 f.b3))

/-- FORCE that is carried out, heard behind R132's test of its source: the cell takes the target state, forced; a FAILED target die
is cleared to GOOD at strike 0, and no other die; the reply is DONE; a change has the effects of R68, with cause FORCED, and a
rebuild trigger exactly when hole membership changes; a FORCE that changes nothing has none (R62 to R65, R68, R70). That a request
row is heard right behind FRAME_COMPLETE too, as another sender's frame, is the model's choice (log entry 11). -/
def Obligations.ForceIsCarriedOut : Prop :=
  ∀ (o : State) (source : Nat) (target : Byte) (f : CellField) (code clear : Byte) (c : Nat) (st : CellState),
    Taken o source target → cellOf f = some c → cellStateOfCode code.toNat = some st →
      let s := ownTested source o
      (clear ≠ 0#8 ∨ ∀ d, drivenDie c st = some d → dieFailed s d = false) →
        ∃ u, exec (.force source target f code clear) o = .next (settle u) ∧ Replied u source 4#8 .done .empty ∧
          OnlyServed s u ∧ cellAt u c = { cellAt s c with state := st, forced := true } ∧
          (∀ x, x ≠ c → cellAt u x = cellAt s x) ∧ u.map.factoryGain = s.map.factoryGain ∧
          (∀ d, drivenDie c st = some d → dieFailed s d = true →
            dieAt u d = { dieAt s d with health := .good, strike := 0 }) ∧
          (∀ d, d < Config.dieCount → drivenDie c st ≠ some d ∨ dieFailed s d = false → dieAt u d = dieAt s d) ∧
          u.health = { s.health with dies := u.health.dies } ∧ u.gov = s.gov ∧
          (cellAt u c ≠ cellAt s c ∨ (∃ d, drivenDie c st = some d ∧ dieFailed s d = true) → Changed s u c .forced) ∧
          (cellAt u c = cellAt s c → (∀ d, drivenDie c st = some d → dieFailed s d = false) → Unchanged s u) ∧
          (isHole (cellAt s c) ≠ isHole (cellAt u c) → Triggered s.conceal u) ∧
          (isHole (cellAt s c) = isHole (cellAt u c) → u.conceal = s.conceal)

/-- Heard behind R132's test of their source: RELEASE unforces a cell and applies the automatic transitions to it in the same event,
with cause RELEASED and a rebuild trigger when hole membership changes; a cell that is not forced is answered DONE and left (R66,
R68, R70). SET GAIN sets the override to the clamped code or clears it, with cause GAIN_SET and no trigger, and answers the value
taken or the factory gain; an override that is already so is left (R67, R68, R71). That a request row is heard right behind
FRAME_COMPLETE too, as another sender's frame, is the model's choice (log entry 11). -/
def Obligations.ReleaseAndSetGainChangeTheCell : Prop :=
  ∀ (o : State) (source : Nat) (target : Byte) (f : CellField) (c : Nat), Taken o source target → cellOf f = some c →
    let s := ownTested source o
    (∃ u, exec (.release source target f) o = .next (settle u) ∧ Replied u source 5#8 .done .empty ∧ OnlyServed s u ∧
      u.health = s.health ∧ u.gov = s.gov ∧ u.map.factoryGain = s.map.factoryGain ∧ (∀ x, x ≠ c → cellAt u x = cellAt s x) ∧
      ((cellAt s c).forced = false → u.map = s.map ∧ Unchanged s u) ∧
      ((cellAt s c).forced = true →
        cellAt u c =
          { cellAt s c with
            forced := false
            state :=
              match (cellAt s c).state with
              | .primary =>
                if dieFailed s (primaryDie c) then (if dieFailed s (spareDie c) then .hole else .spare) else .primary
              | .spare => if dieFailed s (spareDie c) then .hole else .spare
              | .hole => .hole } ∧
          Changed s u c .released ∧ (isHole (cellAt s c) ≠ isHole (cellAt u c) → Triggered s.conceal u) ∧
          (isHole (cellAt s c) = isHole (cellAt u c) → u.conceal = s.conceal))) ∧
      (∀ (mode : Byte) (code : Half),
        let g := if mode = 0#8 then some (max 128 (min 511 code.toNat)) else none
        ∃ u, exec (.setGain source target f mode code) o = .next (settle u) ∧
          Replied u source 6#8 .done (.value16 (g.getD (factoryGainAt s c))) ∧ OnlyServed s u ∧ u.health = s.health ∧
          u.gov = s.gov ∧ u.conceal = s.conceal ∧ u.map.factoryGain = s.map.factoryGain ∧
          (∀ x, x ≠ c → cellAt u x = cellAt s x) ∧ cellAt u c = { cellAt s c with gain := g } ∧
          ((cellAt s c).gain = g → Unchanged s u) ∧ ((cellAt s c).gain ≠ g → Changed s u c .gainSet))

/-- Heard behind R132's test of their source: PROBE puts a cell that is not in the request list at its end with both marks clear,
and answers DONE; a cell already in the list is answered DONE and the list left (R43). SET CONCEAL sets K, and SET LIMIT C_lim
clamped to 49,136; each sets the settings record's mark and answers the value taken, and only SET CONCEAL triggers a rebuild (R120,
R159, R96, R144). That a request row is heard right behind FRAME_COMPLETE too, as another sender's frame, is the model's choice (log
entry 11). -/
def Obligations.ProbesAndSettingsAreTaken : Prop :=
  ∀ (o : State) (source : Nat) (target : Byte), Taken o source target →
    let s := ownTested source o
    (∀ (f : CellField) (c : Nat), cellOf f = some c →
      ((∃ q ∈ s.health.requests, q.cell = c) →
        ∃ u, exec (.probe source target f) o = .next (settle u) ∧ OnlyReplied s u source 7#8 .done .empty) ∧
      ((∀ q ∈ s.health.requests, q.cell ≠ c) → s.health.requests.length < 8 →
        ∃ u, exec (.probe source target f) o = .next (settle u) ∧ Replied u source 7#8 .done .empty ∧ OnlyServed s u ∧
          Unchanged s u ∧ u.map = s.map ∧ u.gov = s.gov ∧
          u.health = { s.health with requests := s.health.requests ++ [⟨c, false, false⟩] })) ∧
    (∀ k : Byte, ∃ u, exec (.setConceal source target k) o = .next (settle u) ∧
      Replied u source 8#8 .done (.value8 k.toNat) ∧ OnlyServed s u ∧ Triggered { s.conceal with k := k.toNat } u ∧
      u.store = { s.store with settingsDirty := true } ∧ u.health = s.health ∧ u.map = s.map ∧ u.gov = s.gov ∧
      u.port = { s.port with immediate := u.port.immediate } ∧ u.seam.items.reportHead = s.seam.items.reportHead) ∧
    (∀ v : Half, ∃ u, exec (.setLimit source target v) o = .next (settle u) ∧
      Replied u source 9#8 .done (.value16 (min 49136 v.toNat)) ∧ OnlyServed s u ∧
      u.gov = { s.gov with limit := min 49136 v.toNat } ∧ u.store = { s.store with settingsDirty := true } ∧
      u.conceal = s.conceal ∧ u.health = s.health ∧ u.map = s.map ∧
      u.port = { s.port with immediate := u.port.immediate } ∧ u.seam.items.reportHead = s.seam.items.reportHead)

/-- COMMIT and RESTART, heard behind R132's test of their source, taken in RUNNING with no long request in execution and the long
reply slot empty, are judged at once by R161's table: STORE_FAULT in FAULTED, else SUPPLY_LOW at a LOW supply, else DONE when
nothing is dirty and the store is idle; the reply carries the number of records unwritten, and the RESTART then waits in REPLYING; a
request that has no result yet stays in execution (R155, R160 to R162). With the slot full the request is dropped. That a request
row is heard right behind FRAME_COMPLETE too, as another sender's frame, is the model's choice (log entry 11). -/
def Obligations.LongRequestsAreJudged : Prop :=
  ∀ (o : State) (i : Instr) (k : LongKind) (source : Nat) (target : Byte),
    ((i = .commit source target ∧ k = .commit) ∨ (i = .restart source target ∧ k = .restart)) → Heard o source target →
      o.sup.state = .running → o.port.request = none →
        let s := ownTested source o
        ∃ u, exec i o = .next (settle u) ∧ (s.port.long ≠ none → FrameEnded s u) ∧
          (s.port.long = none →
            let ended := s.store.state = .faulted ∨ s.sup.supply = .low ∨ (dirtyCount s = 0 ∧ s.store.state = .idle)
            let result : ReplyResult :=
              if s.store.state = .faulted then .storeFault else if s.sup.supply = .low then .supplyLow else .done
            (ended →
              u.port =
                { s.port with
                  long := some ⟨source, k.byte, result, dirtyCount s, .empty, none⟩
                  request := if k = .commit then none else some ⟨k, source, .replying⟩ } ∧
              u.seam.items = { s.seam.items with longReply := true }) ∧
            (¬ended → u.port = { s.port with request := some ⟨k, source, .executing⟩ } ∧ u.seam.items = s.seam.items) ∧
            FrameEnded { s with port := u.port, seam := { s.seam with items := u.seam.items } } u)

/-- The RESTART's reset. RESTART_WAIT_EXPIRY in REPLYING, and the completion of the restart's reply, hand it over: with no write in
flight the tile is reset with cause RESTART, both regions of the store kept, and the start begins in the same event, whatever the pins
show; with one in flight the reset waits, and WRITE_COMPLETE and WRITE_TIMEOUT take it (R152, R162, R167). That the long-request slot is
empty while the reset waits is the model's deduction from R152 and R162 (log entry 17), that a reply not yet sent stays in the long reply
slot until the waiting reset is taken its choice (log entry 27), and that the reset leaves the supply state as it was, until the start
sets it, its deduction from R173 (log entry 5).
Where the event cannot arise, nothing changes (the model's choice, log entry 10). -/
def Obligations.RestartResetsTheTile : Prop :=
  (∀ (s : State) (pins : Pins) (source : Nat), s.port.request = some ⟨.restart, source, .replying⟩ →
    s.store.state ≠ .writing →
      ∃ r t, exec (.restartWaitExpiry pins) s = .next t ∧ StartBegun pins r t ∧ ResetValues r ∧
        r.sup.cause = .restart ∧
        r.sup.supply = s.sup.supply ∧ r.store.factory = s.store.factory ∧ r.store.slots = s.store.slots ∧
        r.store.settings = s.store.settings ∧ r.pending = s.pending) ∧
    (∀ (s : State) (pins : Pins) (source : Nat), s.port.request = some ⟨.restart, source, .replying⟩ →
      s.store.state = .writing →
        exec (.restartWaitExpiry pins) s =
          .next { s with port := { s.port with request := none }, store := { s.store with restartHold := true } }) ∧
    (∀ (s : State) (pins : Pins), (∀ source, s.port.request ≠ some ⟨.restart, source, .replying⟩) →
      exec (.restartWaitExpiry pins) s = .next s) ∧
    (∀ (s : State) (pins : Pins) (source : Nat) (b : Composed), s.port.request = some ⟨.restart, source, .replying⟩ →
      s.seam.tx = .sending → s.seam.lineBank = some b → b.item = .longReply →
        (s.store.state ≠ .writing →
          ∃ r t, exec (.frameComplete pins) s = .next t ∧ StartBegun pins r t ∧ ResetValues r ∧
            r.sup.cause = .restart ∧
            r.store.factory = s.store.factory ∧ r.store.slots = s.store.slots ∧ r.store.settings = s.store.settings ∧
            r.pending = s.pending) ∧
        (s.store.state = .writing →
          ∃ t, exec (.frameComplete pins) s = .next t ∧ t.store = { s.store with restartHold := true } ∧
            t.port.request = none ∧ t.port.long = none ∧ t.sup = s.sup ∧ t.seam.items.longReply = false)) ∧
    (∀ (s : State) (pins : Pins) (job : WriteJob), s.store.state = .writing → s.store.inFlight = some job →
      s.store.restartHold = true →
        (∃ r t, exec (.writeComplete pins) s = .next t ∧ StartBegun pins r t ∧ ResetValues r ∧
          r.sup.cause = .restart ∧
          r.pending = s.pending ∧ r.store.factory = s.store.factory ∧
          (∀ b, job = .settings b → r.store.settings = .bytes b ∧ r.store.slots = s.store.slots) ∧
          (∀ c b, job = .cell c b → r.store.slots = tset s.store.slots c (.bytes b) ∧ r.store.settings = s.store.settings)) ∧
        (∃ r t, exec (.writeTimeout pins) s = .next t ∧ StartBegun pins r t ∧ ResetValues r ∧
          r.sup.cause = .restart ∧
          r.pending = s.pending ∧ r.store.factory = s.store.factory ∧
          (∀ b, job = .settings b → r.store.settings = .cut ∧ r.store.slots = s.store.slots) ∧
          (∀ c b, job = .cell c b → r.store.slots = tset s.store.slots c .cut ∧ r.store.settings = s.store.settings)))

/-! ## The map store (chapter 9) -/

/-- The begin of a write at the end of an event: exactly with the store IDLE, the supply OK, in RUNNING, no RESTART reset waiting and a
mark set. The settings record goes first; otherwise the first marked cell from the write cursor on; its mark is cleared, its record
given up, and its snapshot taken, with SUSPECT saved as GOOD (R145, R146, R149). Nothing but the store changes. An event that may begin a
write ends with this test and then with the filling of the banks, in that order (R134, R145; the order is the model's choice of log
entry 9). -/
def Obligations.WriteBeginsWithItsSnapshot : Prop :=
  ∀ s : State,
    let free := s.store.state = .idle ∧ s.sup.supply = .ok ∧ s.sup.state = .running ∧ s.store.restartHold = false
    let marked := fun n => tget s.store.dirty ((s.store.cursor + n) % Config.cellCount) false
    (free → s.store.settingsDirty = true →
      beginWrite s =
        { s with
          store :=
            { s.store with
              settingsDirty := false
              settings := .cut
              inFlight := some (.settings (settingsBytes s.conceal.k s.gov.limit))
              state := .writing } }) ∧
      (∀ n, free → s.store.settingsDirty = false → n < Config.cellCount → marked n = true →
        (∀ m, m < n → marked m = false) →
          let c := (s.store.cursor + n) % Config.cellCount
          beginWrite s =
            { s with
              store :=
                { s.store with
                  dirty := tset s.store.dirty c false
                  slots := tset s.store.slots c .cut
                  inFlight :=
                    some (.cell c (slotBytes c (cellAt s c) (dieAt s (primaryDie c)).health (dieAt s (spareDie c)).health))
                  state := .writing } }) ∧
      (¬free ∨ (s.store.settingsDirty = false ∧ ∀ c, c < Config.cellCount → tget s.store.dirty c false = false) →
        beginWrite s = s) ∧
      settle s = fillBanks (beginWrite s) ∧
      (∀ (c : Nat) (r : CellRec) (p q : Health),
        let saved := fun h : Health => if h = .suspect then Health.good else h
        let b := slotBytes c r p q
        b.primary = byteOf (saved p).code ∧ b.spare = byteOf (saved q).code)

/-- WRITE_COMPLETE, with no RESTART reset waiting, lands the snapshot in its record, moves the cursor behind a cell, leaves the store IDLE
and judges a long request in execution: SUPPLY_LOW or, with nothing dirty, DONE, the slot then empty for a COMMIT and in REPLYING for a
RESTART; one that is in REPLYING is not judged again. WRITE_TIMEOUT leaves the record torn and its mark set again, the store FAULTED,
raises the tile notice and answers the long request STORE_FAULT; with no write in flight both do nothing (R148, R150, R161, R162).
Where the event cannot arise, nothing changes (the model's choice, log entry 10). -/
def Obligations.WritesEnd : Prop :=
  (∀ (s : State) (pins : Pins) (job : WriteJob), s.store.state = .writing → s.store.inFlight = some job →
    s.store.restartHold = false →
      (∃ u, exec (.writeComplete pins) s = .next (settle u) ∧
        u.store =
          { s.store with
            state := .idle
            inFlight := none
            settings := match job with
              | .settings b => .bytes b
              | .cell _ _ => s.store.settings
            slots := match job with
              | .settings _ => s.store.slots
              | .cell c b => tset s.store.slots c (.bytes b)
            cursor := match job with
              | .settings _ => s.store.cursor
              | .cell c _ => (c + 1) % Config.cellCount } ∧
        (∀ r, s.port.request = some r → r.phase = .executing → s.sup.supply = .low ∨ dirtyCount s = 0 →
          u.port =
              { s.port with
                long :=
                  some ⟨r.source, r.kind.byte, if s.sup.supply = .low then .supplyLow else .done, dirtyCount s, .empty, none⟩
                request := if r.kind = .commit then none else some { r with phase := .replying } } ∧
            u.seam = { s.seam with items := { s.seam.items with longReply := true } }) ∧
        ((∀ r, s.port.request = some r → r.phase = .replying ∨ (s.sup.supply = .ok ∧ dirtyCount s ≠ 0)) →
          u.port = s.port ∧ u.seam = s.seam) ∧
        u = { s with store := u.store, port := u.port, seam := u.seam }) ∧
      (∃ u, exec (.writeTimeout pins) s = .next (fillBanks u) ∧
        u.port =
          { s.port with
            notice := true
            reraise := s.port.reraise || (s.port.notice && isComposed s .tileNotice)
            long := u.port.long
            request := u.port.request } ∧
        u.seam.items =
          { s.seam.items with
            tileNotice := s.seam.items.tileNotice || !s.port.notice
            longReply := u.seam.items.longReply } ∧
        u.seam = { s.seam with items := u.seam.items } ∧
        u.store =
          { s.store with
            state := .faulted
            inFlight := none
            settings := match job with
              | .settings _ => .cut
              | .cell _ _ => s.store.settings
            slots := match job with
              | .settings _ => s.store.slots
              | .cell c _ => tset s.store.slots c .cut
            settingsDirty := match job with
              | .settings _ => true
              | .cell _ _ => s.store.settingsDirty
            dirty := match job with
              | .settings _ => s.store.dirty
              | .cell c _ => tset s.store.dirty c true } ∧
        (∀ r, s.port.request = some r → r.phase = .executing →
          u.port.long = some ⟨r.source, r.kind.byte, .storeFault, dirtyCount u, .empty, none⟩ ∧
            u.seam.items.longReply = true ∧
              u.port.request = (if r.kind = .commit then none else some { r with phase := .replying })) ∧
        ((∀ r, s.port.request = some r → r.phase = .replying) →
          u.port.long = s.port.long ∧ u.port.request = s.port.request ∧ u.seam.items.longReply = s.seam.items.longReply) ∧
        u = { s with store := u.store, port := u.port, seam := u.seam })) ∧
    (∀ (s : State) (pins : Pins), s.store.state ≠ .writing →
      exec (.writeComplete pins) s = .next s ∧ exec (.writeTimeout pins) s = .next s)

/-! ## Reports (chapter 10) -/

/-- A cell event: a cell already in the report queue has its entry replaced in its place, with the updated mark if the entry is the
report head and composed; a cell not in a queue with room enters at the tail, and the first entry makes the report head pending;
with the queue full the cell's mark is set. Every other entry and mark stays (R163, R133). -/
def Obligations.CellEventIsPosted : Prop :=
  ∀ (s : State) (c : Nat) (cause : Cause), c < Config.cellCount →
    let t := postEvent c cause s
    let fresh : Bool → Report :=
      fun b => ⟨c, (cellAt s c).state, (dieAt s (primaryDie c)).health, (dieAt s (spareDie c)).health, cause, b⟩
    (∀ before after r, s.port.queue = before ++ r :: after → r.cell = c → (∀ x ∈ before ++ after, x.cell ≠ c) →
      t = { s with
            port :=
              { s.port with
                queue :=
                  before ++ fresh (r.updated || (decide (before = []) && isComposed s .reportHead)) :: after } }) ∧
      ((∀ x ∈ s.port.queue, x.cell ≠ c) → s.port.queue.length < 32 →
        t.port = { s.port with queue := s.port.queue ++ [fresh false] } ∧
          t.seam.items.reportHead = (s.seam.items.reportHead || decide (s.port.queue = [])) ∧
          t = { s with
                port := t.port
                seam := { s.seam with items := { s.seam.items with reportHead := t.seam.items.reportHead } } }) ∧
      ((∀ x ∈ s.port.queue, x.cell ≠ c) → 32 ≤ s.port.queue.length →
        t = { s with port := { s.port with marks := tset s.port.marks c true } })

/-! ## Laws that every step keeps -/

/-- The laws of Safety.lean hold right after reset. (The reset values that the manual does not give are log entries 2 to 6.) -/
def Obligations.LawsHoldAtReset : Prop :=
  ResetLaw State.reset ∧ DieLaw State.reset ∧ DrivenDieLaw State.reset ∧ ProbeLaw State.reset ∧ BlankLaw State.reset ∧
    DriveLaw State.reset ∧ ConcealLaw State.reset ∧ GovernorLaw State.reset ∧ BankLaw State.reset ∧ ReportLaw State.reset ∧
    ItemLaw State.reset ∧ StoreLaw State.reset

/-- In RESET the tile does no work: whatever is commanded, a tile in RESET stands as its reset left it (R167), and neither condition of
R167 stands outside RESET. Only START_BEGIN leaves RESET (R167, R169); RUNNING is left, and SEARCH entered, only at a reset (R23, R172);
the reset cause changes only at a reset (R168), the straps only there and where a start begins (R169), and a finding is added or cleared
in no other event of RUNNING than a reset (R174). -/
def Obligations.ResetTileDoesNoWork : Prop :=
  ∀ s t : State, ResetLaw s → step s = .next t →
    ResetLaw t ∧
      ∀ c rest, s.pending = c :: rest →
        (s.sup.state = .reset → t.sup.state ≠ .reset → ∃ pins, c = .startBegin pins) ∧
          (s.sup.state = .running → t.sup.state = .running ∨ ResetTaken c t) ∧
          (t.rx.link = .search → s.rx.link = .search ∨ ResetTaken c t) ∧
          (t.sup.cause = s.sup.cause ∨ ResetTaken c t) ∧
          (t.sup.straps = s.sup.straps ∨ ResetTaken c t ∨ (s.sup.state = .reset ∧ ∃ pins, c = .startBegin pins)) ∧
          (s.sup.state = .running → t.sup.findings = s.sup.findings ∨ ResetTaken c t)

/-- Every step keeps the law of the die record, the law that an unforced cell drives no FAILED die, and the probe lists' bounds
(R34, R56, R43, R44). -/
def Obligations.HealthLawsAreKept : Prop :=
  ∀ s t : State, DieLaw s → DrivenDieLaw s → ProbeLaw s → step s = .next t →
    DieLaw t ∧ DrivenDieLaw t ∧ ProbeLaw t

/-- Every step keeps the blank flag's law, the ranges of the frame store, drive values and figures, R35's one driven die in a cell,
and the law of the concealment tables (R11, R12, R21, R35, R84 to R87, R92, R95, R99). -/
def Obligations.DisplayLawsAreKept : Prop :=
  ∀ s t : State, BlankLaw s → DriveLaw s → ConcealLaw s → step s = .next t → BlankLaw t ∧ DriveLaw t ∧ ConcealLaw t

/-- Every step keeps the peer load list and the governor's ranges (R112, R115 to R120). That a peer's age may stand at 64 and the
announcement counter at 16, where R115 gives ages of 0 to 63 and 7.1 a counter of 0 to 15, is the model's choice: a boundary taken apart
leaves a count at its limit due for its own row (log entry 1). -/
def Obligations.GovernorLawIsKept : Prop :=
  ∀ s t : State, ResetLaw s → GovernorLaw s → step s = .next t → GovernorLaw t

/-- Every step keeps the banks, the pending set, the transmit state, CLASH and the carried peak in agreement, the report queue
within its law, and the port's items with what they stand for (R114, R128, R130, R132 to R134, R156, R163 to R165). -/
def Obligations.BusLawsAreKept : Prop :=
  ∀ s t : State, ResetLaw s → BankLaw s → ReportLaw s → ItemLaw s → step s = .next t → BankLaw t ∧ ReportLaw t ∧ ItemLaw t

/-- Every step keeps the law of the store: a write is in flight exactly in WRITING, and its record is given up (R145, R146,
R152). -/
def Obligations.StoreLawIsKept : Prop := ∀ s t : State, StoreLaw s → step s = .next t → StoreLaw t
end

