-- ==== Sys2Proof/Laws/State.lean ====
section
/-! SUPPORT. One lemma for each block's update and each field of the state, so that no proof unfolds an update. -/

namespace Sys2Proof.Machine

variable (s : State)

@[simp] theorem setSup_sup (b : Supervisor) : (s.setSup b).sup = b := rfl
@[simp] theorem setSup_rx (b : Supervisor) : (s.setSup b).rx = s.rx := rfl
@[simp] theorem setSup_scan (b : Supervisor) : (s.setSup b).scan = s.scan := rfl
@[simp] theorem setSup_health (b : Supervisor) : (s.setSup b).health = s.health := rfl
@[simp] theorem setSup_map (b : Supervisor) : (s.setSup b).map = s.map := rfl
@[simp] theorem setSup_drive (b : Supervisor) : (s.setSup b).drive = s.drive := rfl
@[simp] theorem setSup_conceal (b : Supervisor) : (s.setSup b).conceal = s.conceal := rfl
@[simp] theorem setSup_gov (b : Supervisor) : (s.setSup b).gov = s.gov := rfl
@[simp] theorem setSup_seam (b : Supervisor) : (s.setSup b).seam = s.seam := rfl
@[simp] theorem setSup_store (b : Supervisor) : (s.setSup b).store = s.store := rfl
@[simp] theorem setSup_port (b : Supervisor) : (s.setSup b).port = s.port := rfl
@[simp] theorem setSup_pending (b : Supervisor) : (s.setSup b).pending = s.pending := rfl

@[simp] theorem setRx_sup (b : PixelRx) : (s.setRx b).sup = s.sup := rfl
@[simp] theorem setRx_rx (b : PixelRx) : (s.setRx b).rx = b := rfl
@[simp] theorem setRx_scan (b : PixelRx) : (s.setRx b).scan = s.scan := rfl
@[simp] theorem setRx_health (b : PixelRx) : (s.setRx b).health = s.health := rfl
@[simp] theorem setRx_map (b : PixelRx) : (s.setRx b).map = s.map := rfl
@[simp] theorem setRx_drive (b : PixelRx) : (s.setRx b).drive = s.drive := rfl
@[simp] theorem setRx_conceal (b : PixelRx) : (s.setRx b).conceal = s.conceal := rfl
@[simp] theorem setRx_gov (b : PixelRx) : (s.setRx b).gov = s.gov := rfl
@[simp] theorem setRx_seam (b : PixelRx) : (s.setRx b).seam = s.seam := rfl
@[simp] theorem setRx_store (b : PixelRx) : (s.setRx b).store = s.store := rfl
@[simp] theorem setRx_port (b : PixelRx) : (s.setRx b).port = s.port := rfl
@[simp] theorem setRx_pending (b : PixelRx) : (s.setRx b).pending = s.pending := rfl

@[simp] theorem setScan_sup (b : Scan) : (s.setScan b).sup = s.sup := rfl
@[simp] theorem setScan_rx (b : Scan) : (s.setScan b).rx = s.rx := rfl
@[simp] theorem setScan_scan (b : Scan) : (s.setScan b).scan = b := rfl
@[simp] theorem setScan_health (b : Scan) : (s.setScan b).health = s.health := rfl
@[simp] theorem setScan_map (b : Scan) : (s.setScan b).map = s.map := rfl
@[simp] theorem setScan_drive (b : Scan) : (s.setScan b).drive = s.drive := rfl
@[simp] theorem setScan_conceal (b : Scan) : (s.setScan b).conceal = s.conceal := rfl
@[simp] theorem setScan_gov (b : Scan) : (s.setScan b).gov = s.gov := rfl
@[simp] theorem setScan_seam (b : Scan) : (s.setScan b).seam = s.seam := rfl
@[simp] theorem setScan_store (b : Scan) : (s.setScan b).store = s.store := rfl
@[simp] theorem setScan_port (b : Scan) : (s.setScan b).port = s.port := rfl
@[simp] theorem setScan_pending (b : Scan) : (s.setScan b).pending = s.pending := rfl

@[simp] theorem setHealth_sup (b : HealthMon) : (s.setHealth b).sup = s.sup := rfl
@[simp] theorem setHealth_rx (b : HealthMon) : (s.setHealth b).rx = s.rx := rfl
@[simp] theorem setHealth_scan (b : HealthMon) : (s.setHealth b).scan = s.scan := rfl
@[simp] theorem setHealth_health (b : HealthMon) : (s.setHealth b).health = b := rfl
@[simp] theorem setHealth_map (b : HealthMon) : (s.setHealth b).map = s.map := rfl
@[simp] theorem setHealth_drive (b : HealthMon) : (s.setHealth b).drive = s.drive := rfl
@[simp] theorem setHealth_conceal (b : HealthMon) : (s.setHealth b).conceal = s.conceal := rfl
@[simp] theorem setHealth_gov (b : HealthMon) : (s.setHealth b).gov = s.gov := rfl
@[simp] theorem setHealth_seam (b : HealthMon) : (s.setHealth b).seam = s.seam := rfl
@[simp] theorem setHealth_store (b : HealthMon) : (s.setHealth b).store = s.store := rfl
@[simp] theorem setHealth_port (b : HealthMon) : (s.setHealth b).port = s.port := rfl
@[simp] theorem setHealth_pending (b : HealthMon) : (s.setHealth b).pending = s.pending := rfl

@[simp] theorem setMap_sup (b : MapCtl) : (s.setMap b).sup = s.sup := rfl
@[simp] theorem setMap_rx (b : MapCtl) : (s.setMap b).rx = s.rx := rfl
@[simp] theorem setMap_scan (b : MapCtl) : (s.setMap b).scan = s.scan := rfl
@[simp] theorem setMap_health (b : MapCtl) : (s.setMap b).health = s.health := rfl
@[simp] theorem setMap_map (b : MapCtl) : (s.setMap b).map = b := rfl
@[simp] theorem setMap_drive (b : MapCtl) : (s.setMap b).drive = s.drive := rfl
@[simp] theorem setMap_conceal (b : MapCtl) : (s.setMap b).conceal = s.conceal := rfl
@[simp] theorem setMap_gov (b : MapCtl) : (s.setMap b).gov = s.gov := rfl
@[simp] theorem setMap_seam (b : MapCtl) : (s.setMap b).seam = s.seam := rfl
@[simp] theorem setMap_store (b : MapCtl) : (s.setMap b).store = s.store := rfl
@[simp] theorem setMap_port (b : MapCtl) : (s.setMap b).port = s.port := rfl
@[simp] theorem setMap_pending (b : MapCtl) : (s.setMap b).pending = s.pending := rfl

@[simp] theorem setDrive_sup (b : Drive) : (s.setDrive b).sup = s.sup := rfl
@[simp] theorem setDrive_rx (b : Drive) : (s.setDrive b).rx = s.rx := rfl
@[simp] theorem setDrive_scan (b : Drive) : (s.setDrive b).scan = s.scan := rfl
@[simp] theorem setDrive_health (b : Drive) : (s.setDrive b).health = s.health := rfl
@[simp] theorem setDrive_map (b : Drive) : (s.setDrive b).map = s.map := rfl
@[simp] theorem setDrive_drive (b : Drive) : (s.setDrive b).drive = b := rfl
@[simp] theorem setDrive_conceal (b : Drive) : (s.setDrive b).conceal = s.conceal := rfl
@[simp] theorem setDrive_gov (b : Drive) : (s.setDrive b).gov = s.gov := rfl
@[simp] theorem setDrive_seam (b : Drive) : (s.setDrive b).seam = s.seam := rfl
@[simp] theorem setDrive_store (b : Drive) : (s.setDrive b).store = s.store := rfl
@[simp] theorem setDrive_port (b : Drive) : (s.setDrive b).port = s.port := rfl
@[simp] theorem setDrive_pending (b : Drive) : (s.setDrive b).pending = s.pending := rfl

@[simp] theorem setConceal_sup (b : Conceal) : (s.setConceal b).sup = s.sup := rfl
@[simp] theorem setConceal_rx (b : Conceal) : (s.setConceal b).rx = s.rx := rfl
@[simp] theorem setConceal_scan (b : Conceal) : (s.setConceal b).scan = s.scan := rfl
@[simp] theorem setConceal_health (b : Conceal) : (s.setConceal b).health = s.health := rfl
@[simp] theorem setConceal_map (b : Conceal) : (s.setConceal b).map = s.map := rfl
@[simp] theorem setConceal_drive (b : Conceal) : (s.setConceal b).drive = s.drive := rfl
@[simp] theorem setConceal_conceal (b : Conceal) : (s.setConceal b).conceal = b := rfl
@[simp] theorem setConceal_gov (b : Conceal) : (s.setConceal b).gov = s.gov := rfl
@[simp] theorem setConceal_seam (b : Conceal) : (s.setConceal b).seam = s.seam := rfl
@[simp] theorem setConceal_store (b : Conceal) : (s.setConceal b).store = s.store := rfl
@[simp] theorem setConceal_port (b : Conceal) : (s.setConceal b).port = s.port := rfl
@[simp] theorem setConceal_pending (b : Conceal) : (s.setConceal b).pending = s.pending := rfl

@[simp] theorem setGov_sup (b : Governor) : (s.setGov b).sup = s.sup := rfl
@[simp] theorem setGov_rx (b : Governor) : (s.setGov b).rx = s.rx := rfl
@[simp] theorem setGov_scan (b : Governor) : (s.setGov b).scan = s.scan := rfl
@[simp] theorem setGov_health (b : Governor) : (s.setGov b).health = s.health := rfl
@[simp] theorem setGov_map (b : Governor) : (s.setGov b).map = s.map := rfl
@[simp] theorem setGov_drive (b : Governor) : (s.setGov b).drive = s.drive := rfl
@[simp] theorem setGov_conceal (b : Governor) : (s.setGov b).conceal = s.conceal := rfl
@[simp] theorem setGov_gov (b : Governor) : (s.setGov b).gov = b := rfl
@[simp] theorem setGov_seam (b : Governor) : (s.setGov b).seam = s.seam := rfl
@[simp] theorem setGov_store (b : Governor) : (s.setGov b).store = s.store := rfl
@[simp] theorem setGov_port (b : Governor) : (s.setGov b).port = s.port := rfl
@[simp] theorem setGov_pending (b : Governor) : (s.setGov b).pending = s.pending := rfl

@[simp] theorem setSeam_sup (b : Seam) : (s.setSeam b).sup = s.sup := rfl
@[simp] theorem setSeam_rx (b : Seam) : (s.setSeam b).rx = s.rx := rfl
@[simp] theorem setSeam_scan (b : Seam) : (s.setSeam b).scan = s.scan := rfl
@[simp] theorem setSeam_health (b : Seam) : (s.setSeam b).health = s.health := rfl
@[simp] theorem setSeam_map (b : Seam) : (s.setSeam b).map = s.map := rfl
@[simp] theorem setSeam_drive (b : Seam) : (s.setSeam b).drive = s.drive := rfl
@[simp] theorem setSeam_conceal (b : Seam) : (s.setSeam b).conceal = s.conceal := rfl
@[simp] theorem setSeam_gov (b : Seam) : (s.setSeam b).gov = s.gov := rfl
@[simp] theorem setSeam_seam (b : Seam) : (s.setSeam b).seam = b := rfl
@[simp] theorem setSeam_store (b : Seam) : (s.setSeam b).store = s.store := rfl
@[simp] theorem setSeam_port (b : Seam) : (s.setSeam b).port = s.port := rfl
@[simp] theorem setSeam_pending (b : Seam) : (s.setSeam b).pending = s.pending := rfl

@[simp] theorem setStore_sup (b : Store) : (s.setStore b).sup = s.sup := rfl
@[simp] theorem setStore_rx (b : Store) : (s.setStore b).rx = s.rx := rfl
@[simp] theorem setStore_scan (b : Store) : (s.setStore b).scan = s.scan := rfl
@[simp] theorem setStore_health (b : Store) : (s.setStore b).health = s.health := rfl
@[simp] theorem setStore_map (b : Store) : (s.setStore b).map = s.map := rfl
@[simp] theorem setStore_drive (b : Store) : (s.setStore b).drive = s.drive := rfl
@[simp] theorem setStore_conceal (b : Store) : (s.setStore b).conceal = s.conceal := rfl
@[simp] theorem setStore_gov (b : Store) : (s.setStore b).gov = s.gov := rfl
@[simp] theorem setStore_seam (b : Store) : (s.setStore b).seam = s.seam := rfl
@[simp] theorem setStore_store (b : Store) : (s.setStore b).store = b := rfl
@[simp] theorem setStore_port (b : Store) : (s.setStore b).port = s.port := rfl
@[simp] theorem setStore_pending (b : Store) : (s.setStore b).pending = s.pending := rfl

@[simp] theorem setPort_sup (b : Port) : (s.setPort b).sup = s.sup := rfl
@[simp] theorem setPort_rx (b : Port) : (s.setPort b).rx = s.rx := rfl
@[simp] theorem setPort_scan (b : Port) : (s.setPort b).scan = s.scan := rfl
@[simp] theorem setPort_health (b : Port) : (s.setPort b).health = s.health := rfl
@[simp] theorem setPort_map (b : Port) : (s.setPort b).map = s.map := rfl
@[simp] theorem setPort_drive (b : Port) : (s.setPort b).drive = s.drive := rfl
@[simp] theorem setPort_conceal (b : Port) : (s.setPort b).conceal = s.conceal := rfl
@[simp] theorem setPort_gov (b : Port) : (s.setPort b).gov = s.gov := rfl
@[simp] theorem setPort_seam (b : Port) : (s.setPort b).seam = s.seam := rfl
@[simp] theorem setPort_store (b : Port) : (s.setPort b).store = s.store := rfl
@[simp] theorem setPort_port (b : Port) : (s.setPort b).port = b := rfl
@[simp] theorem setPort_pending (b : Port) : (s.setPort b).pending = s.pending := rfl

end Sys2Proof.Machine
end

