-- ==== Sys2Proof/Laws/SharedFrames.lean ====
section
/-! SUPPORT. Frame lemmas of the shared operations of Flags, Ops and Banks: what each leaves unchanged, as one simp lemma for each operation. -/

namespace Sys2Proof.Machine

variable (s : State)

/-- Making an item pending touches the pending set alone. -/
@[simp] theorem pend_frame (it : Item) :
    (pend it s).sup = s.sup ∧ (pend it s).rx = s.rx ∧ (pend it s).scan = s.scan ∧ (pend it s).health = s.health ∧
    (pend it s).map = s.map ∧ (pend it s).drive = s.drive ∧ (pend it s).conceal = s.conceal ∧ (pend it s).gov = s.gov ∧
    (pend it s).seam.own = s.seam.own ∧ (pend it s).seam.recv = s.seam.recv ∧ (pend it s).seam.buffer = s.seam.buffer ∧
    (pend it s).seam.count = s.seam.count ∧ (pend it s).seam.lineBank = s.seam.lineBank ∧
    (pend it s).seam.nextBank = s.seam.nextBank ∧ (pend it s).seam.tx = s.seam.tx ∧
    (pend it s).seam.mismatches = s.seam.mismatches ∧ (pend it s).seam.clash = s.seam.clash ∧
    (pend it s).seam.ownSent = s.seam.ownSent ∧ (pend it s).store = s.store ∧ (pend it s).port = s.port ∧
    (pend it s).pending = s.pending := by
  simp [pend]

/-- Raising the tile notice touches the flag, its mark and its item alone. -/
@[simp] theorem raiseNotice_frame :
    (raiseNotice s).sup = s.sup ∧ (raiseNotice s).rx = s.rx ∧ (raiseNotice s).scan = s.scan ∧
    (raiseNotice s).health = s.health ∧ (raiseNotice s).map = s.map ∧ (raiseNotice s).drive = s.drive ∧
    (raiseNotice s).conceal = s.conceal ∧ (raiseNotice s).gov = s.gov ∧ (raiseNotice s).seam.own = s.seam.own ∧
    (raiseNotice s).seam.recv = s.seam.recv ∧ (raiseNotice s).seam.buffer = s.seam.buffer ∧
    (raiseNotice s).seam.count = s.seam.count ∧ (raiseNotice s).seam.lineBank = s.seam.lineBank ∧
    (raiseNotice s).seam.nextBank = s.seam.nextBank ∧ (raiseNotice s).seam.tx = s.seam.tx ∧
    (raiseNotice s).seam.mismatches = s.seam.mismatches ∧ (raiseNotice s).seam.clash = s.seam.clash ∧
    (raiseNotice s).seam.ownSent = s.seam.ownSent ∧ (raiseNotice s).store = s.store ∧
    (raiseNotice s).port.immediate = s.port.immediate ∧ (raiseNotice s).port.long = s.port.long ∧
    (raiseNotice s).port.request = s.port.request ∧ (raiseNotice s).port.queue = s.port.queue ∧
    (raiseNotice s).port.marks = s.port.marks ∧ (raiseNotice s).port.refillCursor = s.port.refillCursor ∧
    (raiseNotice s).pending = s.pending := by
  and_intros <;> (unfold raiseNotice; (repeat' split) <;> simp)

/-- A FAILED marker. -/
@[simp] theorem markerFailed_frame :
    (markerFailed s).sup = s.sup ∧ (markerFailed s).rx = s.rx ∧ (markerFailed s).scan.position = s.scan.position ∧
    (markerFailed s).scan.chanP = s.scan.chanP ∧ (markerFailed s).scan.chanS = s.scan.chanS ∧
    (markerFailed s).scan.slot = s.scan.slot ∧ (markerFailed s).health = s.health ∧ (markerFailed s).map = s.map ∧
    (markerFailed s).drive = s.drive ∧ (markerFailed s).conceal = s.conceal ∧ (markerFailed s).gov = s.gov ∧
    (markerFailed s).seam.own = s.seam.own ∧ (markerFailed s).seam.recv = s.seam.recv ∧
    (markerFailed s).seam.buffer = s.seam.buffer ∧ (markerFailed s).seam.count = s.seam.count ∧
    (markerFailed s).seam.lineBank = s.seam.lineBank ∧ (markerFailed s).seam.nextBank = s.seam.nextBank ∧
    (markerFailed s).seam.tx = s.seam.tx ∧ (markerFailed s).seam.mismatches = s.seam.mismatches ∧
    (markerFailed s).seam.clash = s.seam.clash ∧ (markerFailed s).seam.ownSent = s.seam.ownSent ∧
    (markerFailed s).store = s.store ∧ (markerFailed s).port.immediate = s.port.immediate ∧
    (markerFailed s).port.long = s.port.long ∧ (markerFailed s).port.request = s.port.request ∧
    (markerFailed s).port.queue = s.port.queue ∧ (markerFailed s).port.marks = s.port.marks ∧
    (markerFailed s).port.refillCursor = s.port.refillCursor ∧ (markerFailed s).pending = s.pending := by
  and_intros <;> (unfold markerFailed; (repeat' split) <;> simp)

/-- A GOOD marker. -/
@[simp] theorem markerGood_frame :
    (markerGood s).sup = s.sup ∧ (markerGood s).rx = s.rx ∧ (markerGood s).scan.position = s.scan.position ∧
    (markerGood s).scan.chanP = s.scan.chanP ∧ (markerGood s).scan.chanS = s.scan.chanS ∧
    (markerGood s).scan.blank = s.scan.blank ∧ (markerGood s).scan.runCount = s.scan.runCount ∧
    (markerGood s).scan.seenBlank = s.scan.seenBlank ∧ (markerGood s).scan.slot = s.scan.slot ∧
    (markerGood s).health = s.health ∧ (markerGood s).map = s.map ∧ (markerGood s).drive = s.drive ∧
    (markerGood s).conceal = s.conceal ∧ (markerGood s).gov = s.gov ∧ (markerGood s).seam = s.seam ∧
    (markerGood s).store = s.store ∧ (markerGood s).port = s.port ∧ (markerGood s).pending = s.pending := by
  and_intros <;> (unfold markerGood; (repeat' split) <;> simp)

/-- A cell record. -/
@[simp] theorem setCell_frame (c : Nat) (r : CellRec) :
    (setCell c r s).sup = s.sup ∧ (setCell c r s).rx = s.rx ∧ (setCell c r s).scan = s.scan ∧
    (setCell c r s).health = s.health ∧ (setCell c r s).map.factoryGain = s.map.factoryGain ∧
    (setCell c r s).drive = s.drive ∧ (setCell c r s).conceal = s.conceal ∧ (setCell c r s).gov = s.gov ∧
    (setCell c r s).seam = s.seam ∧ (setCell c r s).store = s.store ∧ (setCell c r s).port = s.port ∧
    (setCell c r s).pending = s.pending := by
  simp [setCell]

/-- A die record. -/
@[simp] theorem setDie_frame (d : Nat) (r : DieRec) :
    (setDie d r s).sup = s.sup ∧ (setDie d r s).rx = s.rx ∧ (setDie d r s).scan = s.scan ∧
    (setDie d r s).health.requests = s.health.requests ∧ (setDie d r s).health.cursor = s.health.cursor ∧
    (setDie d r s).health.plan = s.health.plan ∧ (setDie d r s).health.findings = s.health.findings ∧
    (setDie d r s).health.anomalyRun = s.health.anomalyRun ∧ (setDie d r s).health.anomalyDue = s.health.anomalyDue ∧
    (setDie d r s).map = s.map ∧ (setDie d r s).drive = s.drive ∧ (setDie d r s).conceal = s.conceal ∧
    (setDie d r s).gov = s.gov ∧ (setDie d r s).seam = s.seam ∧ (setDie d r s).store = s.store ∧
    (setDie d r s).port = s.port ∧ (setDie d r s).pending = s.pending := by
  simp [setDie]

/-- The start of a rebuild. -/
@[simp] theorem startRebuild_frame :
    (startRebuild s).sup = s.sup ∧ (startRebuild s).rx = s.rx ∧ (startRebuild s).scan = s.scan ∧
    (startRebuild s).health = s.health ∧ (startRebuild s).map = s.map ∧ (startRebuild s).drive = s.drive ∧
    (startRebuild s).conceal.active = s.conceal.active ∧ (startRebuild s).conceal.shadow = s.conceal.shadow ∧
    (startRebuild s).conceal.rerun = s.conceal.rerun ∧ (startRebuild s).conceal.k = s.conceal.k ∧
    (startRebuild s).conceal.far = s.conceal.far ∧ (startRebuild s).conceal.lastSent = s.conceal.lastSent ∧
    (startRebuild s).conceal.refresh = s.conceal.refresh ∧ (startRebuild s).conceal.mismatch = s.conceal.mismatch ∧
    (startRebuild s).gov = s.gov ∧ (startRebuild s).seam = s.seam ∧ (startRebuild s).store = s.store ∧
    (startRebuild s).port = s.port ∧ (startRebuild s).pending = s.pending := by
  simp [startRebuild]

/-- A rebuild trigger. -/
@[simp] theorem trigger_frame :
    (trigger s).sup = s.sup ∧ (trigger s).rx = s.rx ∧ (trigger s).scan = s.scan ∧ (trigger s).health = s.health ∧
    (trigger s).map = s.map ∧ (trigger s).drive = s.drive ∧ (trigger s).conceal.active = s.conceal.active ∧
    (trigger s).conceal.shadow = s.conceal.shadow ∧ (trigger s).conceal.k = s.conceal.k ∧
    (trigger s).conceal.far = s.conceal.far ∧ (trigger s).conceal.lastSent = s.conceal.lastSent ∧
    (trigger s).conceal.refresh = s.conceal.refresh ∧ (trigger s).conceal.mismatch = s.conceal.mismatch ∧
    (trigger s).gov = s.gov ∧ (trigger s).seam = s.seam ∧ (trigger s).store = s.store ∧ (trigger s).port = s.port ∧
    (trigger s).pending = s.pending := by
  and_intros <;> (unfold trigger; (repeat' split) <;> simp)

/-- A rebuild trigger, if there is one. -/
@[simp] theorem triggerIf_frame (b : Bool) :
    (triggerIf b s).sup = s.sup ∧ (triggerIf b s).rx = s.rx ∧ (triggerIf b s).scan = s.scan ∧
    (triggerIf b s).health = s.health ∧ (triggerIf b s).map = s.map ∧ (triggerIf b s).drive = s.drive ∧
    (triggerIf b s).conceal.active = s.conceal.active ∧ (triggerIf b s).conceal.shadow = s.conceal.shadow ∧
    (triggerIf b s).conceal.k = s.conceal.k ∧ (triggerIf b s).conceal.far = s.conceal.far ∧
    (triggerIf b s).conceal.lastSent = s.conceal.lastSent ∧ (triggerIf b s).conceal.refresh = s.conceal.refresh ∧
    (triggerIf b s).conceal.mismatch = s.conceal.mismatch ∧ (triggerIf b s).gov = s.gov ∧ (triggerIf b s).seam = s.seam ∧
    (triggerIf b s).store = s.store ∧ (triggerIf b s).port = s.port ∧ (triggerIf b s).pending = s.pending := by
  and_intros <;> (unfold triggerIf; (repeat' split) <;> simp)

/-- A cell's mark. -/
@[simp] theorem markDirty_frame (c : Nat) :
    (markDirty c s).sup = s.sup ∧ (markDirty c s).rx = s.rx ∧ (markDirty c s).scan = s.scan ∧
    (markDirty c s).health = s.health ∧ (markDirty c s).map = s.map ∧ (markDirty c s).drive = s.drive ∧
    (markDirty c s).conceal = s.conceal ∧ (markDirty c s).gov = s.gov ∧ (markDirty c s).seam = s.seam ∧
    (markDirty c s).store.factory = s.store.factory ∧ (markDirty c s).store.factoryCheckHi = s.store.factoryCheckHi ∧
    (markDirty c s).store.factoryCheckLo = s.store.factoryCheckLo ∧ (markDirty c s).store.slots = s.store.slots ∧
    (markDirty c s).store.settings = s.store.settings ∧ (markDirty c s).store.settingsDirty = s.store.settingsDirty ∧
    (markDirty c s).store.state = s.store.state ∧ (markDirty c s).store.inFlight = s.store.inFlight ∧
    (markDirty c s).store.cursor = s.store.cursor ∧ (markDirty c s).store.restartHold = s.store.restartHold ∧
    (markDirty c s).port = s.port ∧ (markDirty c s).pending = s.pending := by
  simp [markDirty]

/-- The settings mark. -/
@[simp] theorem markSettings_frame :
    (markSettings s).sup = s.sup ∧ (markSettings s).rx = s.rx ∧ (markSettings s).scan = s.scan ∧
    (markSettings s).health = s.health ∧ (markSettings s).map = s.map ∧ (markSettings s).drive = s.drive ∧
    (markSettings s).conceal = s.conceal ∧ (markSettings s).gov = s.gov ∧ (markSettings s).seam = s.seam ∧
    (markSettings s).store.factory = s.store.factory ∧ (markSettings s).store.factoryCheckHi = s.store.factoryCheckHi ∧
    (markSettings s).store.factoryCheckLo = s.store.factoryCheckLo ∧ (markSettings s).store.slots = s.store.slots ∧
    (markSettings s).store.settings = s.store.settings ∧ (markSettings s).store.dirty = s.store.dirty ∧
    (markSettings s).store.state = s.store.state ∧ (markSettings s).store.inFlight = s.store.inFlight ∧
    (markSettings s).store.cursor = s.store.cursor ∧ (markSettings s).store.restartHold = s.store.restartHold ∧
    (markSettings s).port = s.port ∧ (markSettings s).pending = s.pending := by
  simp [markSettings]

/-- The begin of a settings write. -/
@[simp] theorem beginSettings_frame :
    (beginSettings s).sup = s.sup ∧ (beginSettings s).rx = s.rx ∧ (beginSettings s).scan = s.scan ∧
    (beginSettings s).health = s.health ∧ (beginSettings s).map = s.map ∧ (beginSettings s).drive = s.drive ∧
    (beginSettings s).conceal = s.conceal ∧ (beginSettings s).gov = s.gov ∧ (beginSettings s).seam = s.seam ∧
    (beginSettings s).store.factory = s.store.factory ∧ (beginSettings s).store.factoryCheckHi = s.store.factoryCheckHi ∧
    (beginSettings s).store.factoryCheckLo = s.store.factoryCheckLo ∧ (beginSettings s).store.slots = s.store.slots ∧
    (beginSettings s).store.dirty = s.store.dirty ∧ (beginSettings s).store.cursor = s.store.cursor ∧
    (beginSettings s).store.restartHold = s.store.restartHold ∧ (beginSettings s).port = s.port ∧
    (beginSettings s).pending = s.pending := by
  simp [beginSettings]

/-- The begin of a slot write. -/
@[simp] theorem beginCell_frame (c : Nat) :
    (beginCell c s).sup = s.sup ∧ (beginCell c s).rx = s.rx ∧ (beginCell c s).scan = s.scan ∧
    (beginCell c s).health = s.health ∧ (beginCell c s).map = s.map ∧ (beginCell c s).drive = s.drive ∧
    (beginCell c s).conceal = s.conceal ∧ (beginCell c s).gov = s.gov ∧ (beginCell c s).seam = s.seam ∧
    (beginCell c s).store.factory = s.store.factory ∧ (beginCell c s).store.factoryCheckHi = s.store.factoryCheckHi ∧
    (beginCell c s).store.factoryCheckLo = s.store.factoryCheckLo ∧ (beginCell c s).store.settings = s.store.settings ∧
    (beginCell c s).store.settingsDirty = s.store.settingsDirty ∧ (beginCell c s).store.cursor = s.store.cursor ∧
    (beginCell c s).store.restartHold = s.store.restartHold ∧ (beginCell c s).port = s.port ∧
    (beginCell c s).pending = s.pending := by
  simp [beginCell]

/-- The test of R145 touches the store alone. -/
@[simp] theorem beginWrite_frame :
    (beginWrite s).sup = s.sup ∧ (beginWrite s).rx = s.rx ∧ (beginWrite s).scan = s.scan ∧ (beginWrite s).health = s.health ∧
    (beginWrite s).map = s.map ∧ (beginWrite s).drive = s.drive ∧ (beginWrite s).conceal = s.conceal ∧
    (beginWrite s).gov = s.gov ∧ (beginWrite s).seam = s.seam ∧ (beginWrite s).store.factory = s.store.factory ∧
    (beginWrite s).store.factoryCheckHi = s.store.factoryCheckHi ∧
    (beginWrite s).store.factoryCheckLo = s.store.factoryCheckLo ∧ (beginWrite s).store.cursor = s.store.cursor ∧
    (beginWrite s).store.restartHold = s.store.restartHold ∧ (beginWrite s).port = s.port ∧ (beginWrite s).pending = s.pending := by
  and_intros <;> (unfold beginWrite; (repeat' split) <;> simp)

/-- A cell event. -/
@[simp] theorem postEvent_frame (c : Nat) (cause : Cause) :
    (postEvent c cause s).sup = s.sup ∧ (postEvent c cause s).rx = s.rx ∧ (postEvent c cause s).scan = s.scan ∧
    (postEvent c cause s).health = s.health ∧ (postEvent c cause s).map = s.map ∧ (postEvent c cause s).drive = s.drive ∧
    (postEvent c cause s).conceal = s.conceal ∧ (postEvent c cause s).gov = s.gov ∧
    (postEvent c cause s).seam.own = s.seam.own ∧ (postEvent c cause s).seam.recv = s.seam.recv ∧
    (postEvent c cause s).seam.buffer = s.seam.buffer ∧ (postEvent c cause s).seam.count = s.seam.count ∧
    (postEvent c cause s).seam.lineBank = s.seam.lineBank ∧ (postEvent c cause s).seam.nextBank = s.seam.nextBank ∧
    (postEvent c cause s).seam.tx = s.seam.tx ∧ (postEvent c cause s).seam.mismatches = s.seam.mismatches ∧
    (postEvent c cause s).seam.clash = s.seam.clash ∧ (postEvent c cause s).seam.ownSent = s.seam.ownSent ∧
    (postEvent c cause s).store = s.store ∧ (postEvent c cause s).port.immediate = s.port.immediate ∧
    (postEvent c cause s).port.long = s.port.long ∧ (postEvent c cause s).port.request = s.port.request ∧
    (postEvent c cause s).port.refillCursor = s.port.refillCursor ∧ (postEvent c cause s).port.notice = s.port.notice ∧
    (postEvent c cause s).port.reraise = s.port.reraise ∧ (postEvent c cause s).pending = s.pending := by
  and_intros <;> (unfold postEvent; (repeat' split) <;> simp)

/-- The effects of a change. -/
@[simp] theorem changeEffects_frame (c : Nat) (cause : Cause) :
    (changeEffects c cause s).sup = s.sup ∧ (changeEffects c cause s).rx = s.rx ∧ (changeEffects c cause s).scan = s.scan ∧
    (changeEffects c cause s).health = s.health ∧ (changeEffects c cause s).map = s.map ∧
    (changeEffects c cause s).drive = s.drive ∧ (changeEffects c cause s).conceal = s.conceal ∧
    (changeEffects c cause s).gov = s.gov ∧ (changeEffects c cause s).seam.own = s.seam.own ∧
    (changeEffects c cause s).seam.recv = s.seam.recv ∧ (changeEffects c cause s).seam.buffer = s.seam.buffer ∧
    (changeEffects c cause s).seam.count = s.seam.count ∧ (changeEffects c cause s).seam.lineBank = s.seam.lineBank ∧
    (changeEffects c cause s).seam.nextBank = s.seam.nextBank ∧ (changeEffects c cause s).seam.tx = s.seam.tx ∧
    (changeEffects c cause s).seam.mismatches = s.seam.mismatches ∧ (changeEffects c cause s).seam.clash = s.seam.clash ∧
    (changeEffects c cause s).seam.ownSent = s.seam.ownSent ∧ (changeEffects c cause s).store.factory = s.store.factory ∧
    (changeEffects c cause s).store.factoryCheckHi = s.store.factoryCheckHi ∧
    (changeEffects c cause s).store.factoryCheckLo = s.store.factoryCheckLo ∧
    (changeEffects c cause s).store.slots = s.store.slots ∧ (changeEffects c cause s).store.settings = s.store.settings ∧
    (changeEffects c cause s).store.settingsDirty = s.store.settingsDirty ∧
    (changeEffects c cause s).store.state = s.store.state ∧ (changeEffects c cause s).store.inFlight = s.store.inFlight ∧
    (changeEffects c cause s).store.cursor = s.store.cursor ∧
    (changeEffects c cause s).store.restartHold = s.store.restartHold ∧
    (changeEffects c cause s).port.immediate = s.port.immediate ∧ (changeEffects c cause s).port.long = s.port.long ∧
    (changeEffects c cause s).port.request = s.port.request ∧
    (changeEffects c cause s).port.refillCursor = s.port.refillCursor ∧
    (changeEffects c cause s).port.notice = s.port.notice ∧ (changeEffects c cause s).port.reraise = s.port.reraise ∧
    (changeEffects c cause s).pending = s.pending := by
  simp [changeEffects]

/-- A change of a cell record. -/
@[simp] theorem changeCell_frame (c : Nat) (r : CellRec) (cause : Cause) :
    (changeCell c r cause s).sup = s.sup ∧ (changeCell c r cause s).rx = s.rx ∧ (changeCell c r cause s).scan = s.scan ∧
    (changeCell c r cause s).health = s.health ∧ (changeCell c r cause s).map.factoryGain = s.map.factoryGain ∧
    (changeCell c r cause s).drive = s.drive ∧ (changeCell c r cause s).conceal.active = s.conceal.active ∧
    (changeCell c r cause s).conceal.shadow = s.conceal.shadow ∧ (changeCell c r cause s).conceal.k = s.conceal.k ∧
    (changeCell c r cause s).conceal.far = s.conceal.far ∧ (changeCell c r cause s).conceal.lastSent = s.conceal.lastSent ∧
    (changeCell c r cause s).conceal.refresh = s.conceal.refresh ∧
    (changeCell c r cause s).conceal.mismatch = s.conceal.mismatch ∧ (changeCell c r cause s).gov = s.gov ∧
    (changeCell c r cause s).seam.own = s.seam.own ∧ (changeCell c r cause s).seam.recv = s.seam.recv ∧
    (changeCell c r cause s).seam.buffer = s.seam.buffer ∧ (changeCell c r cause s).seam.count = s.seam.count ∧
    (changeCell c r cause s).seam.lineBank = s.seam.lineBank ∧ (changeCell c r cause s).seam.nextBank = s.seam.nextBank ∧
    (changeCell c r cause s).seam.tx = s.seam.tx ∧ (changeCell c r cause s).seam.mismatches = s.seam.mismatches ∧
    (changeCell c r cause s).seam.clash = s.seam.clash ∧ (changeCell c r cause s).seam.ownSent = s.seam.ownSent ∧
    (changeCell c r cause s).store.factory = s.store.factory ∧
    (changeCell c r cause s).store.factoryCheckHi = s.store.factoryCheckHi ∧
    (changeCell c r cause s).store.factoryCheckLo = s.store.factoryCheckLo ∧
    (changeCell c r cause s).store.slots = s.store.slots ∧ (changeCell c r cause s).store.settings = s.store.settings ∧
    (changeCell c r cause s).store.settingsDirty = s.store.settingsDirty ∧
    (changeCell c r cause s).store.state = s.store.state ∧ (changeCell c r cause s).store.inFlight = s.store.inFlight ∧
    (changeCell c r cause s).store.cursor = s.store.cursor ∧
    (changeCell c r cause s).store.restartHold = s.store.restartHold ∧
    (changeCell c r cause s).port.immediate = s.port.immediate ∧ (changeCell c r cause s).port.long = s.port.long ∧
    (changeCell c r cause s).port.request = s.port.request ∧
    (changeCell c r cause s).port.refillCursor = s.port.refillCursor ∧ (changeCell c r cause s).port.notice = s.port.notice ∧
    (changeCell c r cause s).port.reraise = s.port.reraise ∧ (changeCell c r cause s).pending = s.pending := by
  simp [changeCell]

/-- A failure notice. -/
@[simp] theorem takeNotice_frame (d : Nat) :
    (takeNotice d s).sup = s.sup ∧ (takeNotice d s).rx = s.rx ∧ (takeNotice d s).scan = s.scan ∧
    (takeNotice d s).health = s.health ∧ (takeNotice d s).map.factoryGain = s.map.factoryGain ∧
    (takeNotice d s).drive = s.drive ∧ (takeNotice d s).conceal = s.conceal ∧ (takeNotice d s).gov = s.gov ∧
    (takeNotice d s).seam.own = s.seam.own ∧ (takeNotice d s).seam.recv = s.seam.recv ∧
    (takeNotice d s).seam.buffer = s.seam.buffer ∧ (takeNotice d s).seam.count = s.seam.count ∧
    (takeNotice d s).seam.lineBank = s.seam.lineBank ∧ (takeNotice d s).seam.nextBank = s.seam.nextBank ∧
    (takeNotice d s).seam.tx = s.seam.tx ∧ (takeNotice d s).seam.mismatches = s.seam.mismatches ∧
    (takeNotice d s).seam.clash = s.seam.clash ∧ (takeNotice d s).seam.ownSent = s.seam.ownSent ∧
    (takeNotice d s).store.factory = s.store.factory ∧ (takeNotice d s).store.factoryCheckHi = s.store.factoryCheckHi ∧
    (takeNotice d s).store.factoryCheckLo = s.store.factoryCheckLo ∧ (takeNotice d s).store.slots = s.store.slots ∧
    (takeNotice d s).store.settings = s.store.settings ∧ (takeNotice d s).store.settingsDirty = s.store.settingsDirty ∧
    (takeNotice d s).store.state = s.store.state ∧ (takeNotice d s).store.inFlight = s.store.inFlight ∧
    (takeNotice d s).store.cursor = s.store.cursor ∧ (takeNotice d s).store.restartHold = s.store.restartHold ∧
    (takeNotice d s).port.immediate = s.port.immediate ∧ (takeNotice d s).port.long = s.port.long ∧
    (takeNotice d s).port.request = s.port.request ∧ (takeNotice d s).port.refillCursor = s.port.refillCursor ∧
    (takeNotice d s).port.notice = s.port.notice ∧ (takeNotice d s).port.reraise = s.port.reraise ∧
    (takeNotice d s).pending = s.pending := by
  simp [takeNotice]

/-- The notices of an event, taken one after the other. -/
@[simp] theorem foldNotices_frame (ds : List Nat) :
    (ds.foldl (fun u d => takeNotice d u) s).sup = s.sup ∧ (ds.foldl (fun u d => takeNotice d u) s).rx = s.rx ∧
    (ds.foldl (fun u d => takeNotice d u) s).scan = s.scan ∧ (ds.foldl (fun u d => takeNotice d u) s).health = s.health ∧
    (ds.foldl (fun u d => takeNotice d u) s).map.factoryGain = s.map.factoryGain ∧
    (ds.foldl (fun u d => takeNotice d u) s).drive = s.drive ∧ (ds.foldl (fun u d => takeNotice d u) s).conceal = s.conceal ∧
    (ds.foldl (fun u d => takeNotice d u) s).gov = s.gov ∧ (ds.foldl (fun u d => takeNotice d u) s).seam.own = s.seam.own ∧
    (ds.foldl (fun u d => takeNotice d u) s).seam.recv = s.seam.recv ∧
    (ds.foldl (fun u d => takeNotice d u) s).seam.buffer = s.seam.buffer ∧
    (ds.foldl (fun u d => takeNotice d u) s).seam.count = s.seam.count ∧
    (ds.foldl (fun u d => takeNotice d u) s).seam.lineBank = s.seam.lineBank ∧
    (ds.foldl (fun u d => takeNotice d u) s).seam.nextBank = s.seam.nextBank ∧
    (ds.foldl (fun u d => takeNotice d u) s).seam.tx = s.seam.tx ∧
    (ds.foldl (fun u d => takeNotice d u) s).seam.mismatches = s.seam.mismatches ∧
    (ds.foldl (fun u d => takeNotice d u) s).seam.clash = s.seam.clash ∧
    (ds.foldl (fun u d => takeNotice d u) s).seam.ownSent = s.seam.ownSent ∧
    (ds.foldl (fun u d => takeNotice d u) s).store.factory = s.store.factory ∧
    (ds.foldl (fun u d => takeNotice d u) s).store.factoryCheckHi = s.store.factoryCheckHi ∧
    (ds.foldl (fun u d => takeNotice d u) s).store.factoryCheckLo = s.store.factoryCheckLo ∧
    (ds.foldl (fun u d => takeNotice d u) s).store.slots = s.store.slots ∧
    (ds.foldl (fun u d => takeNotice d u) s).store.settings = s.store.settings ∧
    (ds.foldl (fun u d => takeNotice d u) s).store.settingsDirty = s.store.settingsDirty ∧
    (ds.foldl (fun u d => takeNotice d u) s).store.state = s.store.state ∧
    (ds.foldl (fun u d => takeNotice d u) s).store.inFlight = s.store.inFlight ∧
    (ds.foldl (fun u d => takeNotice d u) s).store.cursor = s.store.cursor ∧
    (ds.foldl (fun u d => takeNotice d u) s).store.restartHold = s.store.restartHold ∧
    (ds.foldl (fun u d => takeNotice d u) s).port.immediate = s.port.immediate ∧
    (ds.foldl (fun u d => takeNotice d u) s).port.long = s.port.long ∧
    (ds.foldl (fun u d => takeNotice d u) s).port.request = s.port.request ∧
    (ds.foldl (fun u d => takeNotice d u) s).port.refillCursor = s.port.refillCursor ∧
    (ds.foldl (fun u d => takeNotice d u) s).port.notice = s.port.notice ∧
    (ds.foldl (fun u d => takeNotice d u) s).port.reraise = s.port.reraise ∧
    (ds.foldl (fun u d => takeNotice d u) s).pending = s.pending := by
  induction ds generalizing s with
  | nil => simp
  | cons d ds ih => simp [ih]

/-- The failure notices of an event. -/
@[simp] theorem takeNotices_frame (ds : List Nat) :
    (takeNotices ds s).sup = s.sup ∧ (takeNotices ds s).rx = s.rx ∧ (takeNotices ds s).scan = s.scan ∧
    (takeNotices ds s).health = s.health ∧ (takeNotices ds s).map.factoryGain = s.map.factoryGain ∧
    (takeNotices ds s).drive = s.drive ∧ (takeNotices ds s).conceal.active = s.conceal.active ∧
    (takeNotices ds s).conceal.shadow = s.conceal.shadow ∧ (takeNotices ds s).conceal.k = s.conceal.k ∧
    (takeNotices ds s).conceal.far = s.conceal.far ∧ (takeNotices ds s).conceal.lastSent = s.conceal.lastSent ∧
    (takeNotices ds s).conceal.refresh = s.conceal.refresh ∧ (takeNotices ds s).conceal.mismatch = s.conceal.mismatch ∧
    (takeNotices ds s).gov = s.gov ∧ (takeNotices ds s).seam.own = s.seam.own ∧ (takeNotices ds s).seam.recv = s.seam.recv ∧
    (takeNotices ds s).seam.buffer = s.seam.buffer ∧ (takeNotices ds s).seam.count = s.seam.count ∧
    (takeNotices ds s).seam.lineBank = s.seam.lineBank ∧ (takeNotices ds s).seam.nextBank = s.seam.nextBank ∧
    (takeNotices ds s).seam.tx = s.seam.tx ∧ (takeNotices ds s).seam.mismatches = s.seam.mismatches ∧
    (takeNotices ds s).seam.clash = s.seam.clash ∧ (takeNotices ds s).seam.ownSent = s.seam.ownSent ∧
    (takeNotices ds s).store.factory = s.store.factory ∧ (takeNotices ds s).store.factoryCheckHi = s.store.factoryCheckHi ∧
    (takeNotices ds s).store.factoryCheckLo = s.store.factoryCheckLo ∧ (takeNotices ds s).store.slots = s.store.slots ∧
    (takeNotices ds s).store.settings = s.store.settings ∧ (takeNotices ds s).store.settingsDirty = s.store.settingsDirty ∧
    (takeNotices ds s).store.state = s.store.state ∧ (takeNotices ds s).store.inFlight = s.store.inFlight ∧
    (takeNotices ds s).store.cursor = s.store.cursor ∧ (takeNotices ds s).store.restartHold = s.store.restartHold ∧
    (takeNotices ds s).port.immediate = s.port.immediate ∧ (takeNotices ds s).port.long = s.port.long ∧
    (takeNotices ds s).port.request = s.port.request ∧ (takeNotices ds s).port.refillCursor = s.port.refillCursor ∧
    (takeNotices ds s).port.notice = s.port.notice ∧ (takeNotices ds s).port.reraise = s.port.reraise ∧
    (takeNotices ds s).pending = s.pending := by
  simp [takeNotices]

/-- A judging event. -/
@[simp] theorem judgeLong_frame :
    (judgeLong s).sup = s.sup ∧ (judgeLong s).rx = s.rx ∧ (judgeLong s).scan = s.scan ∧ (judgeLong s).health = s.health ∧
    (judgeLong s).map = s.map ∧ (judgeLong s).drive = s.drive ∧ (judgeLong s).conceal = s.conceal ∧
    (judgeLong s).gov = s.gov ∧ (judgeLong s).seam.own = s.seam.own ∧ (judgeLong s).seam.recv = s.seam.recv ∧
    (judgeLong s).seam.buffer = s.seam.buffer ∧ (judgeLong s).seam.count = s.seam.count ∧
    (judgeLong s).seam.lineBank = s.seam.lineBank ∧ (judgeLong s).seam.nextBank = s.seam.nextBank ∧
    (judgeLong s).seam.tx = s.seam.tx ∧ (judgeLong s).seam.mismatches = s.seam.mismatches ∧
    (judgeLong s).seam.clash = s.seam.clash ∧ (judgeLong s).seam.ownSent = s.seam.ownSent ∧ (judgeLong s).store = s.store ∧
    (judgeLong s).port.immediate = s.port.immediate ∧ (judgeLong s).port.queue = s.port.queue ∧
    (judgeLong s).port.marks = s.port.marks ∧ (judgeLong s).port.refillCursor = s.port.refillCursor ∧
    (judgeLong s).port.notice = s.port.notice ∧ (judgeLong s).port.reraise = s.port.reraise ∧
    (judgeLong s).pending = s.pending := by
  and_intros <;> (unfold judgeLong; (repeat' split) <;> simp)

/-- What composition does at the owner. -/
@[simp] theorem afterCompose_frame (it : Item) :
    (afterCompose it s).sup = s.sup ∧ (afterCompose it s).rx = s.rx ∧ (afterCompose it s).scan = s.scan ∧
    (afterCompose it s).health = s.health ∧ (afterCompose it s).map = s.map ∧ (afterCompose it s).drive.clip = s.drive.clip ∧
    (afterCompose it s).drive.load = s.drive.load ∧ (afterCompose it s).conceal = s.conceal ∧
    (afterCompose it s).gov.peers = s.gov.peers ∧ (afterCompose it s).gov.factor = s.gov.factor ∧
    (afterCompose it s).gov.overFlag = s.gov.overFlag ∧ (afterCompose it s).gov.estimate = s.gov.estimate ∧
    (afterCompose it s).gov.limit = s.gov.limit ∧ (afterCompose it s).gov.counter = s.gov.counter ∧
    (afterCompose it s).seam = s.seam ∧ (afterCompose it s).store = s.store ∧
    (afterCompose it s).port.request = s.port.request ∧ (afterCompose it s).port.marks = s.port.marks ∧
    (afterCompose it s).port.refillCursor = s.port.refillCursor ∧ (afterCompose it s).port.notice = s.port.notice ∧
    (afterCompose it s).pending = s.pending := by
  and_intros <;> (unfold afterCompose; (repeat' split) <;> simp)

/-- Composition into the line bank. -/
@[simp] theorem composeLine_frame (it : Item) :
    (composeLine it s).sup = s.sup ∧ (composeLine it s).rx = s.rx ∧ (composeLine it s).scan = s.scan ∧
    (composeLine it s).health = s.health ∧ (composeLine it s).map = s.map ∧ (composeLine it s).drive.clip = s.drive.clip ∧
    (composeLine it s).drive.load = s.drive.load ∧ (composeLine it s).conceal = s.conceal ∧
    (composeLine it s).gov.peers = s.gov.peers ∧ (composeLine it s).gov.factor = s.gov.factor ∧
    (composeLine it s).gov.overFlag = s.gov.overFlag ∧ (composeLine it s).gov.estimate = s.gov.estimate ∧
    (composeLine it s).gov.limit = s.gov.limit ∧ (composeLine it s).gov.counter = s.gov.counter ∧
    (composeLine it s).seam.own = s.seam.own ∧ (composeLine it s).seam.recv = s.seam.recv ∧
    (composeLine it s).seam.buffer = s.seam.buffer ∧ (composeLine it s).seam.count = s.seam.count ∧
    (composeLine it s).seam.items = s.seam.items ∧ (composeLine it s).seam.nextBank = s.seam.nextBank ∧
    (composeLine it s).seam.tx = s.seam.tx ∧ (composeLine it s).seam.mismatches = s.seam.mismatches ∧
    (composeLine it s).seam.clash = s.seam.clash ∧ (composeLine it s).seam.ownSent = s.seam.ownSent ∧
    (composeLine it s).store = s.store ∧ (composeLine it s).port.request = s.port.request ∧
    (composeLine it s).port.marks = s.port.marks ∧ (composeLine it s).port.refillCursor = s.port.refillCursor ∧
    (composeLine it s).port.notice = s.port.notice ∧ (composeLine it s).pending = s.pending := by
  simp [composeLine]

/-- Composition into the next bank. -/
@[simp] theorem composeNext_frame (it : Item) :
    (composeNext it s).sup = s.sup ∧ (composeNext it s).rx = s.rx ∧ (composeNext it s).scan = s.scan ∧
    (composeNext it s).health = s.health ∧ (composeNext it s).map = s.map ∧ (composeNext it s).drive.clip = s.drive.clip ∧
    (composeNext it s).drive.load = s.drive.load ∧ (composeNext it s).conceal = s.conceal ∧
    (composeNext it s).gov.peers = s.gov.peers ∧ (composeNext it s).gov.factor = s.gov.factor ∧
    (composeNext it s).gov.overFlag = s.gov.overFlag ∧ (composeNext it s).gov.estimate = s.gov.estimate ∧
    (composeNext it s).gov.limit = s.gov.limit ∧ (composeNext it s).gov.counter = s.gov.counter ∧
    (composeNext it s).seam.own = s.seam.own ∧ (composeNext it s).seam.recv = s.seam.recv ∧
    (composeNext it s).seam.buffer = s.seam.buffer ∧ (composeNext it s).seam.count = s.seam.count ∧
    (composeNext it s).seam.items = s.seam.items ∧ (composeNext it s).seam.lineBank = s.seam.lineBank ∧
    (composeNext it s).seam.tx = s.seam.tx ∧ (composeNext it s).seam.mismatches = s.seam.mismatches ∧
    (composeNext it s).seam.clash = s.seam.clash ∧ (composeNext it s).seam.ownSent = s.seam.ownSent ∧
    (composeNext it s).store = s.store ∧ (composeNext it s).port.request = s.port.request ∧
    (composeNext it s).port.marks = s.port.marks ∧ (composeNext it s).port.refillCursor = s.port.refillCursor ∧
    (composeNext it s).port.notice = s.port.notice ∧ (composeNext it s).pending = s.pending := by
  simp [composeNext]

/-- The filling of a bank. -/
@[simp] theorem fillOne_frame :
    (fillOne s).sup = s.sup ∧ (fillOne s).rx = s.rx ∧ (fillOne s).scan = s.scan ∧ (fillOne s).health = s.health ∧
    (fillOne s).map = s.map ∧ (fillOne s).drive.clip = s.drive.clip ∧ (fillOne s).drive.load = s.drive.load ∧
    (fillOne s).conceal = s.conceal ∧ (fillOne s).gov.peers = s.gov.peers ∧ (fillOne s).gov.factor = s.gov.factor ∧
    (fillOne s).gov.overFlag = s.gov.overFlag ∧ (fillOne s).gov.estimate = s.gov.estimate ∧
    (fillOne s).gov.limit = s.gov.limit ∧ (fillOne s).gov.counter = s.gov.counter ∧ (fillOne s).seam.own = s.seam.own ∧
    (fillOne s).seam.recv = s.seam.recv ∧ (fillOne s).seam.buffer = s.seam.buffer ∧ (fillOne s).seam.count = s.seam.count ∧
    (fillOne s).seam.items = s.seam.items ∧ (fillOne s).seam.tx = s.seam.tx ∧
    (fillOne s).seam.mismatches = s.seam.mismatches ∧ (fillOne s).seam.clash = s.seam.clash ∧
    (fillOne s).seam.ownSent = s.seam.ownSent ∧ (fillOne s).store = s.store ∧ (fillOne s).port.request = s.port.request ∧
    (fillOne s).port.marks = s.port.marks ∧ (fillOne s).port.refillCursor = s.port.refillCursor ∧
    (fillOne s).port.notice = s.port.notice ∧ (fillOne s).pending = s.pending := by
  and_intros <;> (unfold fillOne; (repeat' split) <;> simp)

/-- The filling of the banks at the end of an event. -/
@[simp] theorem fillBanks_frame :
    (fillBanks s).sup = s.sup ∧ (fillBanks s).rx = s.rx ∧ (fillBanks s).scan = s.scan ∧ (fillBanks s).health = s.health ∧
    (fillBanks s).map = s.map ∧ (fillBanks s).drive.clip = s.drive.clip ∧ (fillBanks s).drive.load = s.drive.load ∧
    (fillBanks s).conceal = s.conceal ∧ (fillBanks s).gov.peers = s.gov.peers ∧ (fillBanks s).gov.factor = s.gov.factor ∧
    (fillBanks s).gov.overFlag = s.gov.overFlag ∧ (fillBanks s).gov.estimate = s.gov.estimate ∧
    (fillBanks s).gov.limit = s.gov.limit ∧ (fillBanks s).gov.counter = s.gov.counter ∧ (fillBanks s).seam.own = s.seam.own ∧
    (fillBanks s).seam.recv = s.seam.recv ∧ (fillBanks s).seam.buffer = s.seam.buffer ∧
    (fillBanks s).seam.count = s.seam.count ∧ (fillBanks s).seam.items = s.seam.items ∧ (fillBanks s).seam.tx = s.seam.tx ∧
    (fillBanks s).seam.mismatches = s.seam.mismatches ∧ (fillBanks s).seam.clash = s.seam.clash ∧
    (fillBanks s).seam.ownSent = s.seam.ownSent ∧ (fillBanks s).store = s.store ∧
    (fillBanks s).port.request = s.port.request ∧ (fillBanks s).port.marks = s.port.marks ∧
    (fillBanks s).port.refillCursor = s.port.refillCursor ∧ (fillBanks s).port.notice = s.port.notice ∧
    (fillBanks s).pending = s.pending := by
  simp [fillBanks]

/-- The end of an event that set marks or made items pending. -/
@[simp] theorem settle_frame :
    (settle s).sup = s.sup ∧ (settle s).rx = s.rx ∧ (settle s).scan = s.scan ∧ (settle s).health = s.health ∧
    (settle s).map = s.map ∧ (settle s).drive.clip = s.drive.clip ∧ (settle s).drive.load = s.drive.load ∧
    (settle s).conceal = s.conceal ∧ (settle s).gov.peers = s.gov.peers ∧ (settle s).gov.factor = s.gov.factor ∧
    (settle s).gov.overFlag = s.gov.overFlag ∧ (settle s).gov.estimate = s.gov.estimate ∧
    (settle s).gov.limit = s.gov.limit ∧ (settle s).gov.counter = s.gov.counter ∧ (settle s).seam.own = s.seam.own ∧
    (settle s).seam.recv = s.seam.recv ∧ (settle s).seam.buffer = s.seam.buffer ∧ (settle s).seam.count = s.seam.count ∧
    (settle s).seam.items = s.seam.items ∧ (settle s).seam.tx = s.seam.tx ∧ (settle s).seam.mismatches = s.seam.mismatches ∧
    (settle s).seam.clash = s.seam.clash ∧ (settle s).seam.ownSent = s.seam.ownSent ∧
    (settle s).store.factory = s.store.factory ∧ (settle s).store.factoryCheckHi = s.store.factoryCheckHi ∧
    (settle s).store.factoryCheckLo = s.store.factoryCheckLo ∧ (settle s).store.cursor = s.store.cursor ∧
    (settle s).store.restartHold = s.store.restartHold ∧ (settle s).port.request = s.port.request ∧
    (settle s).port.marks = s.port.marks ∧ (settle s).port.refillCursor = s.port.refillCursor ∧
    (settle s).port.notice = s.port.notice ∧ (settle s).pending = s.pending := by
  simp [settle]

/-- The return of the carried peak. -/
@[simp] theorem giveBack_frame :
    (giveBack s).sup = s.sup ∧ (giveBack s).rx = s.rx ∧ (giveBack s).scan = s.scan ∧ (giveBack s).health = s.health ∧
    (giveBack s).map = s.map ∧ (giveBack s).drive.clip = s.drive.clip ∧ (giveBack s).drive.load = s.drive.load ∧
    (giveBack s).conceal = s.conceal ∧ (giveBack s).gov.peers = s.gov.peers ∧ (giveBack s).gov.factor = s.gov.factor ∧
    (giveBack s).gov.overFlag = s.gov.overFlag ∧ (giveBack s).gov.estimate = s.gov.estimate ∧
    (giveBack s).gov.limit = s.gov.limit ∧ (giveBack s).gov.counter = s.gov.counter ∧ (giveBack s).seam = s.seam ∧
    (giveBack s).store = s.store ∧ (giveBack s).port = s.port ∧ (giveBack s).pending = s.pending := by
  simp [giveBack]

/-- The return of the carried peak, if there is one. -/
@[simp] theorem giveBackIf_frame (b : Bool) :
    (giveBackIf b s).sup = s.sup ∧ (giveBackIf b s).rx = s.rx ∧ (giveBackIf b s).scan = s.scan ∧
    (giveBackIf b s).health = s.health ∧ (giveBackIf b s).map = s.map ∧ (giveBackIf b s).drive.clip = s.drive.clip ∧
    (giveBackIf b s).drive.load = s.drive.load ∧ (giveBackIf b s).conceal = s.conceal ∧
    (giveBackIf b s).gov.peers = s.gov.peers ∧ (giveBackIf b s).gov.factor = s.gov.factor ∧
    (giveBackIf b s).gov.overFlag = s.gov.overFlag ∧ (giveBackIf b s).gov.estimate = s.gov.estimate ∧
    (giveBackIf b s).gov.limit = s.gov.limit ∧ (giveBackIf b s).gov.counter = s.gov.counter ∧
    (giveBackIf b s).seam = s.seam ∧ (giveBackIf b s).store = s.store ∧ (giveBackIf b s).port = s.port ∧
    (giveBackIf b s).pending = s.pending := by
  and_intros <;> (unfold giveBackIf; (repeat' split) <;> simp)

/-- The entry into CLASH. -/
@[simp] theorem enterClash_frame :
    (enterClash s).sup = s.sup ∧ (enterClash s).rx = s.rx ∧ (enterClash s).scan = s.scan ∧ (enterClash s).health = s.health ∧
    (enterClash s).map = s.map ∧ (enterClash s).drive.clip = s.drive.clip ∧ (enterClash s).drive.load = s.drive.load ∧
    (enterClash s).conceal = s.conceal ∧ (enterClash s).gov.peers = s.gov.peers ∧ (enterClash s).gov.factor = s.gov.factor ∧
    (enterClash s).gov.overFlag = s.gov.overFlag ∧ (enterClash s).gov.estimate = s.gov.estimate ∧
    (enterClash s).gov.limit = s.gov.limit ∧ (enterClash s).gov.counter = s.gov.counter ∧
    (enterClash s).seam.own = s.seam.own ∧ (enterClash s).seam.recv = s.seam.recv ∧
    (enterClash s).seam.buffer = s.seam.buffer ∧ (enterClash s).seam.count = s.seam.count ∧
    (enterClash s).seam.items = s.seam.items ∧ (enterClash s).seam.mismatches = s.seam.mismatches ∧
    (enterClash s).seam.ownSent = s.seam.ownSent ∧ (enterClash s).store = s.store ∧ (enterClash s).port = s.port ∧
    (enterClash s).pending = s.pending := by
  and_intros <;> (unfold enterClash; (repeat' split) <;> simp)

/-- Recomposition in the line bank. -/
@[simp] theorem recompose_frame :
    (recompose s).sup = s.sup ∧ (recompose s).rx = s.rx ∧ (recompose s).scan = s.scan ∧ (recompose s).health = s.health ∧
    (recompose s).map = s.map ∧ (recompose s).drive.clip = s.drive.clip ∧ (recompose s).drive.load = s.drive.load ∧
    (recompose s).conceal = s.conceal ∧ (recompose s).gov.peers = s.gov.peers ∧ (recompose s).gov.factor = s.gov.factor ∧
    (recompose s).gov.overFlag = s.gov.overFlag ∧ (recompose s).gov.estimate = s.gov.estimate ∧
    (recompose s).gov.limit = s.gov.limit ∧ (recompose s).gov.counter = s.gov.counter ∧ (recompose s).seam.own = s.seam.own ∧
    (recompose s).seam.recv = s.seam.recv ∧ (recompose s).seam.buffer = s.seam.buffer ∧
    (recompose s).seam.count = s.seam.count ∧ (recompose s).seam.items = s.seam.items ∧
    (recompose s).seam.nextBank = s.seam.nextBank ∧ (recompose s).seam.tx = s.seam.tx ∧
    (recompose s).seam.mismatches = s.seam.mismatches ∧ (recompose s).seam.clash = s.seam.clash ∧
    (recompose s).seam.ownSent = s.seam.ownSent ∧ (recompose s).store = s.store ∧
    (recompose s).port.request = s.port.request ∧ (recompose s).port.marks = s.port.marks ∧
    (recompose s).port.refillCursor = s.port.refillCursor ∧ (recompose s).port.notice = s.port.notice ∧
    (recompose s).pending = s.pending := by
  and_intros <;> (unfold recompose; (repeat' split) <;> simp)

/-- The end of an attempt. -/
@[simp] theorem txQuiet_frame :
    (txQuiet s).sup = s.sup ∧ (txQuiet s).rx = s.rx ∧ (txQuiet s).scan = s.scan ∧ (txQuiet s).health = s.health ∧
    (txQuiet s).map = s.map ∧ (txQuiet s).drive = s.drive ∧ (txQuiet s).conceal = s.conceal ∧ (txQuiet s).gov = s.gov ∧
    (txQuiet s).seam.own = s.seam.own ∧ (txQuiet s).seam.recv = s.seam.recv ∧ (txQuiet s).seam.buffer = s.seam.buffer ∧
    (txQuiet s).seam.count = s.seam.count ∧ (txQuiet s).seam.items = s.seam.items ∧
    (txQuiet s).seam.lineBank = s.seam.lineBank ∧ (txQuiet s).seam.nextBank = s.seam.nextBank ∧
    (txQuiet s).seam.mismatches = s.seam.mismatches ∧ (txQuiet s).seam.clash = s.seam.clash ∧
    (txQuiet s).seam.ownSent = s.seam.ownSent ∧ (txQuiet s).store = s.store ∧ (txQuiet s).port = s.port ∧
    (txQuiet s).pending = s.pending := by
  simp [txQuiet]

end Sys2Proof.Machine
end

