-- ==== Sys2Proof/Laws/BoundaryFrames.lean ====
section
/-! SUPPORT. Frame lemmas of the boundary work of the blocks: what each leaves unchanged, as one simp lemma for each operation. -/

namespace Sys2Proof.Machine

variable (s : State)

/-- BLANK_FLAG_CLEAR. -/
@[simp] theorem takeBlankClear_frame :
    (takeBlankClear s).sup = s.sup ∧ (takeBlankClear s).rx = s.rx ∧ (takeBlankClear s).scan.position = s.scan.position ∧
    (takeBlankClear s).scan.chanP = s.scan.chanP ∧ (takeBlankClear s).scan.chanS = s.scan.chanS ∧
    (takeBlankClear s).scan.marker = s.scan.marker ∧ (takeBlankClear s).scan.slot = s.scan.slot ∧
    (takeBlankClear s).health = s.health ∧ (takeBlankClear s).map = s.map ∧ (takeBlankClear s).drive = s.drive ∧
    (takeBlankClear s).conceal = s.conceal ∧ (takeBlankClear s).gov = s.gov ∧ (takeBlankClear s).seam.own = s.seam.own ∧
    (takeBlankClear s).seam.recv = s.seam.recv ∧ (takeBlankClear s).seam.buffer = s.seam.buffer ∧
    (takeBlankClear s).seam.count = s.seam.count ∧ (takeBlankClear s).seam.lineBank = s.seam.lineBank ∧
    (takeBlankClear s).seam.nextBank = s.seam.nextBank ∧ (takeBlankClear s).seam.tx = s.seam.tx ∧
    (takeBlankClear s).seam.mismatches = s.seam.mismatches ∧ (takeBlankClear s).seam.clash = s.seam.clash ∧
    (takeBlankClear s).seam.ownSent = s.seam.ownSent ∧ (takeBlankClear s).store = s.store ∧
    (takeBlankClear s).port.immediate = s.port.immediate ∧ (takeBlankClear s).port.long = s.port.long ∧
    (takeBlankClear s).port.request = s.port.request ∧ (takeBlankClear s).port.queue = s.port.queue ∧
    (takeBlankClear s).port.marks = s.port.marks ∧ (takeBlankClear s).port.refillCursor = s.port.refillCursor ∧
    (takeBlankClear s).pending = s.pending := by
  and_intros <;> (unfold takeBlankClear; (repeat' split) <;> simp)

/-- The judgement of the period. -/
@[simp] theorem judgePeriod_frame (t : Taking) :
    (judgePeriod t s).sup = s.sup ∧ (judgePeriod t s).rx = s.rx ∧ (judgePeriod t s).scan.position = s.scan.position ∧
    (judgePeriod t s).scan.chanP = s.scan.chanP ∧ (judgePeriod t s).scan.chanS = s.scan.chanS ∧
    (judgePeriod t s).scan.slot = s.scan.slot ∧ (judgePeriod t s).health = s.health ∧ (judgePeriod t s).map = s.map ∧
    (judgePeriod t s).drive = s.drive ∧ (judgePeriod t s).conceal = s.conceal ∧ (judgePeriod t s).gov = s.gov ∧
    (judgePeriod t s).seam.own = s.seam.own ∧ (judgePeriod t s).seam.recv = s.seam.recv ∧
    (judgePeriod t s).seam.buffer = s.seam.buffer ∧ (judgePeriod t s).seam.count = s.seam.count ∧
    (judgePeriod t s).seam.lineBank = s.seam.lineBank ∧ (judgePeriod t s).seam.nextBank = s.seam.nextBank ∧
    (judgePeriod t s).seam.tx = s.seam.tx ∧ (judgePeriod t s).seam.mismatches = s.seam.mismatches ∧
    (judgePeriod t s).seam.clash = s.seam.clash ∧ (judgePeriod t s).seam.ownSent = s.seam.ownSent ∧
    (judgePeriod t s).store = s.store ∧ (judgePeriod t s).port.immediate = s.port.immediate ∧
    (judgePeriod t s).port.long = s.port.long ∧ (judgePeriod t s).port.request = s.port.request ∧
    (judgePeriod t s).port.queue = s.port.queue ∧ (judgePeriod t s).port.marks = s.port.marks ∧
    (judgePeriod t s).port.refillCursor = s.port.refillCursor ∧ (judgePeriod t s).pending = s.pending := by
  cases t <;> simp [judgePeriod, takeIf]

/-- ANOMALY_RUN_NOTICE. -/
@[simp] theorem takeAnomalyNotice_frame :
    (takeAnomalyNotice s).sup = s.sup ∧ (takeAnomalyNotice s).rx = s.rx ∧ (takeAnomalyNotice s).scan = s.scan ∧
    (takeAnomalyNotice s).health.dies = s.health.dies ∧ (takeAnomalyNotice s).health.requests = s.health.requests ∧
    (takeAnomalyNotice s).health.cursor = s.health.cursor ∧ (takeAnomalyNotice s).health.plan = s.health.plan ∧
    (takeAnomalyNotice s).health.findings = s.health.findings ∧
    (takeAnomalyNotice s).health.anomalyRun = s.health.anomalyRun ∧ (takeAnomalyNotice s).map = s.map ∧
    (takeAnomalyNotice s).drive = s.drive ∧ (takeAnomalyNotice s).conceal = s.conceal ∧ (takeAnomalyNotice s).gov = s.gov ∧
    (takeAnomalyNotice s).seam.own = s.seam.own ∧ (takeAnomalyNotice s).seam.recv = s.seam.recv ∧
    (takeAnomalyNotice s).seam.buffer = s.seam.buffer ∧ (takeAnomalyNotice s).seam.count = s.seam.count ∧
    (takeAnomalyNotice s).seam.lineBank = s.seam.lineBank ∧ (takeAnomalyNotice s).seam.nextBank = s.seam.nextBank ∧
    (takeAnomalyNotice s).seam.tx = s.seam.tx ∧ (takeAnomalyNotice s).seam.mismatches = s.seam.mismatches ∧
    (takeAnomalyNotice s).seam.clash = s.seam.clash ∧ (takeAnomalyNotice s).seam.ownSent = s.seam.ownSent ∧
    (takeAnomalyNotice s).store = s.store ∧ (takeAnomalyNotice s).port.immediate = s.port.immediate ∧
    (takeAnomalyNotice s).port.long = s.port.long ∧ (takeAnomalyNotice s).port.request = s.port.request ∧
    (takeAnomalyNotice s).port.queue = s.port.queue ∧ (takeAnomalyNotice s).port.marks = s.port.marks ∧
    (takeAnomalyNotice s).port.refillCursor = s.port.refillCursor ∧ (takeAnomalyNotice s).pending = s.pending := by
  and_intros <;> (unfold takeAnomalyNotice; (repeat' split) <;> simp)

/-- The Health Monitor's boundary work. -/
@[simp] theorem healthBoundary_frame (t : Taking) :
    (healthBoundary t s).sup = s.sup ∧ (healthBoundary t s).rx = s.rx ∧ (healthBoundary t s).scan = s.scan ∧
    (healthBoundary t s).health.requests = s.health.requests ∧ (healthBoundary t s).health.cursor = s.health.cursor ∧
    (healthBoundary t s).map = s.map ∧ (healthBoundary t s).drive = s.drive ∧ (healthBoundary t s).conceal = s.conceal ∧
    (healthBoundary t s).gov = s.gov ∧ (healthBoundary t s).seam.own = s.seam.own ∧
    (healthBoundary t s).seam.recv = s.seam.recv ∧ (healthBoundary t s).seam.buffer = s.seam.buffer ∧
    (healthBoundary t s).seam.count = s.seam.count ∧ (healthBoundary t s).seam.lineBank = s.seam.lineBank ∧
    (healthBoundary t s).seam.nextBank = s.seam.nextBank ∧ (healthBoundary t s).seam.tx = s.seam.tx ∧
    (healthBoundary t s).seam.mismatches = s.seam.mismatches ∧ (healthBoundary t s).seam.clash = s.seam.clash ∧
    (healthBoundary t s).seam.ownSent = s.seam.ownSent ∧ (healthBoundary t s).store = s.store ∧
    (healthBoundary t s).port.immediate = s.port.immediate ∧ (healthBoundary t s).port.long = s.port.long ∧
    (healthBoundary t s).port.request = s.port.request ∧ (healthBoundary t s).port.queue = s.port.queue ∧
    (healthBoundary t s).port.marks = s.port.marks ∧ (healthBoundary t s).port.refillCursor = s.port.refillCursor ∧
    (healthBoundary t s).pending = s.pending := by
  cases t <;> simp [healthBoundary, takeIf]

/-- EDGE notices becoming pending. -/
@[simp] theorem pendEdges_frame (p : Edge → Bool) :
    (pendEdges p s).sup = s.sup ∧ (pendEdges p s).rx = s.rx ∧ (pendEdges p s).scan = s.scan ∧
    (pendEdges p s).health = s.health ∧ (pendEdges p s).map = s.map ∧ (pendEdges p s).drive = s.drive ∧
    (pendEdges p s).conceal = s.conceal ∧ (pendEdges p s).gov = s.gov ∧ (pendEdges p s).seam.own = s.seam.own ∧
    (pendEdges p s).seam.recv = s.seam.recv ∧ (pendEdges p s).seam.buffer = s.seam.buffer ∧
    (pendEdges p s).seam.count = s.seam.count ∧ (pendEdges p s).seam.lineBank = s.seam.lineBank ∧
    (pendEdges p s).seam.nextBank = s.seam.nextBank ∧ (pendEdges p s).seam.tx = s.seam.tx ∧
    (pendEdges p s).seam.mismatches = s.seam.mismatches ∧ (pendEdges p s).seam.clash = s.seam.clash ∧
    (pendEdges p s).seam.ownSent = s.seam.ownSent ∧ (pendEdges p s).store = s.store ∧ (pendEdges p s).port = s.port ∧
    (pendEdges p s).pending = s.pending := by
  simp [pendEdges]

/-- The exchange of the tables. -/
@[simp] theorem swapTables_frame :
    (swapTables s).sup = s.sup ∧ (swapTables s).rx = s.rx ∧ (swapTables s).scan = s.scan ∧ (swapTables s).health = s.health ∧
    (swapTables s).map = s.map ∧ (swapTables s).drive = s.drive ∧ (swapTables s).conceal.rerun = s.conceal.rerun ∧
    (swapTables s).conceal.k = s.conceal.k ∧ (swapTables s).conceal.far = s.conceal.far ∧
    (swapTables s).conceal.lastSent = s.conceal.lastSent ∧ (swapTables s).conceal.refresh = s.conceal.refresh ∧
    (swapTables s).conceal.mismatch = s.conceal.mismatch ∧ (swapTables s).gov = s.gov ∧ (swapTables s).seam = s.seam ∧
    (swapTables s).store = s.store ∧ (swapTables s).port = s.port ∧ (swapTables s).pending = s.pending := by
  simp [swapTables]

/-- The start of a rerun. -/
@[simp] theorem startRerun_frame :
    (startRerun s).sup = s.sup ∧ (startRerun s).rx = s.rx ∧ (startRerun s).scan = s.scan ∧ (startRerun s).health = s.health ∧
    (startRerun s).map = s.map ∧ (startRerun s).drive = s.drive ∧ (startRerun s).conceal.active = s.conceal.active ∧
    (startRerun s).conceal.shadow = s.conceal.shadow ∧ (startRerun s).conceal.k = s.conceal.k ∧
    (startRerun s).conceal.far = s.conceal.far ∧ (startRerun s).conceal.lastSent = s.conceal.lastSent ∧
    (startRerun s).conceal.refresh = s.conceal.refresh ∧ (startRerun s).conceal.mismatch = s.conceal.mismatch ∧
    (startRerun s).gov = s.gov ∧ (startRerun s).seam = s.seam ∧ (startRerun s).store = s.store ∧
    (startRerun s).port = s.port ∧ (startRerun s).pending = s.pending := by
  and_intros <;> (unfold startRerun; (repeat' split) <;> simp)

/-- The comparison of an installation. -/
@[simp] theorem compareEdges_frame :
    (compareEdges s).sup = s.sup ∧ (compareEdges s).rx = s.rx ∧ (compareEdges s).scan = s.scan ∧
    (compareEdges s).health = s.health ∧ (compareEdges s).map = s.map ∧ (compareEdges s).drive = s.drive ∧
    (compareEdges s).conceal = s.conceal ∧ (compareEdges s).gov = s.gov ∧ (compareEdges s).seam.own = s.seam.own ∧
    (compareEdges s).seam.recv = s.seam.recv ∧ (compareEdges s).seam.buffer = s.seam.buffer ∧
    (compareEdges s).seam.count = s.seam.count ∧ (compareEdges s).seam.lineBank = s.seam.lineBank ∧
    (compareEdges s).seam.nextBank = s.seam.nextBank ∧ (compareEdges s).seam.tx = s.seam.tx ∧
    (compareEdges s).seam.mismatches = s.seam.mismatches ∧ (compareEdges s).seam.clash = s.seam.clash ∧
    (compareEdges s).seam.ownSent = s.seam.ownSent ∧ (compareEdges s).store = s.store ∧ (compareEdges s).port = s.port ∧
    (compareEdges s).pending = s.pending := by
  and_intros <;> (unfold compareEdges; (repeat' split) <;> simp)

/-- An installation. -/
@[simp] theorem install_frame :
    (install s).sup = s.sup ∧ (install s).rx = s.rx ∧ (install s).scan = s.scan ∧ (install s).health = s.health ∧
    (install s).map = s.map ∧ (install s).drive = s.drive ∧ (install s).conceal.k = s.conceal.k ∧
    (install s).conceal.far = s.conceal.far ∧ (install s).conceal.lastSent = s.conceal.lastSent ∧
    (install s).conceal.refresh = s.conceal.refresh ∧ (install s).conceal.mismatch = s.conceal.mismatch ∧
    (install s).gov = s.gov ∧ (install s).seam.own = s.seam.own ∧ (install s).seam.recv = s.seam.recv ∧
    (install s).seam.buffer = s.seam.buffer ∧ (install s).seam.count = s.seam.count ∧
    (install s).seam.lineBank = s.seam.lineBank ∧ (install s).seam.nextBank = s.seam.nextBank ∧
    (install s).seam.tx = s.seam.tx ∧ (install s).seam.mismatches = s.seam.mismatches ∧
    (install s).seam.clash = s.seam.clash ∧ (install s).seam.ownSent = s.seam.ownSent ∧ (install s).store = s.store ∧
    (install s).port = s.port ∧ (install s).pending = s.pending := by
  and_intros <;> (unfold install; (repeat' split) <;> simp)

/-- FAR_EDGE_EXPIRY. -/
@[simp] theorem takeFarExpiry_frame :
    (takeFarExpiry s).sup = s.sup ∧ (takeFarExpiry s).rx = s.rx ∧ (takeFarExpiry s).scan = s.scan ∧
    (takeFarExpiry s).health = s.health ∧ (takeFarExpiry s).map = s.map ∧ (takeFarExpiry s).drive = s.drive ∧
    (takeFarExpiry s).conceal.active = s.conceal.active ∧ (takeFarExpiry s).conceal.shadow = s.conceal.shadow ∧
    (takeFarExpiry s).conceal.k = s.conceal.k ∧ (takeFarExpiry s).conceal.lastSent = s.conceal.lastSent ∧
    (takeFarExpiry s).conceal.refresh = s.conceal.refresh ∧ (takeFarExpiry s).conceal.mismatch = s.conceal.mismatch ∧
    (takeFarExpiry s).gov = s.gov ∧ (takeFarExpiry s).seam = s.seam ∧ (takeFarExpiry s).store = s.store ∧
    (takeFarExpiry s).port = s.port ∧ (takeFarExpiry s).pending = s.pending := by
  simp [takeFarExpiry]

/-- The ageing of the far-edge records. -/
@[simp] theorem farBoundary_frame (t : Taking) :
    (farBoundary t s).sup = s.sup ∧ (farBoundary t s).rx = s.rx ∧ (farBoundary t s).scan = s.scan ∧
    (farBoundary t s).health = s.health ∧ (farBoundary t s).map = s.map ∧ (farBoundary t s).drive = s.drive ∧
    (farBoundary t s).conceal.active = s.conceal.active ∧ (farBoundary t s).conceal.shadow = s.conceal.shadow ∧
    (farBoundary t s).conceal.k = s.conceal.k ∧ (farBoundary t s).conceal.lastSent = s.conceal.lastSent ∧
    (farBoundary t s).conceal.refresh = s.conceal.refresh ∧ (farBoundary t s).conceal.mismatch = s.conceal.mismatch ∧
    (farBoundary t s).gov = s.gov ∧ (farBoundary t s).seam = s.seam ∧ (farBoundary t s).store = s.store ∧
    (farBoundary t s).port = s.port ∧ (farBoundary t s).pending = s.pending := by
  cases t <;> simp [farBoundary, takeIf]

/-- EDGE_REFRESH. -/
@[simp] theorem takeEdgeRefresh_frame :
    (takeEdgeRefresh s).sup = s.sup ∧ (takeEdgeRefresh s).rx = s.rx ∧ (takeEdgeRefresh s).scan = s.scan ∧
    (takeEdgeRefresh s).health = s.health ∧ (takeEdgeRefresh s).map = s.map ∧ (takeEdgeRefresh s).drive = s.drive ∧
    (takeEdgeRefresh s).conceal.active = s.conceal.active ∧ (takeEdgeRefresh s).conceal.shadow = s.conceal.shadow ∧
    (takeEdgeRefresh s).conceal.rebuild = s.conceal.rebuild ∧ (takeEdgeRefresh s).conceal.rerun = s.conceal.rerun ∧
    (takeEdgeRefresh s).conceal.k = s.conceal.k ∧ (takeEdgeRefresh s).conceal.far = s.conceal.far ∧
    (takeEdgeRefresh s).conceal.lastSent = s.conceal.lastSent ∧ (takeEdgeRefresh s).conceal.mismatch = s.conceal.mismatch ∧
    (takeEdgeRefresh s).gov = s.gov ∧ (takeEdgeRefresh s).seam.own = s.seam.own ∧
    (takeEdgeRefresh s).seam.recv = s.seam.recv ∧ (takeEdgeRefresh s).seam.buffer = s.seam.buffer ∧
    (takeEdgeRefresh s).seam.count = s.seam.count ∧ (takeEdgeRefresh s).seam.lineBank = s.seam.lineBank ∧
    (takeEdgeRefresh s).seam.nextBank = s.seam.nextBank ∧ (takeEdgeRefresh s).seam.tx = s.seam.tx ∧
    (takeEdgeRefresh s).seam.mismatches = s.seam.mismatches ∧ (takeEdgeRefresh s).seam.clash = s.seam.clash ∧
    (takeEdgeRefresh s).seam.ownSent = s.seam.ownSent ∧ (takeEdgeRefresh s).store = s.store ∧
    (takeEdgeRefresh s).port = s.port ∧ (takeEdgeRefresh s).pending = s.pending := by
  and_intros <;> (unfold takeEdgeRefresh; (repeat' split) <;> simp)

/-- The step of the refresh count. -/
@[simp] theorem refreshBoundary_frame (t : Taking) :
    (refreshBoundary t s).sup = s.sup ∧ (refreshBoundary t s).rx = s.rx ∧ (refreshBoundary t s).scan = s.scan ∧
    (refreshBoundary t s).health = s.health ∧ (refreshBoundary t s).map = s.map ∧ (refreshBoundary t s).drive = s.drive ∧
    (refreshBoundary t s).conceal.active = s.conceal.active ∧ (refreshBoundary t s).conceal.shadow = s.conceal.shadow ∧
    (refreshBoundary t s).conceal.rebuild = s.conceal.rebuild ∧ (refreshBoundary t s).conceal.rerun = s.conceal.rerun ∧
    (refreshBoundary t s).conceal.k = s.conceal.k ∧ (refreshBoundary t s).conceal.far = s.conceal.far ∧
    (refreshBoundary t s).conceal.lastSent = s.conceal.lastSent ∧
    (refreshBoundary t s).conceal.mismatch = s.conceal.mismatch ∧ (refreshBoundary t s).gov = s.gov ∧
    (refreshBoundary t s).seam.own = s.seam.own ∧ (refreshBoundary t s).seam.recv = s.seam.recv ∧
    (refreshBoundary t s).seam.buffer = s.seam.buffer ∧ (refreshBoundary t s).seam.count = s.seam.count ∧
    (refreshBoundary t s).seam.lineBank = s.seam.lineBank ∧ (refreshBoundary t s).seam.nextBank = s.seam.nextBank ∧
    (refreshBoundary t s).seam.tx = s.seam.tx ∧ (refreshBoundary t s).seam.mismatches = s.seam.mismatches ∧
    (refreshBoundary t s).seam.clash = s.seam.clash ∧ (refreshBoundary t s).seam.ownSent = s.seam.ownSent ∧
    (refreshBoundary t s).store = s.store ∧ (refreshBoundary t s).port = s.port ∧ (refreshBoundary t s).pending = s.pending := by
  cases t <;> and_intros <;> (simp only [refreshBoundary, takeIf]; split <;> simp)

/-- The computation and its hand-over. -/
@[simp] theorem driveBoundary_frame :
    (driveBoundary s).sup = s.sup ∧ (driveBoundary s).rx = s.rx ∧ (driveBoundary s).scan.blank = s.scan.blank ∧
    (driveBoundary s).scan.marker = s.scan.marker ∧ (driveBoundary s).scan.runCount = s.scan.runCount ∧
    (driveBoundary s).health = s.health ∧ (driveBoundary s).map = s.map ∧ (driveBoundary s).conceal = s.conceal ∧
    (driveBoundary s).gov = s.gov ∧ (driveBoundary s).seam = s.seam ∧ (driveBoundary s).store = s.store ∧
    (driveBoundary s).port = s.port ∧ (driveBoundary s).pending = s.pending := by
  simp [driveBoundary]

/-- PEER_ENTRY_EXPIRY. -/
@[simp] theorem takePeerExpiry_frame :
    (takePeerExpiry s).sup = s.sup ∧ (takePeerExpiry s).rx = s.rx ∧ (takePeerExpiry s).scan = s.scan ∧
    (takePeerExpiry s).health = s.health ∧ (takePeerExpiry s).map = s.map ∧ (takePeerExpiry s).drive = s.drive ∧
    (takePeerExpiry s).conceal = s.conceal ∧ (takePeerExpiry s).gov.factor = s.gov.factor ∧
    (takePeerExpiry s).gov.overFlag = s.gov.overFlag ∧ (takePeerExpiry s).gov.estimate = s.gov.estimate ∧
    (takePeerExpiry s).gov.limit = s.gov.limit ∧ (takePeerExpiry s).gov.counter = s.gov.counter ∧
    (takePeerExpiry s).gov.carried = s.gov.carried ∧ (takePeerExpiry s).seam = s.seam ∧ (takePeerExpiry s).store = s.store ∧
    (takePeerExpiry s).port = s.port ∧ (takePeerExpiry s).pending = s.pending := by
  simp [takePeerExpiry]

/-- The ageing of the peer entries. -/
@[simp] theorem agePeers_frame (t : Taking) :
    (agePeers t s).sup = s.sup ∧ (agePeers t s).rx = s.rx ∧ (agePeers t s).scan = s.scan ∧ (agePeers t s).health = s.health ∧
    (agePeers t s).map = s.map ∧ (agePeers t s).drive = s.drive ∧ (agePeers t s).conceal = s.conceal ∧
    (agePeers t s).gov.factor = s.gov.factor ∧ (agePeers t s).gov.overFlag = s.gov.overFlag ∧
    (agePeers t s).gov.estimate = s.gov.estimate ∧ (agePeers t s).gov.limit = s.gov.limit ∧
    (agePeers t s).gov.counter = s.gov.counter ∧ (agePeers t s).gov.carried = s.gov.carried ∧ (agePeers t s).seam = s.seam ∧
    (agePeers t s).store = s.store ∧ (agePeers t s).port = s.port ∧ (agePeers t s).pending = s.pending := by
  cases t <;> simp [agePeers, takeIf]

/-- The governor step. -/
@[simp] theorem governorStep_frame :
    (governorStep s).sup = s.sup ∧ (governorStep s).rx = s.rx ∧ (governorStep s).scan = s.scan ∧
    (governorStep s).health = s.health ∧ (governorStep s).map = s.map ∧ (governorStep s).drive = s.drive ∧
    (governorStep s).conceal = s.conceal ∧ (governorStep s).gov.peers = s.gov.peers ∧
    (governorStep s).gov.limit = s.gov.limit ∧ (governorStep s).gov.counter = s.gov.counter ∧
    (governorStep s).gov.carried = s.gov.carried ∧ (governorStep s).seam.own = s.seam.own ∧
    (governorStep s).seam.recv = s.seam.recv ∧ (governorStep s).seam.buffer = s.seam.buffer ∧
    (governorStep s).seam.count = s.seam.count ∧ (governorStep s).seam.lineBank = s.seam.lineBank ∧
    (governorStep s).seam.nextBank = s.seam.nextBank ∧ (governorStep s).seam.tx = s.seam.tx ∧
    (governorStep s).seam.mismatches = s.seam.mismatches ∧ (governorStep s).seam.clash = s.seam.clash ∧
    (governorStep s).seam.ownSent = s.seam.ownSent ∧ (governorStep s).store = s.store ∧
    (governorStep s).port.immediate = s.port.immediate ∧ (governorStep s).port.long = s.port.long ∧
    (governorStep s).port.request = s.port.request ∧ (governorStep s).port.queue = s.port.queue ∧
    (governorStep s).port.marks = s.port.marks ∧ (governorStep s).port.refillCursor = s.port.refillCursor ∧
    (governorStep s).pending = s.pending := by
  and_intros <;> (simp only [governorStep]; split <;> simp)

/-- A LOAD becoming pending. -/
@[simp] theorem pendLoad_frame :
    (pendLoad s).sup = s.sup ∧ (pendLoad s).rx = s.rx ∧ (pendLoad s).scan = s.scan ∧ (pendLoad s).health = s.health ∧
    (pendLoad s).map = s.map ∧ (pendLoad s).drive = s.drive ∧ (pendLoad s).conceal = s.conceal ∧ (pendLoad s).gov = s.gov ∧
    (pendLoad s).seam.own = s.seam.own ∧ (pendLoad s).seam.recv = s.seam.recv ∧ (pendLoad s).seam.buffer = s.seam.buffer ∧
    (pendLoad s).seam.count = s.seam.count ∧ (pendLoad s).seam.lineBank = s.seam.lineBank ∧
    (pendLoad s).seam.nextBank = s.seam.nextBank ∧ (pendLoad s).seam.tx = s.seam.tx ∧
    (pendLoad s).seam.mismatches = s.seam.mismatches ∧ (pendLoad s).seam.clash = s.seam.clash ∧
    (pendLoad s).seam.ownSent = s.seam.ownSent ∧ (pendLoad s).store = s.store ∧ (pendLoad s).port = s.port ∧
    (pendLoad s).pending = s.pending := by
  and_intros <;> (unfold pendLoad; (repeat' split) <;> simp)

/-- ANNOUNCEMENT_DUE. -/
@[simp] theorem takeAnnouncement_frame :
    (takeAnnouncement s).sup = s.sup ∧ (takeAnnouncement s).rx = s.rx ∧ (takeAnnouncement s).scan = s.scan ∧
    (takeAnnouncement s).health = s.health ∧ (takeAnnouncement s).map = s.map ∧ (takeAnnouncement s).drive = s.drive ∧
    (takeAnnouncement s).conceal = s.conceal ∧ (takeAnnouncement s).gov.peers = s.gov.peers ∧
    (takeAnnouncement s).gov.factor = s.gov.factor ∧ (takeAnnouncement s).gov.overFlag = s.gov.overFlag ∧
    (takeAnnouncement s).gov.estimate = s.gov.estimate ∧ (takeAnnouncement s).gov.limit = s.gov.limit ∧
    (takeAnnouncement s).gov.carried = s.gov.carried ∧ (takeAnnouncement s).seam.own = s.seam.own ∧
    (takeAnnouncement s).seam.recv = s.seam.recv ∧ (takeAnnouncement s).seam.buffer = s.seam.buffer ∧
    (takeAnnouncement s).seam.count = s.seam.count ∧ (takeAnnouncement s).seam.lineBank = s.seam.lineBank ∧
    (takeAnnouncement s).seam.nextBank = s.seam.nextBank ∧ (takeAnnouncement s).seam.tx = s.seam.tx ∧
    (takeAnnouncement s).seam.mismatches = s.seam.mismatches ∧ (takeAnnouncement s).seam.clash = s.seam.clash ∧
    (takeAnnouncement s).seam.ownSent = s.seam.ownSent ∧ (takeAnnouncement s).store = s.store ∧
    (takeAnnouncement s).port = s.port ∧ (takeAnnouncement s).pending = s.pending := by
  and_intros <;> (unfold takeAnnouncement; (repeat' split) <;> simp)

/-- The step of the announcement counter. -/
@[simp] theorem announceBoundary_frame (t : Taking) :
    (announceBoundary t s).sup = s.sup ∧ (announceBoundary t s).rx = s.rx ∧ (announceBoundary t s).scan = s.scan ∧
    (announceBoundary t s).health = s.health ∧ (announceBoundary t s).map = s.map ∧ (announceBoundary t s).drive = s.drive ∧
    (announceBoundary t s).conceal = s.conceal ∧ (announceBoundary t s).gov.peers = s.gov.peers ∧
    (announceBoundary t s).gov.factor = s.gov.factor ∧ (announceBoundary t s).gov.overFlag = s.gov.overFlag ∧
    (announceBoundary t s).gov.estimate = s.gov.estimate ∧ (announceBoundary t s).gov.limit = s.gov.limit ∧
    (announceBoundary t s).gov.carried = s.gov.carried ∧ (announceBoundary t s).seam.own = s.seam.own ∧
    (announceBoundary t s).seam.recv = s.seam.recv ∧ (announceBoundary t s).seam.buffer = s.seam.buffer ∧
    (announceBoundary t s).seam.count = s.seam.count ∧ (announceBoundary t s).seam.lineBank = s.seam.lineBank ∧
    (announceBoundary t s).seam.nextBank = s.seam.nextBank ∧ (announceBoundary t s).seam.tx = s.seam.tx ∧
    (announceBoundary t s).seam.mismatches = s.seam.mismatches ∧ (announceBoundary t s).seam.clash = s.seam.clash ∧
    (announceBoundary t s).seam.ownSent = s.seam.ownSent ∧ (announceBoundary t s).store = s.store ∧
    (announceBoundary t s).port = s.port ∧ (announceBoundary t s).pending = s.pending := by
  cases t <;> and_intros <;> (simp only [announceBoundary, takeIf]; split <;> simp)

/-- The Load Governor's boundary work. -/
@[simp] theorem governorBoundary_frame (t : Taking) :
    (governorBoundary t s).sup = s.sup ∧ (governorBoundary t s).rx = s.rx ∧ (governorBoundary t s).scan = s.scan ∧
    (governorBoundary t s).health = s.health ∧ (governorBoundary t s).map = s.map ∧ (governorBoundary t s).drive = s.drive ∧
    (governorBoundary t s).conceal = s.conceal ∧ (governorBoundary t s).gov.limit = s.gov.limit ∧
    (governorBoundary t s).gov.carried = s.gov.carried ∧ (governorBoundary t s).seam.own = s.seam.own ∧
    (governorBoundary t s).seam.recv = s.seam.recv ∧ (governorBoundary t s).seam.buffer = s.seam.buffer ∧
    (governorBoundary t s).seam.count = s.seam.count ∧ (governorBoundary t s).seam.lineBank = s.seam.lineBank ∧
    (governorBoundary t s).seam.nextBank = s.seam.nextBank ∧ (governorBoundary t s).seam.tx = s.seam.tx ∧
    (governorBoundary t s).seam.mismatches = s.seam.mismatches ∧ (governorBoundary t s).seam.clash = s.seam.clash ∧
    (governorBoundary t s).seam.ownSent = s.seam.ownSent ∧ (governorBoundary t s).store = s.store ∧
    (governorBoundary t s).port.immediate = s.port.immediate ∧ (governorBoundary t s).port.long = s.port.long ∧
    (governorBoundary t s).port.request = s.port.request ∧ (governorBoundary t s).port.queue = s.port.queue ∧
    (governorBoundary t s).port.marks = s.port.marks ∧ (governorBoundary t s).port.refillCursor = s.port.refillCursor ∧
    (governorBoundary t s).pending = s.pending := by
  simp [governorBoundary]

/-- A frame boundary. -/
@[simp] theorem boundary_frame (t : Taking) :
    (boundary t s).sup = s.sup ∧ (boundary t s).rx = s.rx ∧ (boundary t s).health.requests = s.health.requests ∧
    (boundary t s).health.cursor = s.health.cursor ∧ (boundary t s).map = s.map ∧ (boundary t s).conceal.k = s.conceal.k ∧
    (boundary t s).conceal.lastSent = s.conceal.lastSent ∧ (boundary t s).conceal.mismatch = s.conceal.mismatch ∧
    (boundary t s).gov.limit = s.gov.limit ∧ (boundary t s).gov.carried = s.gov.carried ∧
    (boundary t s).seam.own = s.seam.own ∧ (boundary t s).seam.recv = s.seam.recv ∧
    (boundary t s).seam.buffer = s.seam.buffer ∧ (boundary t s).seam.count = s.seam.count ∧
    (boundary t s).seam.lineBank = s.seam.lineBank ∧ (boundary t s).seam.nextBank = s.seam.nextBank ∧
    (boundary t s).seam.tx = s.seam.tx ∧ (boundary t s).seam.mismatches = s.seam.mismatches ∧
    (boundary t s).seam.clash = s.seam.clash ∧ (boundary t s).seam.ownSent = s.seam.ownSent ∧
    (boundary t s).store = s.store ∧ (boundary t s).port.immediate = s.port.immediate ∧
    (boundary t s).port.long = s.port.long ∧ (boundary t s).port.request = s.port.request ∧
    (boundary t s).port.queue = s.port.queue ∧ (boundary t s).port.marks = s.port.marks ∧
    (boundary t s).port.refillCursor = s.port.refillCursor ∧ (boundary t s).pending = s.pending := by
  and_intros <;> (unfold boundary; (repeat' split) <;> simp)

/-- DARK_ENTRY. -/
@[simp] theorem takeDark_frame :
    (takeDark s).sup = s.sup ∧ (takeDark s).scan = s.scan ∧ (takeDark s).health = s.health ∧ (takeDark s).map = s.map ∧
    (takeDark s).drive = s.drive ∧ (takeDark s).conceal = s.conceal ∧ (takeDark s).gov = s.gov ∧
    (takeDark s).seam.own = s.seam.own ∧ (takeDark s).seam.recv = s.seam.recv ∧ (takeDark s).seam.buffer = s.seam.buffer ∧
    (takeDark s).seam.count = s.seam.count ∧ (takeDark s).seam.lineBank = s.seam.lineBank ∧
    (takeDark s).seam.nextBank = s.seam.nextBank ∧ (takeDark s).seam.tx = s.seam.tx ∧
    (takeDark s).seam.mismatches = s.seam.mismatches ∧ (takeDark s).seam.clash = s.seam.clash ∧
    (takeDark s).seam.ownSent = s.seam.ownSent ∧ (takeDark s).store = s.store ∧
    (takeDark s).port.immediate = s.port.immediate ∧ (takeDark s).port.long = s.port.long ∧
    (takeDark s).port.request = s.port.request ∧ (takeDark s).port.queue = s.port.queue ∧
    (takeDark s).port.marks = s.port.marks ∧ (takeDark s).port.refillCursor = s.port.refillCursor ∧
    (takeDark s).pending = s.pending := by
  and_intros <;> (unfold takeDark; (repeat' split) <;> simp)

/-- A link that is not due for DARK is left alone. -/
theorem takeDark_of_not_due (h : darkDue s = false) : takeDark s = s := by simp [takeDark, h]

/-- A link that is due enters DARK, with the tile notice raised. -/
theorem takeDark_of_due (h : darkDue s = true) : takeDark s = raiseNotice (s.setRx { s.rx with link := .dark }) := by
  simp [takeDark, h]

/-- A blank flag that is not due stays as it is. -/
theorem takeBlankClear_of_not_due (h : blankClearDue s = false) : takeBlankClear s = s := by simp [takeBlankClear, h]

/-- An announcement that is not due changes nothing. -/
theorem takeAnnouncement_of_not_due (h : announcementDue s = false) : takeAnnouncement s = s := by simp [takeAnnouncement, h]

/-- A refresh that is not due changes nothing. -/
theorem takeEdgeRefresh_of_not_due (h : refreshDue s = false) : takeEdgeRefresh s = s := by simp [takeEdgeRefresh, h]

end Sys2Proof.Machine
end

