-- ==== Sys2Proof/Laws/CommandFrames.lean ====
section
/-! SUPPORT. Frame lemmas of the parts of the commands' meanings: what each leaves unchanged, as one simp lemma for each operation. -/

namespace Sys2Proof.Machine

variable (s : State)

/-- The way to a gap. -/
@[simp] theorem toGap_frame (p : LitPos) :
    (toGap p s).sup = s.sup ∧ (toGap p s).rx = s.rx ∧ (toGap p s).scan.chanP = s.scan.chanP ∧
    (toGap p s).scan.chanS = s.scan.chanS ∧ (toGap p s).scan.blank = s.scan.blank ∧ (toGap p s).scan.marker = s.scan.marker ∧
    (toGap p s).scan.runCount = s.scan.runCount ∧ (toGap p s).scan.slot = s.scan.slot ∧ (toGap p s).health = s.health ∧
    (toGap p s).map = s.map ∧ (toGap p s).drive = s.drive ∧ (toGap p s).conceal = s.conceal ∧ (toGap p s).gov = s.gov ∧
    (toGap p s).seam = s.seam ∧ (toGap p s).store = s.store ∧ (toGap p s).port = s.port ∧ (toGap p s).pending = s.pending := by
  simp [toGap]

/-- Probes NOT_MADE. -/
@[simp] theorem notMade_frame (ds : List Nat) :
    (notMade ds s).sup = s.sup ∧ (notMade ds s).rx = s.rx ∧ (notMade ds s).scan = s.scan ∧
    (notMade ds s).health.dies = s.health.dies ∧ (notMade ds s).health.requests = s.health.requests ∧
    (notMade ds s).health.cursor = s.health.cursor ∧ (notMade ds s).health.findings = s.health.findings ∧
    (notMade ds s).health.anomalyRun = s.health.anomalyRun ∧ (notMade ds s).health.anomalyDue = s.health.anomalyDue ∧
    (notMade ds s).map = s.map ∧ (notMade ds s).drive = s.drive ∧ (notMade ds s).conceal = s.conceal ∧
    (notMade ds s).gov = s.gov ∧ (notMade ds s).seam = s.seam ∧ (notMade ds s).store = s.store ∧
    (notMade ds s).port = s.port ∧ (notMade ds s).pending = s.pending := by
  simp [notMade]

/-- The rest of a probe slot NOT_MADE. -/
@[simp] theorem abandonSlot_frame :
    (abandonSlot s).sup = s.sup ∧ (abandonSlot s).rx = s.rx ∧ (abandonSlot s).scan.chanP = s.scan.chanP ∧
    (abandonSlot s).scan.chanS = s.scan.chanS ∧ (abandonSlot s).scan.blank = s.scan.blank ∧
    (abandonSlot s).scan.marker = s.scan.marker ∧ (abandonSlot s).scan.runCount = s.scan.runCount ∧
    (abandonSlot s).health.dies = s.health.dies ∧ (abandonSlot s).health.requests = s.health.requests ∧
    (abandonSlot s).health.cursor = s.health.cursor ∧ (abandonSlot s).health.findings = s.health.findings ∧
    (abandonSlot s).health.anomalyRun = s.health.anomalyRun ∧ (abandonSlot s).health.anomalyDue = s.health.anomalyDue ∧
    (abandonSlot s).map = s.map ∧ (abandonSlot s).drive = s.drive ∧ (abandonSlot s).conceal = s.conceal ∧
    (abandonSlot s).gov = s.gov ∧ (abandonSlot s).seam = s.seam ∧ (abandonSlot s).store = s.store ∧
    (abandonSlot s).port = s.port ∧ (abandonSlot s).pending = s.pending := by
  simp [abandonSlot]

/-- A position lit. -/
@[simp] theorem lightPosition_frame (p : LitPos) :
    (lightPosition p s).sup = s.sup ∧ (lightPosition p s).rx = s.rx ∧ (lightPosition p s).scan.chanP = s.scan.chanP ∧
    (lightPosition p s).scan.chanS = s.scan.chanS ∧ (lightPosition p s).scan.blank = s.scan.blank ∧
    (lightPosition p s).scan.runCount = s.scan.runCount ∧ (lightPosition p s).scan.seenBlank = s.scan.seenBlank ∧
    (lightPosition p s).scan.slot = s.scan.slot ∧ (lightPosition p s).health = s.health ∧ (lightPosition p s).map = s.map ∧
    (lightPosition p s).drive = s.drive ∧ (lightPosition p s).conceal = s.conceal ∧ (lightPosition p s).gov = s.gov ∧
    (lightPosition p s).seam = s.seam ∧ (lightPosition p s).store = s.store ∧ (lightPosition p s).port = s.port ∧
    (lightPosition p s).pending = s.pending := by
  simp [lightPosition]

/-- A position whose marker failed. -/
@[simp] theorem failPosition_frame (p : LitPos) :
    (failPosition p s).sup = s.sup ∧ (failPosition p s).rx = s.rx ∧ (failPosition p s).health.dies = s.health.dies ∧
    (failPosition p s).health.requests = s.health.requests ∧ (failPosition p s).health.cursor = s.health.cursor ∧
    (failPosition p s).health.findings = s.health.findings ∧ (failPosition p s).health.anomalyRun = s.health.anomalyRun ∧
    (failPosition p s).health.anomalyDue = s.health.anomalyDue ∧ (failPosition p s).map = s.map ∧
    (failPosition p s).drive = s.drive ∧ (failPosition p s).conceal = s.conceal ∧ (failPosition p s).gov = s.gov ∧
    (failPosition p s).seam.own = s.seam.own ∧ (failPosition p s).seam.recv = s.seam.recv ∧
    (failPosition p s).seam.buffer = s.seam.buffer ∧ (failPosition p s).seam.count = s.seam.count ∧
    (failPosition p s).seam.lineBank = s.seam.lineBank ∧ (failPosition p s).seam.nextBank = s.seam.nextBank ∧
    (failPosition p s).seam.tx = s.seam.tx ∧ (failPosition p s).seam.mismatches = s.seam.mismatches ∧
    (failPosition p s).seam.clash = s.seam.clash ∧ (failPosition p s).seam.ownSent = s.seam.ownSent ∧
    (failPosition p s).store = s.store ∧ (failPosition p s).port.immediate = s.port.immediate ∧
    (failPosition p s).port.long = s.port.long ∧ (failPosition p s).port.request = s.port.request ∧
    (failPosition p s).port.queue = s.port.queue ∧ (failPosition p s).port.marks = s.port.marks ∧
    (failPosition p s).port.refillCursor = s.port.refillCursor ∧ (failPosition p s).pending = s.pending := by
  and_intros <;> (unfold failPosition; (repeat' split) <;> simp)

/-- A sense pass. -/
@[simp] theorem takePass_frame (p : Nat) (mP mS : Vector Measure Config.channelCount) :
    (takePass p mP mS s).sup = s.sup ∧ (takePass p mP mS s).rx = s.rx ∧ (takePass p mP mS s).scan = s.scan ∧
    (takePass p mP mS s).health.requests = s.health.requests ∧ (takePass p mP mS s).health.cursor = s.health.cursor ∧
    (takePass p mP mS s).health.plan = s.health.plan ∧ (takePass p mP mS s).health.anomalyRun = s.health.anomalyRun ∧
    (takePass p mP mS s).health.anomalyDue = s.health.anomalyDue ∧ (takePass p mP mS s).map.factoryGain = s.map.factoryGain ∧
    (takePass p mP mS s).drive = s.drive ∧ (takePass p mP mS s).conceal.active = s.conceal.active ∧
    (takePass p mP mS s).conceal.shadow = s.conceal.shadow ∧ (takePass p mP mS s).conceal.k = s.conceal.k ∧
    (takePass p mP mS s).conceal.far = s.conceal.far ∧ (takePass p mP mS s).conceal.lastSent = s.conceal.lastSent ∧
    (takePass p mP mS s).conceal.refresh = s.conceal.refresh ∧ (takePass p mP mS s).conceal.mismatch = s.conceal.mismatch ∧
    (takePass p mP mS s).gov = s.gov ∧ (takePass p mP mS s).seam.own = s.seam.own ∧
    (takePass p mP mS s).seam.recv = s.seam.recv ∧ (takePass p mP mS s).seam.buffer = s.seam.buffer ∧
    (takePass p mP mS s).seam.count = s.seam.count ∧ (takePass p mP mS s).seam.lineBank = s.seam.lineBank ∧
    (takePass p mP mS s).seam.nextBank = s.seam.nextBank ∧ (takePass p mP mS s).seam.tx = s.seam.tx ∧
    (takePass p mP mS s).seam.mismatches = s.seam.mismatches ∧ (takePass p mP mS s).seam.clash = s.seam.clash ∧
    (takePass p mP mS s).seam.ownSent = s.seam.ownSent ∧ (takePass p mP mS s).store.factory = s.store.factory ∧
    (takePass p mP mS s).store.factoryCheckHi = s.store.factoryCheckHi ∧
    (takePass p mP mS s).store.factoryCheckLo = s.store.factoryCheckLo ∧ (takePass p mP mS s).store.slots = s.store.slots ∧
    (takePass p mP mS s).store.settings = s.store.settings ∧
    (takePass p mP mS s).store.settingsDirty = s.store.settingsDirty ∧ (takePass p mP mS s).store.state = s.store.state ∧
    (takePass p mP mS s).store.inFlight = s.store.inFlight ∧ (takePass p mP mS s).store.cursor = s.store.cursor ∧
    (takePass p mP mS s).store.restartHold = s.store.restartHold ∧ (takePass p mP mS s).port.immediate = s.port.immediate ∧
    (takePass p mP mS s).port.long = s.port.long ∧ (takePass p mP mS s).port.request = s.port.request ∧
    (takePass p mP mS s).port.refillCursor = s.port.refillCursor ∧ (takePass p mP mS s).port.notice = s.port.notice ∧
    (takePass p mP mS s).port.reraise = s.port.reraise ∧ (takePass p mP mS s).pending = s.pending := by
  simp [takePass]

/-- The choice of a slot's dies. -/
@[simp] theorem chooseDies_frame :
    (chooseDies s).sup = s.sup ∧ (chooseDies s).rx = s.rx ∧ (chooseDies s).scan.position = s.scan.position ∧
    (chooseDies s).scan.chanP = s.scan.chanP ∧ (chooseDies s).scan.chanS = s.scan.chanS ∧
    (chooseDies s).scan.blank = s.scan.blank ∧ (chooseDies s).scan.marker = s.scan.marker ∧
    (chooseDies s).scan.runCount = s.scan.runCount ∧ (chooseDies s).scan.seenBlank = s.scan.seenBlank ∧
    (chooseDies s).health.dies = s.health.dies ∧ (chooseDies s).health.requests = s.health.requests ∧
    (chooseDies s).health.findings = s.health.findings ∧ (chooseDies s).health.anomalyRun = s.health.anomalyRun ∧
    (chooseDies s).health.anomalyDue = s.health.anomalyDue ∧ (chooseDies s).map = s.map ∧ (chooseDies s).drive = s.drive ∧
    (chooseDies s).conceal = s.conceal ∧ (chooseDies s).gov = s.gov ∧ (chooseDies s).seam = s.seam ∧
    (chooseDies s).store = s.store ∧ (chooseDies s).port = s.port ∧ (chooseDies s).pending = s.pending := by
  simp [chooseDies]

/-- The probe slot. -/
@[simp] theorem reachProbeSlot_frame :
    (reachProbeSlot s).sup = s.sup ∧ (reachProbeSlot s).rx = s.rx ∧ (reachProbeSlot s).scan.chanP = s.scan.chanP ∧
    (reachProbeSlot s).scan.chanS = s.scan.chanS ∧ (reachProbeSlot s).scan.blank = s.scan.blank ∧
    (reachProbeSlot s).scan.marker = s.scan.marker ∧ (reachProbeSlot s).scan.runCount = s.scan.runCount ∧
    (reachProbeSlot s).health.dies = s.health.dies ∧ (reachProbeSlot s).health.requests = s.health.requests ∧
    (reachProbeSlot s).health.findings = s.health.findings ∧ (reachProbeSlot s).health.anomalyRun = s.health.anomalyRun ∧
    (reachProbeSlot s).health.anomalyDue = s.health.anomalyDue ∧ (reachProbeSlot s).map = s.map ∧
    (reachProbeSlot s).drive = s.drive ∧ (reachProbeSlot s).conceal = s.conceal ∧ (reachProbeSlot s).gov = s.gov ∧
    (reachProbeSlot s).seam = s.seam ∧ (reachProbeSlot s).store = s.store ∧ (reachProbeSlot s).port = s.port ∧
    (reachProbeSlot s).pending = s.pending := by
  and_intros <;> (unfold reachProbeSlot; (repeat' split) <;> simp)

/-- The way on from OBSERVE. -/
@[simp] theorem afterObserve_frame (p : Fin 4) :
    (afterObserve p s).sup = s.sup ∧ (afterObserve p s).rx = s.rx ∧ (afterObserve p s).scan.chanP = s.scan.chanP ∧
    (afterObserve p s).scan.chanS = s.scan.chanS ∧ (afterObserve p s).scan.blank = s.scan.blank ∧
    (afterObserve p s).scan.marker = s.scan.marker ∧ (afterObserve p s).scan.runCount = s.scan.runCount ∧
    (afterObserve p s).health.dies = s.health.dies ∧ (afterObserve p s).health.requests = s.health.requests ∧
    (afterObserve p s).health.findings = s.health.findings ∧ (afterObserve p s).health.anomalyRun = s.health.anomalyRun ∧
    (afterObserve p s).health.anomalyDue = s.health.anomalyDue ∧ (afterObserve p s).map = s.map ∧
    (afterObserve p s).drive = s.drive ∧ (afterObserve p s).conceal = s.conceal ∧ (afterObserve p s).gov = s.gov ∧
    (afterObserve p s).seam = s.seam ∧ (afterObserve p s).store = s.store ∧ (afterObserve p s).port = s.port ∧
    (afterObserve p s).pending = s.pending := by
  and_intros <;> (unfold afterObserve; (repeat' split) <;> simp)

/-- A probe result. -/
@[simp] theorem takeProbeResult_frame (d : Nat) (m : Measure) :
    (takeProbeResult d m s).sup = s.sup ∧ (takeProbeResult d m s).rx = s.rx ∧ (takeProbeResult d m s).scan = s.scan ∧
    (takeProbeResult d m s).health.cursor = s.health.cursor ∧ (takeProbeResult d m s).health.findings = s.health.findings ∧
    (takeProbeResult d m s).health.anomalyRun = s.health.anomalyRun ∧
    (takeProbeResult d m s).health.anomalyDue = s.health.anomalyDue ∧
    (takeProbeResult d m s).map.factoryGain = s.map.factoryGain ∧ (takeProbeResult d m s).drive = s.drive ∧
    (takeProbeResult d m s).conceal.active = s.conceal.active ∧ (takeProbeResult d m s).conceal.shadow = s.conceal.shadow ∧
    (takeProbeResult d m s).conceal.k = s.conceal.k ∧ (takeProbeResult d m s).conceal.far = s.conceal.far ∧
    (takeProbeResult d m s).conceal.lastSent = s.conceal.lastSent ∧
    (takeProbeResult d m s).conceal.refresh = s.conceal.refresh ∧
    (takeProbeResult d m s).conceal.mismatch = s.conceal.mismatch ∧ (takeProbeResult d m s).gov = s.gov ∧
    (takeProbeResult d m s).seam.own = s.seam.own ∧ (takeProbeResult d m s).seam.recv = s.seam.recv ∧
    (takeProbeResult d m s).seam.buffer = s.seam.buffer ∧ (takeProbeResult d m s).seam.count = s.seam.count ∧
    (takeProbeResult d m s).seam.lineBank = s.seam.lineBank ∧ (takeProbeResult d m s).seam.nextBank = s.seam.nextBank ∧
    (takeProbeResult d m s).seam.tx = s.seam.tx ∧ (takeProbeResult d m s).seam.mismatches = s.seam.mismatches ∧
    (takeProbeResult d m s).seam.clash = s.seam.clash ∧ (takeProbeResult d m s).seam.ownSent = s.seam.ownSent ∧
    (takeProbeResult d m s).store.factory = s.store.factory ∧
    (takeProbeResult d m s).store.factoryCheckHi = s.store.factoryCheckHi ∧
    (takeProbeResult d m s).store.factoryCheckLo = s.store.factoryCheckLo ∧
    (takeProbeResult d m s).store.slots = s.store.slots ∧ (takeProbeResult d m s).store.settings = s.store.settings ∧
    (takeProbeResult d m s).store.settingsDirty = s.store.settingsDirty ∧
    (takeProbeResult d m s).store.state = s.store.state ∧ (takeProbeResult d m s).store.inFlight = s.store.inFlight ∧
    (takeProbeResult d m s).store.cursor = s.store.cursor ∧ (takeProbeResult d m s).store.restartHold = s.store.restartHold ∧
    (takeProbeResult d m s).port.immediate = s.port.immediate ∧ (takeProbeResult d m s).port.long = s.port.long ∧
    (takeProbeResult d m s).port.request = s.port.request ∧ (takeProbeResult d m s).port.refillCursor = s.port.refillCursor ∧
    (takeProbeResult d m s).port.notice = s.port.notice ∧ (takeProbeResult d m s).port.reraise = s.port.reraise ∧
    (takeProbeResult d m s).pending = s.pending := by
  and_intros <;> (unfold takeProbeResult; (repeat' split) <;> simp)

/-- The end of a PROBE position. -/
@[simp] theorem endProbe_frame (n d : Nat) (rest : List Nat) (m : Measure) :
    (endProbe n d rest m s).sup = s.sup ∧ (endProbe n d rest m s).rx = s.rx ∧
    (endProbe n d rest m s).scan.chanP = s.scan.chanP ∧ (endProbe n d rest m s).scan.chanS = s.scan.chanS ∧
    (endProbe n d rest m s).scan.blank = s.scan.blank ∧ (endProbe n d rest m s).scan.marker = s.scan.marker ∧
    (endProbe n d rest m s).scan.runCount = s.scan.runCount ∧ (endProbe n d rest m s).health.cursor = s.health.cursor ∧
    (endProbe n d rest m s).health.findings = s.health.findings ∧
    (endProbe n d rest m s).health.anomalyRun = s.health.anomalyRun ∧
    (endProbe n d rest m s).health.anomalyDue = s.health.anomalyDue ∧
    (endProbe n d rest m s).map.factoryGain = s.map.factoryGain ∧ (endProbe n d rest m s).drive = s.drive ∧
    (endProbe n d rest m s).conceal.active = s.conceal.active ∧ (endProbe n d rest m s).conceal.shadow = s.conceal.shadow ∧
    (endProbe n d rest m s).conceal.k = s.conceal.k ∧ (endProbe n d rest m s).conceal.far = s.conceal.far ∧
    (endProbe n d rest m s).conceal.lastSent = s.conceal.lastSent ∧
    (endProbe n d rest m s).conceal.refresh = s.conceal.refresh ∧
    (endProbe n d rest m s).conceal.mismatch = s.conceal.mismatch ∧ (endProbe n d rest m s).gov = s.gov ∧
    (endProbe n d rest m s).seam.own = s.seam.own ∧ (endProbe n d rest m s).seam.recv = s.seam.recv ∧
    (endProbe n d rest m s).seam.buffer = s.seam.buffer ∧ (endProbe n d rest m s).seam.count = s.seam.count ∧
    (endProbe n d rest m s).seam.lineBank = s.seam.lineBank ∧ (endProbe n d rest m s).seam.nextBank = s.seam.nextBank ∧
    (endProbe n d rest m s).seam.tx = s.seam.tx ∧ (endProbe n d rest m s).seam.mismatches = s.seam.mismatches ∧
    (endProbe n d rest m s).seam.clash = s.seam.clash ∧ (endProbe n d rest m s).seam.ownSent = s.seam.ownSent ∧
    (endProbe n d rest m s).store.factory = s.store.factory ∧
    (endProbe n d rest m s).store.factoryCheckHi = s.store.factoryCheckHi ∧
    (endProbe n d rest m s).store.factoryCheckLo = s.store.factoryCheckLo ∧
    (endProbe n d rest m s).store.slots = s.store.slots ∧ (endProbe n d rest m s).store.settings = s.store.settings ∧
    (endProbe n d rest m s).store.settingsDirty = s.store.settingsDirty ∧
    (endProbe n d rest m s).store.state = s.store.state ∧ (endProbe n d rest m s).store.inFlight = s.store.inFlight ∧
    (endProbe n d rest m s).store.cursor = s.store.cursor ∧ (endProbe n d rest m s).store.restartHold = s.store.restartHold ∧
    (endProbe n d rest m s).port.immediate = s.port.immediate ∧ (endProbe n d rest m s).port.long = s.port.long ∧
    (endProbe n d rest m s).port.request = s.port.request ∧ (endProbe n d rest m s).port.refillCursor = s.port.refillCursor ∧
    (endProbe n d rest m s).port.notice = s.port.notice ∧ (endProbe n d rest m s).port.reraise = s.port.reraise ∧
    (endProbe n d rest m s).pending = s.pending := by
  simp [endProbe]

/-- A reply. -/
@[simp] theorem answer_frame (source : Nat) (r : Request) (result : ReplyResult) (body : ReplyBody) :
    (answer source r result body s).sup = s.sup ∧ (answer source r result body s).rx = s.rx ∧
    (answer source r result body s).scan = s.scan ∧ (answer source r result body s).health = s.health ∧
    (answer source r result body s).map = s.map ∧ (answer source r result body s).drive = s.drive ∧
    (answer source r result body s).conceal = s.conceal ∧ (answer source r result body s).gov = s.gov ∧
    (answer source r result body s).seam.own = s.seam.own ∧ (answer source r result body s).seam.recv = s.seam.recv ∧
    (answer source r result body s).seam.buffer = s.seam.buffer ∧ (answer source r result body s).seam.count = s.seam.count ∧
    (answer source r result body s).seam.lineBank = s.seam.lineBank ∧
    (answer source r result body s).seam.nextBank = s.seam.nextBank ∧ (answer source r result body s).seam.tx = s.seam.tx ∧
    (answer source r result body s).seam.mismatches = s.seam.mismatches ∧
    (answer source r result body s).seam.clash = s.seam.clash ∧
    (answer source r result body s).seam.ownSent = s.seam.ownSent ∧ (answer source r result body s).store = s.store ∧
    (answer source r result body s).port.long = s.port.long ∧ (answer source r result body s).port.request = s.port.request ∧
    (answer source r result body s).port.queue = s.port.queue ∧ (answer source r result body s).port.marks = s.port.marks ∧
    (answer source r result body s).port.refillCursor = s.port.refillCursor ∧
    (answer source r result body s).port.notice = s.port.notice ∧
    (answer source r result body s).port.reraise = s.port.reraise ∧ (answer source r result body s).pending = s.pending := by
  simp [answer]

/-- A die cleared. -/
@[simp] theorem clearDie_frame (d : Nat) :
    (clearDie d s).sup = s.sup ∧ (clearDie d s).rx = s.rx ∧ (clearDie d s).scan = s.scan ∧
    (clearDie d s).health.requests = s.health.requests ∧ (clearDie d s).health.cursor = s.health.cursor ∧
    (clearDie d s).health.plan = s.health.plan ∧ (clearDie d s).health.findings = s.health.findings ∧
    (clearDie d s).health.anomalyRun = s.health.anomalyRun ∧ (clearDie d s).health.anomalyDue = s.health.anomalyDue ∧
    (clearDie d s).map = s.map ∧ (clearDie d s).drive = s.drive ∧ (clearDie d s).conceal = s.conceal ∧
    (clearDie d s).gov = s.gov ∧ (clearDie d s).seam = s.seam ∧ (clearDie d s).store = s.store ∧
    (clearDie d s).port = s.port ∧ (clearDie d s).pending = s.pending := by
  simp [clearDie]

/-- The target die cleared. -/
@[simp] theorem clearTarget_frame (c : Nat) (st : CellState) :
    (clearTarget c st s).sup = s.sup ∧ (clearTarget c st s).rx = s.rx ∧ (clearTarget c st s).scan = s.scan ∧
    (clearTarget c st s).health.requests = s.health.requests ∧ (clearTarget c st s).health.cursor = s.health.cursor ∧
    (clearTarget c st s).health.plan = s.health.plan ∧ (clearTarget c st s).health.findings = s.health.findings ∧
    (clearTarget c st s).health.anomalyRun = s.health.anomalyRun ∧
    (clearTarget c st s).health.anomalyDue = s.health.anomalyDue ∧ (clearTarget c st s).map = s.map ∧
    (clearTarget c st s).drive = s.drive ∧ (clearTarget c st s).conceal = s.conceal ∧ (clearTarget c st s).gov = s.gov ∧
    (clearTarget c st s).seam = s.seam ∧ (clearTarget c st s).store = s.store ∧ (clearTarget c st s).port = s.port ∧
    (clearTarget c st s).pending = s.pending := by
  and_intros <;> (unfold clearTarget; (repeat' split) <;> simp)

/-- A FORCE carried out. -/
@[simp] theorem carryForce_frame (c : Nat) (st : CellState) :
    (carryForce c st s).sup = s.sup ∧ (carryForce c st s).rx = s.rx ∧ (carryForce c st s).scan = s.scan ∧
    (carryForce c st s).health.requests = s.health.requests ∧ (carryForce c st s).health.cursor = s.health.cursor ∧
    (carryForce c st s).health.plan = s.health.plan ∧ (carryForce c st s).health.findings = s.health.findings ∧
    (carryForce c st s).health.anomalyRun = s.health.anomalyRun ∧
    (carryForce c st s).health.anomalyDue = s.health.anomalyDue ∧ (carryForce c st s).map.factoryGain = s.map.factoryGain ∧
    (carryForce c st s).drive = s.drive ∧ (carryForce c st s).conceal.active = s.conceal.active ∧
    (carryForce c st s).conceal.shadow = s.conceal.shadow ∧ (carryForce c st s).conceal.k = s.conceal.k ∧
    (carryForce c st s).conceal.far = s.conceal.far ∧ (carryForce c st s).conceal.lastSent = s.conceal.lastSent ∧
    (carryForce c st s).conceal.refresh = s.conceal.refresh ∧ (carryForce c st s).conceal.mismatch = s.conceal.mismatch ∧
    (carryForce c st s).gov = s.gov ∧ (carryForce c st s).seam.own = s.seam.own ∧
    (carryForce c st s).seam.recv = s.seam.recv ∧ (carryForce c st s).seam.buffer = s.seam.buffer ∧
    (carryForce c st s).seam.count = s.seam.count ∧ (carryForce c st s).seam.lineBank = s.seam.lineBank ∧
    (carryForce c st s).seam.nextBank = s.seam.nextBank ∧ (carryForce c st s).seam.tx = s.seam.tx ∧
    (carryForce c st s).seam.mismatches = s.seam.mismatches ∧ (carryForce c st s).seam.clash = s.seam.clash ∧
    (carryForce c st s).seam.ownSent = s.seam.ownSent ∧ (carryForce c st s).store.factory = s.store.factory ∧
    (carryForce c st s).store.factoryCheckHi = s.store.factoryCheckHi ∧
    (carryForce c st s).store.factoryCheckLo = s.store.factoryCheckLo ∧ (carryForce c st s).store.slots = s.store.slots ∧
    (carryForce c st s).store.settings = s.store.settings ∧ (carryForce c st s).store.settingsDirty = s.store.settingsDirty ∧
    (carryForce c st s).store.state = s.store.state ∧ (carryForce c st s).store.inFlight = s.store.inFlight ∧
    (carryForce c st s).store.cursor = s.store.cursor ∧ (carryForce c st s).store.restartHold = s.store.restartHold ∧
    (carryForce c st s).port.immediate = s.port.immediate ∧ (carryForce c st s).port.long = s.port.long ∧
    (carryForce c st s).port.request = s.port.request ∧ (carryForce c st s).port.refillCursor = s.port.refillCursor ∧
    (carryForce c st s).port.notice = s.port.notice ∧ (carryForce c st s).port.reraise = s.port.reraise ∧
    (carryForce c st s).pending = s.pending := by
  and_intros <;> (simp only [carryForce]; split <;> simp)

/-- A RELEASE carried out. -/
@[simp] theorem carryRelease_frame (c : Nat) :
    (carryRelease c s).sup = s.sup ∧ (carryRelease c s).rx = s.rx ∧ (carryRelease c s).scan = s.scan ∧
    (carryRelease c s).health = s.health ∧ (carryRelease c s).map.factoryGain = s.map.factoryGain ∧
    (carryRelease c s).drive = s.drive ∧ (carryRelease c s).conceal.active = s.conceal.active ∧
    (carryRelease c s).conceal.shadow = s.conceal.shadow ∧ (carryRelease c s).conceal.k = s.conceal.k ∧
    (carryRelease c s).conceal.far = s.conceal.far ∧ (carryRelease c s).conceal.lastSent = s.conceal.lastSent ∧
    (carryRelease c s).conceal.refresh = s.conceal.refresh ∧ (carryRelease c s).conceal.mismatch = s.conceal.mismatch ∧
    (carryRelease c s).gov = s.gov ∧ (carryRelease c s).seam.own = s.seam.own ∧ (carryRelease c s).seam.recv = s.seam.recv ∧
    (carryRelease c s).seam.buffer = s.seam.buffer ∧ (carryRelease c s).seam.count = s.seam.count ∧
    (carryRelease c s).seam.lineBank = s.seam.lineBank ∧ (carryRelease c s).seam.nextBank = s.seam.nextBank ∧
    (carryRelease c s).seam.tx = s.seam.tx ∧ (carryRelease c s).seam.mismatches = s.seam.mismatches ∧
    (carryRelease c s).seam.clash = s.seam.clash ∧ (carryRelease c s).seam.ownSent = s.seam.ownSent ∧
    (carryRelease c s).store.factory = s.store.factory ∧ (carryRelease c s).store.factoryCheckHi = s.store.factoryCheckHi ∧
    (carryRelease c s).store.factoryCheckLo = s.store.factoryCheckLo ∧ (carryRelease c s).store.slots = s.store.slots ∧
    (carryRelease c s).store.settings = s.store.settings ∧ (carryRelease c s).store.settingsDirty = s.store.settingsDirty ∧
    (carryRelease c s).store.state = s.store.state ∧ (carryRelease c s).store.inFlight = s.store.inFlight ∧
    (carryRelease c s).store.cursor = s.store.cursor ∧ (carryRelease c s).store.restartHold = s.store.restartHold ∧
    (carryRelease c s).port.immediate = s.port.immediate ∧ (carryRelease c s).port.long = s.port.long ∧
    (carryRelease c s).port.request = s.port.request ∧ (carryRelease c s).port.refillCursor = s.port.refillCursor ∧
    (carryRelease c s).port.notice = s.port.notice ∧ (carryRelease c s).port.reraise = s.port.reraise ∧
    (carryRelease c s).pending = s.pending := by
  and_intros <;> (unfold carryRelease; (repeat' split) <;> simp)

/-- A SET GAIN carried out. -/
@[simp] theorem carrySetGain_frame (c : Nat) (g : Option Nat) :
    (carrySetGain c g s).sup = s.sup ∧ (carrySetGain c g s).rx = s.rx ∧ (carrySetGain c g s).scan = s.scan ∧
    (carrySetGain c g s).health = s.health ∧ (carrySetGain c g s).map.factoryGain = s.map.factoryGain ∧
    (carrySetGain c g s).drive = s.drive ∧ (carrySetGain c g s).conceal.active = s.conceal.active ∧
    (carrySetGain c g s).conceal.shadow = s.conceal.shadow ∧ (carrySetGain c g s).conceal.k = s.conceal.k ∧
    (carrySetGain c g s).conceal.far = s.conceal.far ∧ (carrySetGain c g s).conceal.lastSent = s.conceal.lastSent ∧
    (carrySetGain c g s).conceal.refresh = s.conceal.refresh ∧ (carrySetGain c g s).conceal.mismatch = s.conceal.mismatch ∧
    (carrySetGain c g s).gov = s.gov ∧ (carrySetGain c g s).seam.own = s.seam.own ∧
    (carrySetGain c g s).seam.recv = s.seam.recv ∧ (carrySetGain c g s).seam.buffer = s.seam.buffer ∧
    (carrySetGain c g s).seam.count = s.seam.count ∧ (carrySetGain c g s).seam.lineBank = s.seam.lineBank ∧
    (carrySetGain c g s).seam.nextBank = s.seam.nextBank ∧ (carrySetGain c g s).seam.tx = s.seam.tx ∧
    (carrySetGain c g s).seam.mismatches = s.seam.mismatches ∧ (carrySetGain c g s).seam.clash = s.seam.clash ∧
    (carrySetGain c g s).seam.ownSent = s.seam.ownSent ∧ (carrySetGain c g s).store.factory = s.store.factory ∧
    (carrySetGain c g s).store.factoryCheckHi = s.store.factoryCheckHi ∧
    (carrySetGain c g s).store.factoryCheckLo = s.store.factoryCheckLo ∧ (carrySetGain c g s).store.slots = s.store.slots ∧
    (carrySetGain c g s).store.settings = s.store.settings ∧
    (carrySetGain c g s).store.settingsDirty = s.store.settingsDirty ∧ (carrySetGain c g s).store.state = s.store.state ∧
    (carrySetGain c g s).store.inFlight = s.store.inFlight ∧ (carrySetGain c g s).store.cursor = s.store.cursor ∧
    (carrySetGain c g s).store.restartHold = s.store.restartHold ∧ (carrySetGain c g s).port.immediate = s.port.immediate ∧
    (carrySetGain c g s).port.long = s.port.long ∧ (carrySetGain c g s).port.request = s.port.request ∧
    (carrySetGain c g s).port.refillCursor = s.port.refillCursor ∧ (carrySetGain c g s).port.notice = s.port.notice ∧
    (carrySetGain c g s).port.reraise = s.port.reraise ∧ (carrySetGain c g s).pending = s.pending := by
  and_intros <;> (simp only [carrySetGain]; split <;> simp)

/-- FORCE. -/
@[simp] theorem doForce_frame (source : Nat) (r : Request) (f : CellField) (code clear : Byte) :
    (doForce source r f code clear s).sup = s.sup ∧ (doForce source r f code clear s).rx = s.rx ∧
    (doForce source r f code clear s).scan = s.scan ∧ (doForce source r f code clear s).health.requests = s.health.requests ∧
    (doForce source r f code clear s).health.cursor = s.health.cursor ∧
    (doForce source r f code clear s).health.plan = s.health.plan ∧
    (doForce source r f code clear s).health.findings = s.health.findings ∧
    (doForce source r f code clear s).health.anomalyRun = s.health.anomalyRun ∧
    (doForce source r f code clear s).health.anomalyDue = s.health.anomalyDue ∧
    (doForce source r f code clear s).map.factoryGain = s.map.factoryGain ∧
    (doForce source r f code clear s).drive = s.drive ∧ (doForce source r f code clear s).conceal.active = s.conceal.active ∧
    (doForce source r f code clear s).conceal.shadow = s.conceal.shadow ∧
    (doForce source r f code clear s).conceal.k = s.conceal.k ∧
    (doForce source r f code clear s).conceal.far = s.conceal.far ∧
    (doForce source r f code clear s).conceal.lastSent = s.conceal.lastSent ∧
    (doForce source r f code clear s).conceal.refresh = s.conceal.refresh ∧
    (doForce source r f code clear s).conceal.mismatch = s.conceal.mismatch ∧ (doForce source r f code clear s).gov = s.gov ∧
    (doForce source r f code clear s).seam.own = s.seam.own ∧ (doForce source r f code clear s).seam.recv = s.seam.recv ∧
    (doForce source r f code clear s).seam.buffer = s.seam.buffer ∧
    (doForce source r f code clear s).seam.count = s.seam.count ∧
    (doForce source r f code clear s).seam.lineBank = s.seam.lineBank ∧
    (doForce source r f code clear s).seam.nextBank = s.seam.nextBank ∧
    (doForce source r f code clear s).seam.tx = s.seam.tx ∧
    (doForce source r f code clear s).seam.mismatches = s.seam.mismatches ∧
    (doForce source r f code clear s).seam.clash = s.seam.clash ∧
    (doForce source r f code clear s).seam.ownSent = s.seam.ownSent ∧
    (doForce source r f code clear s).store.factory = s.store.factory ∧
    (doForce source r f code clear s).store.factoryCheckHi = s.store.factoryCheckHi ∧
    (doForce source r f code clear s).store.factoryCheckLo = s.store.factoryCheckLo ∧
    (doForce source r f code clear s).store.slots = s.store.slots ∧
    (doForce source r f code clear s).store.settings = s.store.settings ∧
    (doForce source r f code clear s).store.settingsDirty = s.store.settingsDirty ∧
    (doForce source r f code clear s).store.state = s.store.state ∧
    (doForce source r f code clear s).store.inFlight = s.store.inFlight ∧
    (doForce source r f code clear s).store.cursor = s.store.cursor ∧
    (doForce source r f code clear s).store.restartHold = s.store.restartHold ∧
    (doForce source r f code clear s).port.long = s.port.long ∧
    (doForce source r f code clear s).port.request = s.port.request ∧
    (doForce source r f code clear s).port.refillCursor = s.port.refillCursor ∧
    (doForce source r f code clear s).port.notice = s.port.notice ∧
    (doForce source r f code clear s).port.reraise = s.port.reraise ∧ (doForce source r f code clear s).pending = s.pending := by
  and_intros <;> (unfold doForce; (repeat' split) <;> simp)

/-- RELEASE. -/
@[simp] theorem doRelease_frame (source : Nat) (r : Request) (f : CellField) :
    (doRelease source r f s).sup = s.sup ∧ (doRelease source r f s).rx = s.rx ∧ (doRelease source r f s).scan = s.scan ∧
    (doRelease source r f s).health = s.health ∧ (doRelease source r f s).map.factoryGain = s.map.factoryGain ∧
    (doRelease source r f s).drive = s.drive ∧ (doRelease source r f s).conceal.active = s.conceal.active ∧
    (doRelease source r f s).conceal.shadow = s.conceal.shadow ∧ (doRelease source r f s).conceal.k = s.conceal.k ∧
    (doRelease source r f s).conceal.far = s.conceal.far ∧ (doRelease source r f s).conceal.lastSent = s.conceal.lastSent ∧
    (doRelease source r f s).conceal.refresh = s.conceal.refresh ∧
    (doRelease source r f s).conceal.mismatch = s.conceal.mismatch ∧ (doRelease source r f s).gov = s.gov ∧
    (doRelease source r f s).seam.own = s.seam.own ∧ (doRelease source r f s).seam.recv = s.seam.recv ∧
    (doRelease source r f s).seam.buffer = s.seam.buffer ∧ (doRelease source r f s).seam.count = s.seam.count ∧
    (doRelease source r f s).seam.lineBank = s.seam.lineBank ∧ (doRelease source r f s).seam.nextBank = s.seam.nextBank ∧
    (doRelease source r f s).seam.tx = s.seam.tx ∧ (doRelease source r f s).seam.mismatches = s.seam.mismatches ∧
    (doRelease source r f s).seam.clash = s.seam.clash ∧ (doRelease source r f s).seam.ownSent = s.seam.ownSent ∧
    (doRelease source r f s).store.factory = s.store.factory ∧
    (doRelease source r f s).store.factoryCheckHi = s.store.factoryCheckHi ∧
    (doRelease source r f s).store.factoryCheckLo = s.store.factoryCheckLo ∧
    (doRelease source r f s).store.slots = s.store.slots ∧ (doRelease source r f s).store.settings = s.store.settings ∧
    (doRelease source r f s).store.settingsDirty = s.store.settingsDirty ∧
    (doRelease source r f s).store.state = s.store.state ∧ (doRelease source r f s).store.inFlight = s.store.inFlight ∧
    (doRelease source r f s).store.cursor = s.store.cursor ∧
    (doRelease source r f s).store.restartHold = s.store.restartHold ∧ (doRelease source r f s).port.long = s.port.long ∧
    (doRelease source r f s).port.request = s.port.request ∧
    (doRelease source r f s).port.refillCursor = s.port.refillCursor ∧ (doRelease source r f s).port.notice = s.port.notice ∧
    (doRelease source r f s).port.reraise = s.port.reraise ∧ (doRelease source r f s).pending = s.pending := by
  and_intros <;> (unfold doRelease; (repeat' split) <;> simp)

/-- SET GAIN. -/
@[simp] theorem doSetGain_frame (source : Nat) (r : Request) (f : CellField) (mode : Byte) (code : Nat) :
    (doSetGain source r f mode code s).sup = s.sup ∧ (doSetGain source r f mode code s).rx = s.rx ∧
    (doSetGain source r f mode code s).scan = s.scan ∧ (doSetGain source r f mode code s).health = s.health ∧
    (doSetGain source r f mode code s).map.factoryGain = s.map.factoryGain ∧
    (doSetGain source r f mode code s).drive = s.drive ∧
    (doSetGain source r f mode code s).conceal.active = s.conceal.active ∧
    (doSetGain source r f mode code s).conceal.shadow = s.conceal.shadow ∧
    (doSetGain source r f mode code s).conceal.k = s.conceal.k ∧
    (doSetGain source r f mode code s).conceal.far = s.conceal.far ∧
    (doSetGain source r f mode code s).conceal.lastSent = s.conceal.lastSent ∧
    (doSetGain source r f mode code s).conceal.refresh = s.conceal.refresh ∧
    (doSetGain source r f mode code s).conceal.mismatch = s.conceal.mismatch ∧
    (doSetGain source r f mode code s).gov = s.gov ∧ (doSetGain source r f mode code s).seam.own = s.seam.own ∧
    (doSetGain source r f mode code s).seam.recv = s.seam.recv ∧
    (doSetGain source r f mode code s).seam.buffer = s.seam.buffer ∧
    (doSetGain source r f mode code s).seam.count = s.seam.count ∧
    (doSetGain source r f mode code s).seam.lineBank = s.seam.lineBank ∧
    (doSetGain source r f mode code s).seam.nextBank = s.seam.nextBank ∧
    (doSetGain source r f mode code s).seam.tx = s.seam.tx ∧
    (doSetGain source r f mode code s).seam.mismatches = s.seam.mismatches ∧
    (doSetGain source r f mode code s).seam.clash = s.seam.clash ∧
    (doSetGain source r f mode code s).seam.ownSent = s.seam.ownSent ∧
    (doSetGain source r f mode code s).store.factory = s.store.factory ∧
    (doSetGain source r f mode code s).store.factoryCheckHi = s.store.factoryCheckHi ∧
    (doSetGain source r f mode code s).store.factoryCheckLo = s.store.factoryCheckLo ∧
    (doSetGain source r f mode code s).store.slots = s.store.slots ∧
    (doSetGain source r f mode code s).store.settings = s.store.settings ∧
    (doSetGain source r f mode code s).store.settingsDirty = s.store.settingsDirty ∧
    (doSetGain source r f mode code s).store.state = s.store.state ∧
    (doSetGain source r f mode code s).store.inFlight = s.store.inFlight ∧
    (doSetGain source r f mode code s).store.cursor = s.store.cursor ∧
    (doSetGain source r f mode code s).store.restartHold = s.store.restartHold ∧
    (doSetGain source r f mode code s).port.long = s.port.long ∧
    (doSetGain source r f mode code s).port.request = s.port.request ∧
    (doSetGain source r f mode code s).port.refillCursor = s.port.refillCursor ∧
    (doSetGain source r f mode code s).port.notice = s.port.notice ∧
    (doSetGain source r f mode code s).port.reraise = s.port.reraise ∧ (doSetGain source r f mode code s).pending = s.pending := by
  and_intros <;> (unfold doSetGain; (repeat' split) <;> simp)

/-- PROBE. -/
@[simp] theorem doProbe_frame (source : Nat) (r : Request) (f : CellField) :
    (doProbe source r f s).sup = s.sup ∧ (doProbe source r f s).rx = s.rx ∧ (doProbe source r f s).scan = s.scan ∧
    (doProbe source r f s).health.dies = s.health.dies ∧ (doProbe source r f s).health.cursor = s.health.cursor ∧
    (doProbe source r f s).health.plan = s.health.plan ∧ (doProbe source r f s).health.findings = s.health.findings ∧
    (doProbe source r f s).health.anomalyRun = s.health.anomalyRun ∧
    (doProbe source r f s).health.anomalyDue = s.health.anomalyDue ∧ (doProbe source r f s).map = s.map ∧
    (doProbe source r f s).drive = s.drive ∧ (doProbe source r f s).conceal = s.conceal ∧
    (doProbe source r f s).gov = s.gov ∧ (doProbe source r f s).seam.own = s.seam.own ∧
    (doProbe source r f s).seam.recv = s.seam.recv ∧ (doProbe source r f s).seam.buffer = s.seam.buffer ∧
    (doProbe source r f s).seam.count = s.seam.count ∧ (doProbe source r f s).seam.lineBank = s.seam.lineBank ∧
    (doProbe source r f s).seam.nextBank = s.seam.nextBank ∧ (doProbe source r f s).seam.tx = s.seam.tx ∧
    (doProbe source r f s).seam.mismatches = s.seam.mismatches ∧ (doProbe source r f s).seam.clash = s.seam.clash ∧
    (doProbe source r f s).seam.ownSent = s.seam.ownSent ∧ (doProbe source r f s).store = s.store ∧
    (doProbe source r f s).port.long = s.port.long ∧ (doProbe source r f s).port.request = s.port.request ∧
    (doProbe source r f s).port.queue = s.port.queue ∧ (doProbe source r f s).port.marks = s.port.marks ∧
    (doProbe source r f s).port.refillCursor = s.port.refillCursor ∧ (doProbe source r f s).port.notice = s.port.notice ∧
    (doProbe source r f s).port.reraise = s.port.reraise ∧ (doProbe source r f s).pending = s.pending := by
  and_intros <;> (unfold doProbe; (repeat' split) <;> simp)

/-- READ CELL. -/
@[simp] theorem doReadCell_frame (source : Nat) (r : Request) (f : CellField) :
    (doReadCell source r f s).sup = s.sup ∧ (doReadCell source r f s).rx = s.rx ∧ (doReadCell source r f s).scan = s.scan ∧
    (doReadCell source r f s).health = s.health ∧ (doReadCell source r f s).map = s.map ∧
    (doReadCell source r f s).drive = s.drive ∧ (doReadCell source r f s).conceal = s.conceal ∧
    (doReadCell source r f s).gov = s.gov ∧ (doReadCell source r f s).seam.own = s.seam.own ∧
    (doReadCell source r f s).seam.recv = s.seam.recv ∧ (doReadCell source r f s).seam.buffer = s.seam.buffer ∧
    (doReadCell source r f s).seam.count = s.seam.count ∧ (doReadCell source r f s).seam.lineBank = s.seam.lineBank ∧
    (doReadCell source r f s).seam.nextBank = s.seam.nextBank ∧ (doReadCell source r f s).seam.tx = s.seam.tx ∧
    (doReadCell source r f s).seam.mismatches = s.seam.mismatches ∧ (doReadCell source r f s).seam.clash = s.seam.clash ∧
    (doReadCell source r f s).seam.ownSent = s.seam.ownSent ∧ (doReadCell source r f s).store = s.store ∧
    (doReadCell source r f s).port.long = s.port.long ∧ (doReadCell source r f s).port.request = s.port.request ∧
    (doReadCell source r f s).port.queue = s.port.queue ∧ (doReadCell source r f s).port.marks = s.port.marks ∧
    (doReadCell source r f s).port.refillCursor = s.port.refillCursor ∧
    (doReadCell source r f s).port.notice = s.port.notice ∧ (doReadCell source r f s).port.reraise = s.port.reraise ∧
    (doReadCell source r f s).pending = s.pending := by
  and_intros <;> (unfold doReadCell; (repeat' split) <;> simp)

/-- LIST FAULTS. -/
@[simp] theorem doListFaults_frame (source : Nat) (r : Request) (start : Nat) :
    (doListFaults source r start s).sup = s.sup ∧ (doListFaults source r start s).rx = s.rx ∧
    (doListFaults source r start s).scan = s.scan ∧ (doListFaults source r start s).health = s.health ∧
    (doListFaults source r start s).map = s.map ∧ (doListFaults source r start s).drive = s.drive ∧
    (doListFaults source r start s).conceal = s.conceal ∧ (doListFaults source r start s).gov = s.gov ∧
    (doListFaults source r start s).seam.own = s.seam.own ∧ (doListFaults source r start s).seam.recv = s.seam.recv ∧
    (doListFaults source r start s).seam.buffer = s.seam.buffer ∧ (doListFaults source r start s).seam.count = s.seam.count ∧
    (doListFaults source r start s).seam.lineBank = s.seam.lineBank ∧
    (doListFaults source r start s).seam.nextBank = s.seam.nextBank ∧ (doListFaults source r start s).seam.tx = s.seam.tx ∧
    (doListFaults source r start s).seam.mismatches = s.seam.mismatches ∧
    (doListFaults source r start s).seam.clash = s.seam.clash ∧
    (doListFaults source r start s).seam.ownSent = s.seam.ownSent ∧ (doListFaults source r start s).store = s.store ∧
    (doListFaults source r start s).port.long = s.port.long ∧ (doListFaults source r start s).port.request = s.port.request ∧
    (doListFaults source r start s).port.queue = s.port.queue ∧ (doListFaults source r start s).port.marks = s.port.marks ∧
    (doListFaults source r start s).port.refillCursor = s.port.refillCursor ∧
    (doListFaults source r start s).port.notice = s.port.notice ∧
    (doListFaults source r start s).port.reraise = s.port.reraise ∧ (doListFaults source r start s).pending = s.pending := by
  and_intros <;> (unfold doListFaults; (repeat' split) <;> simp)

/-- SET CONCEAL. -/
@[simp] theorem doSetConceal_frame (source : Nat) (r : Request) (k : Nat) :
    (doSetConceal source r k s).sup = s.sup ∧ (doSetConceal source r k s).rx = s.rx ∧
    (doSetConceal source r k s).scan = s.scan ∧ (doSetConceal source r k s).health = s.health ∧
    (doSetConceal source r k s).map = s.map ∧ (doSetConceal source r k s).drive = s.drive ∧
    (doSetConceal source r k s).conceal.active = s.conceal.active ∧
    (doSetConceal source r k s).conceal.shadow = s.conceal.shadow ∧ (doSetConceal source r k s).conceal.far = s.conceal.far ∧
    (doSetConceal source r k s).conceal.lastSent = s.conceal.lastSent ∧
    (doSetConceal source r k s).conceal.refresh = s.conceal.refresh ∧
    (doSetConceal source r k s).conceal.mismatch = s.conceal.mismatch ∧ (doSetConceal source r k s).gov = s.gov ∧
    (doSetConceal source r k s).seam.own = s.seam.own ∧ (doSetConceal source r k s).seam.recv = s.seam.recv ∧
    (doSetConceal source r k s).seam.buffer = s.seam.buffer ∧ (doSetConceal source r k s).seam.count = s.seam.count ∧
    (doSetConceal source r k s).seam.lineBank = s.seam.lineBank ∧
    (doSetConceal source r k s).seam.nextBank = s.seam.nextBank ∧ (doSetConceal source r k s).seam.tx = s.seam.tx ∧
    (doSetConceal source r k s).seam.mismatches = s.seam.mismatches ∧ (doSetConceal source r k s).seam.clash = s.seam.clash ∧
    (doSetConceal source r k s).seam.ownSent = s.seam.ownSent ∧ (doSetConceal source r k s).store.factory = s.store.factory ∧
    (doSetConceal source r k s).store.factoryCheckHi = s.store.factoryCheckHi ∧
    (doSetConceal source r k s).store.factoryCheckLo = s.store.factoryCheckLo ∧
    (doSetConceal source r k s).store.slots = s.store.slots ∧ (doSetConceal source r k s).store.settings = s.store.settings ∧
    (doSetConceal source r k s).store.dirty = s.store.dirty ∧ (doSetConceal source r k s).store.state = s.store.state ∧
    (doSetConceal source r k s).store.inFlight = s.store.inFlight ∧
    (doSetConceal source r k s).store.cursor = s.store.cursor ∧
    (doSetConceal source r k s).store.restartHold = s.store.restartHold ∧
    (doSetConceal source r k s).port.long = s.port.long ∧ (doSetConceal source r k s).port.request = s.port.request ∧
    (doSetConceal source r k s).port.queue = s.port.queue ∧ (doSetConceal source r k s).port.marks = s.port.marks ∧
    (doSetConceal source r k s).port.refillCursor = s.port.refillCursor ∧
    (doSetConceal source r k s).port.notice = s.port.notice ∧ (doSetConceal source r k s).port.reraise = s.port.reraise ∧
    (doSetConceal source r k s).pending = s.pending := by
  simp [doSetConceal]

/-- SET LIMIT. -/
@[simp] theorem doSetLimit_frame (source : Nat) (r : Request) (v : Nat) :
    (doSetLimit source r v s).sup = s.sup ∧ (doSetLimit source r v s).rx = s.rx ∧ (doSetLimit source r v s).scan = s.scan ∧
    (doSetLimit source r v s).health = s.health ∧ (doSetLimit source r v s).map = s.map ∧
    (doSetLimit source r v s).drive = s.drive ∧ (doSetLimit source r v s).conceal = s.conceal ∧
    (doSetLimit source r v s).gov.peers = s.gov.peers ∧ (doSetLimit source r v s).gov.factor = s.gov.factor ∧
    (doSetLimit source r v s).gov.overFlag = s.gov.overFlag ∧ (doSetLimit source r v s).gov.estimate = s.gov.estimate ∧
    (doSetLimit source r v s).gov.counter = s.gov.counter ∧ (doSetLimit source r v s).gov.carried = s.gov.carried ∧
    (doSetLimit source r v s).seam.own = s.seam.own ∧ (doSetLimit source r v s).seam.recv = s.seam.recv ∧
    (doSetLimit source r v s).seam.buffer = s.seam.buffer ∧ (doSetLimit source r v s).seam.count = s.seam.count ∧
    (doSetLimit source r v s).seam.lineBank = s.seam.lineBank ∧ (doSetLimit source r v s).seam.nextBank = s.seam.nextBank ∧
    (doSetLimit source r v s).seam.tx = s.seam.tx ∧ (doSetLimit source r v s).seam.mismatches = s.seam.mismatches ∧
    (doSetLimit source r v s).seam.clash = s.seam.clash ∧ (doSetLimit source r v s).seam.ownSent = s.seam.ownSent ∧
    (doSetLimit source r v s).store.factory = s.store.factory ∧
    (doSetLimit source r v s).store.factoryCheckHi = s.store.factoryCheckHi ∧
    (doSetLimit source r v s).store.factoryCheckLo = s.store.factoryCheckLo ∧
    (doSetLimit source r v s).store.slots = s.store.slots ∧ (doSetLimit source r v s).store.settings = s.store.settings ∧
    (doSetLimit source r v s).store.dirty = s.store.dirty ∧ (doSetLimit source r v s).store.state = s.store.state ∧
    (doSetLimit source r v s).store.inFlight = s.store.inFlight ∧ (doSetLimit source r v s).store.cursor = s.store.cursor ∧
    (doSetLimit source r v s).store.restartHold = s.store.restartHold ∧ (doSetLimit source r v s).port.long = s.port.long ∧
    (doSetLimit source r v s).port.request = s.port.request ∧ (doSetLimit source r v s).port.queue = s.port.queue ∧
    (doSetLimit source r v s).port.marks = s.port.marks ∧ (doSetLimit source r v s).port.refillCursor = s.port.refillCursor ∧
    (doSetLimit source r v s).port.notice = s.port.notice ∧ (doSetLimit source r v s).port.reraise = s.port.reraise ∧
    (doSetLimit source r v s).pending = s.pending := by
  simp [doSetLimit]

/-- A request of step 6. -/
@[simp] theorem carryOut_frame (source : Nat) (r : Request) :
    (carryOut source r s).sup = s.sup ∧ (carryOut source r s).rx = s.rx ∧ (carryOut source r s).scan = s.scan ∧
    (carryOut source r s).health.cursor = s.health.cursor ∧ (carryOut source r s).health.plan = s.health.plan ∧
    (carryOut source r s).health.findings = s.health.findings ∧
    (carryOut source r s).health.anomalyRun = s.health.anomalyRun ∧
    (carryOut source r s).health.anomalyDue = s.health.anomalyDue ∧
    (carryOut source r s).map.factoryGain = s.map.factoryGain ∧ (carryOut source r s).drive = s.drive ∧
    (carryOut source r s).conceal.active = s.conceal.active ∧ (carryOut source r s).conceal.shadow = s.conceal.shadow ∧
    (carryOut source r s).conceal.far = s.conceal.far ∧ (carryOut source r s).conceal.lastSent = s.conceal.lastSent ∧
    (carryOut source r s).conceal.refresh = s.conceal.refresh ∧ (carryOut source r s).conceal.mismatch = s.conceal.mismatch ∧
    (carryOut source r s).gov.peers = s.gov.peers ∧ (carryOut source r s).gov.factor = s.gov.factor ∧
    (carryOut source r s).gov.overFlag = s.gov.overFlag ∧ (carryOut source r s).gov.estimate = s.gov.estimate ∧
    (carryOut source r s).gov.counter = s.gov.counter ∧ (carryOut source r s).gov.carried = s.gov.carried ∧
    (carryOut source r s).seam.own = s.seam.own ∧ (carryOut source r s).seam.recv = s.seam.recv ∧
    (carryOut source r s).seam.buffer = s.seam.buffer ∧ (carryOut source r s).seam.count = s.seam.count ∧
    (carryOut source r s).seam.lineBank = s.seam.lineBank ∧ (carryOut source r s).seam.nextBank = s.seam.nextBank ∧
    (carryOut source r s).seam.tx = s.seam.tx ∧ (carryOut source r s).seam.mismatches = s.seam.mismatches ∧
    (carryOut source r s).seam.clash = s.seam.clash ∧ (carryOut source r s).seam.ownSent = s.seam.ownSent ∧
    (carryOut source r s).store.factory = s.store.factory ∧
    (carryOut source r s).store.factoryCheckHi = s.store.factoryCheckHi ∧
    (carryOut source r s).store.factoryCheckLo = s.store.factoryCheckLo ∧ (carryOut source r s).store.slots = s.store.slots ∧
    (carryOut source r s).store.settings = s.store.settings ∧ (carryOut source r s).store.state = s.store.state ∧
    (carryOut source r s).store.inFlight = s.store.inFlight ∧ (carryOut source r s).store.cursor = s.store.cursor ∧
    (carryOut source r s).store.restartHold = s.store.restartHold ∧ (carryOut source r s).port.long = s.port.long ∧
    (carryOut source r s).port.request = s.port.request ∧ (carryOut source r s).port.refillCursor = s.port.refillCursor ∧
    (carryOut source r s).port.notice = s.port.notice ∧ (carryOut source r s).port.reraise = s.port.reraise ∧
    (carryOut source r s).pending = s.pending := by
  and_intros <;> (unfold carryOut; (repeat' split) <;> simp)

/-- A long request taken. -/
@[simp] theorem takeLong_frame (source : Nat) (k : LongKind) :
    (takeLong source k s).sup = s.sup ∧ (takeLong source k s).rx = s.rx ∧ (takeLong source k s).scan = s.scan ∧
    (takeLong source k s).health = s.health ∧ (takeLong source k s).map = s.map ∧ (takeLong source k s).drive = s.drive ∧
    (takeLong source k s).conceal = s.conceal ∧ (takeLong source k s).gov = s.gov ∧
    (takeLong source k s).seam.own = s.seam.own ∧ (takeLong source k s).seam.recv = s.seam.recv ∧
    (takeLong source k s).seam.buffer = s.seam.buffer ∧ (takeLong source k s).seam.count = s.seam.count ∧
    (takeLong source k s).seam.lineBank = s.seam.lineBank ∧ (takeLong source k s).seam.nextBank = s.seam.nextBank ∧
    (takeLong source k s).seam.tx = s.seam.tx ∧ (takeLong source k s).seam.mismatches = s.seam.mismatches ∧
    (takeLong source k s).seam.clash = s.seam.clash ∧ (takeLong source k s).seam.ownSent = s.seam.ownSent ∧
    (takeLong source k s).store = s.store ∧ (takeLong source k s).port.immediate = s.port.immediate ∧
    (takeLong source k s).port.queue = s.port.queue ∧ (takeLong source k s).port.marks = s.port.marks ∧
    (takeLong source k s).port.refillCursor = s.port.refillCursor ∧ (takeLong source k s).port.notice = s.port.notice ∧
    (takeLong source k s).port.reraise = s.port.reraise ∧ (takeLong source k s).pending = s.pending := by
  simp [takeLong]

/-- A request. -/
@[simp] theorem takeRequest_frame (source : Nat) (target : Byte) (r : Request) :
    (takeRequest source target r s).sup = s.sup ∧ (takeRequest source target r s).rx = s.rx ∧
    (takeRequest source target r s).scan = s.scan ∧ (takeRequest source target r s).health.cursor = s.health.cursor ∧
    (takeRequest source target r s).health.plan = s.health.plan ∧
    (takeRequest source target r s).health.findings = s.health.findings ∧
    (takeRequest source target r s).health.anomalyRun = s.health.anomalyRun ∧
    (takeRequest source target r s).health.anomalyDue = s.health.anomalyDue ∧
    (takeRequest source target r s).map.factoryGain = s.map.factoryGain ∧ (takeRequest source target r s).drive = s.drive ∧
    (takeRequest source target r s).conceal.active = s.conceal.active ∧
    (takeRequest source target r s).conceal.shadow = s.conceal.shadow ∧
    (takeRequest source target r s).conceal.far = s.conceal.far ∧
    (takeRequest source target r s).conceal.lastSent = s.conceal.lastSent ∧
    (takeRequest source target r s).conceal.refresh = s.conceal.refresh ∧
    (takeRequest source target r s).conceal.mismatch = s.conceal.mismatch ∧
    (takeRequest source target r s).gov.peers = s.gov.peers ∧ (takeRequest source target r s).gov.factor = s.gov.factor ∧
    (takeRequest source target r s).gov.overFlag = s.gov.overFlag ∧
    (takeRequest source target r s).gov.estimate = s.gov.estimate ∧
    (takeRequest source target r s).gov.counter = s.gov.counter ∧
    (takeRequest source target r s).gov.carried = s.gov.carried ∧ (takeRequest source target r s).seam.own = s.seam.own ∧
    (takeRequest source target r s).seam.recv = s.seam.recv ∧ (takeRequest source target r s).seam.buffer = s.seam.buffer ∧
    (takeRequest source target r s).seam.count = s.seam.count ∧
    (takeRequest source target r s).seam.lineBank = s.seam.lineBank ∧
    (takeRequest source target r s).seam.nextBank = s.seam.nextBank ∧ (takeRequest source target r s).seam.tx = s.seam.tx ∧
    (takeRequest source target r s).seam.mismatches = s.seam.mismatches ∧
    (takeRequest source target r s).seam.clash = s.seam.clash ∧
    (takeRequest source target r s).seam.ownSent = s.seam.ownSent ∧
    (takeRequest source target r s).store.factory = s.store.factory ∧
    (takeRequest source target r s).store.factoryCheckHi = s.store.factoryCheckHi ∧
    (takeRequest source target r s).store.factoryCheckLo = s.store.factoryCheckLo ∧
    (takeRequest source target r s).store.slots = s.store.slots ∧
    (takeRequest source target r s).store.settings = s.store.settings ∧
    (takeRequest source target r s).store.state = s.store.state ∧
    (takeRequest source target r s).store.inFlight = s.store.inFlight ∧
    (takeRequest source target r s).store.cursor = s.store.cursor ∧
    (takeRequest source target r s).store.restartHold = s.store.restartHold ∧
    (takeRequest source target r s).port.refillCursor = s.port.refillCursor ∧
    (takeRequest source target r s).port.notice = s.port.notice ∧
    (takeRequest source target r s).port.reraise = s.port.reraise ∧ (takeRequest source target r s).pending = s.pending := by
  and_intros <;> (unfold takeRequest; (repeat' split) <;> simp)

/-- The end of a frame heard. -/
@[simp] theorem endFrame_frame :
    (endFrame s).sup = s.sup ∧ (endFrame s).rx = s.rx ∧ (endFrame s).scan = s.scan ∧ (endFrame s).health = s.health ∧
    (endFrame s).map = s.map ∧ (endFrame s).drive = s.drive ∧ (endFrame s).conceal = s.conceal ∧ (endFrame s).gov = s.gov ∧
    (endFrame s).seam.own = s.seam.own ∧ (endFrame s).seam.items = s.seam.items ∧
    (endFrame s).seam.lineBank = s.seam.lineBank ∧ (endFrame s).seam.nextBank = s.seam.nextBank ∧
    (endFrame s).seam.tx = s.seam.tx ∧ (endFrame s).seam.mismatches = s.seam.mismatches ∧
    (endFrame s).seam.clash = s.seam.clash ∧ (endFrame s).store = s.store ∧ (endFrame s).port = s.port ∧
    (endFrame s).pending = s.pending := by
  simp [endFrame]

/-- A geometry mismatch. -/
@[simp] theorem setMismatch_frame :
    (setMismatch s).sup = s.sup ∧ (setMismatch s).rx = s.rx ∧ (setMismatch s).scan = s.scan ∧
    (setMismatch s).health = s.health ∧ (setMismatch s).map = s.map ∧ (setMismatch s).drive = s.drive ∧
    (setMismatch s).conceal.active = s.conceal.active ∧ (setMismatch s).conceal.shadow = s.conceal.shadow ∧
    (setMismatch s).conceal.rebuild = s.conceal.rebuild ∧ (setMismatch s).conceal.rerun = s.conceal.rerun ∧
    (setMismatch s).conceal.k = s.conceal.k ∧ (setMismatch s).conceal.far = s.conceal.far ∧
    (setMismatch s).conceal.lastSent = s.conceal.lastSent ∧ (setMismatch s).conceal.refresh = s.conceal.refresh ∧
    (setMismatch s).gov = s.gov ∧ (setMismatch s).seam.own = s.seam.own ∧ (setMismatch s).seam.recv = s.seam.recv ∧
    (setMismatch s).seam.buffer = s.seam.buffer ∧ (setMismatch s).seam.count = s.seam.count ∧
    (setMismatch s).seam.lineBank = s.seam.lineBank ∧ (setMismatch s).seam.nextBank = s.seam.nextBank ∧
    (setMismatch s).seam.tx = s.seam.tx ∧ (setMismatch s).seam.mismatches = s.seam.mismatches ∧
    (setMismatch s).seam.clash = s.seam.clash ∧ (setMismatch s).seam.ownSent = s.seam.ownSent ∧
    (setMismatch s).store = s.store ∧ (setMismatch s).port.immediate = s.port.immediate ∧
    (setMismatch s).port.long = s.port.long ∧ (setMismatch s).port.request = s.port.request ∧
    (setMismatch s).port.queue = s.port.queue ∧ (setMismatch s).port.marks = s.port.marks ∧
    (setMismatch s).port.refillCursor = s.port.refillCursor ∧ (setMismatch s).pending = s.pending := by
  and_intros <;> (unfold setMismatch; (repeat' split) <;> simp)

/-- A far-edge record renewed. -/
@[simp] theorem renewFar_frame (e : Edge) (content : EdgeContent) :
    (renewFar e content s).sup = s.sup ∧ (renewFar e content s).rx = s.rx ∧ (renewFar e content s).scan = s.scan ∧
    (renewFar e content s).health = s.health ∧ (renewFar e content s).map = s.map ∧ (renewFar e content s).drive = s.drive ∧
    (renewFar e content s).conceal.active = s.conceal.active ∧ (renewFar e content s).conceal.shadow = s.conceal.shadow ∧
    (renewFar e content s).conceal.k = s.conceal.k ∧ (renewFar e content s).conceal.lastSent = s.conceal.lastSent ∧
    (renewFar e content s).conceal.refresh = s.conceal.refresh ∧
    (renewFar e content s).conceal.mismatch = s.conceal.mismatch ∧ (renewFar e content s).gov = s.gov ∧
    (renewFar e content s).seam = s.seam ∧ (renewFar e content s).store = s.store ∧ (renewFar e content s).port = s.port ∧
    (renewFar e content s).pending = s.pending := by
  simp [renewFar]

/-- An EDGE frame. -/
@[simp] theorem takeEdge_frame (source : Nat) (body : List Byte) :
    (takeEdge source body s).sup = s.sup ∧ (takeEdge source body s).rx = s.rx ∧ (takeEdge source body s).scan = s.scan ∧
    (takeEdge source body s).health = s.health ∧ (takeEdge source body s).map = s.map ∧
    (takeEdge source body s).drive = s.drive ∧ (takeEdge source body s).conceal.active = s.conceal.active ∧
    (takeEdge source body s).conceal.shadow = s.conceal.shadow ∧ (takeEdge source body s).conceal.k = s.conceal.k ∧
    (takeEdge source body s).conceal.lastSent = s.conceal.lastSent ∧
    (takeEdge source body s).conceal.refresh = s.conceal.refresh ∧ (takeEdge source body s).gov = s.gov ∧
    (takeEdge source body s).seam.own = s.seam.own ∧ (takeEdge source body s).seam.recv = s.seam.recv ∧
    (takeEdge source body s).seam.buffer = s.seam.buffer ∧ (takeEdge source body s).seam.count = s.seam.count ∧
    (takeEdge source body s).seam.lineBank = s.seam.lineBank ∧ (takeEdge source body s).seam.nextBank = s.seam.nextBank ∧
    (takeEdge source body s).seam.tx = s.seam.tx ∧ (takeEdge source body s).seam.mismatches = s.seam.mismatches ∧
    (takeEdge source body s).seam.clash = s.seam.clash ∧ (takeEdge source body s).seam.ownSent = s.seam.ownSent ∧
    (takeEdge source body s).store = s.store ∧ (takeEdge source body s).port.immediate = s.port.immediate ∧
    (takeEdge source body s).port.long = s.port.long ∧ (takeEdge source body s).port.request = s.port.request ∧
    (takeEdge source body s).port.queue = s.port.queue ∧ (takeEdge source body s).port.marks = s.port.marks ∧
    (takeEdge source body s).port.refillCursor = s.port.refillCursor ∧ (takeEdge source body s).pending = s.pending := by
  and_intros <;> (unfold takeEdge; (repeat' split) <;> simp)

/-- A LOAD frame. -/
@[simp] theorem takeLoad_frame (source : Nat) (body : List Byte) :
    (takeLoad source body s).sup = s.sup ∧ (takeLoad source body s).rx = s.rx ∧ (takeLoad source body s).scan = s.scan ∧
    (takeLoad source body s).health = s.health ∧ (takeLoad source body s).map = s.map ∧
    (takeLoad source body s).drive = s.drive ∧ (takeLoad source body s).conceal = s.conceal ∧
    (takeLoad source body s).gov.factor = s.gov.factor ∧ (takeLoad source body s).gov.overFlag = s.gov.overFlag ∧
    (takeLoad source body s).gov.estimate = s.gov.estimate ∧ (takeLoad source body s).gov.limit = s.gov.limit ∧
    (takeLoad source body s).gov.counter = s.gov.counter ∧ (takeLoad source body s).gov.carried = s.gov.carried ∧
    (takeLoad source body s).seam = s.seam ∧ (takeLoad source body s).store = s.store ∧
    (takeLoad source body s).port = s.port ∧ (takeLoad source body s).pending = s.pending := by
  and_intros <;> (unfold takeLoad; (repeat' split) <;> simp)

/-- An accepted frame. -/
@[simp] theorem handOver_frame (f : HeardFrame) :
    (handOver f s).sup = s.sup ∧ (handOver f s).rx = s.rx ∧ (handOver f s).scan = s.scan ∧
    (handOver f s).health.cursor = s.health.cursor ∧ (handOver f s).health.plan = s.health.plan ∧
    (handOver f s).health.findings = s.health.findings ∧ (handOver f s).health.anomalyRun = s.health.anomalyRun ∧
    (handOver f s).health.anomalyDue = s.health.anomalyDue ∧ (handOver f s).map.factoryGain = s.map.factoryGain ∧
    (handOver f s).drive = s.drive ∧ (handOver f s).conceal.active = s.conceal.active ∧
    (handOver f s).conceal.shadow = s.conceal.shadow ∧ (handOver f s).conceal.lastSent = s.conceal.lastSent ∧
    (handOver f s).conceal.refresh = s.conceal.refresh ∧ (handOver f s).gov.factor = s.gov.factor ∧
    (handOver f s).gov.overFlag = s.gov.overFlag ∧ (handOver f s).gov.estimate = s.gov.estimate ∧
    (handOver f s).gov.counter = s.gov.counter ∧ (handOver f s).gov.carried = s.gov.carried ∧
    (handOver f s).seam.own = s.seam.own ∧ (handOver f s).seam.recv = s.seam.recv ∧
    (handOver f s).seam.buffer = s.seam.buffer ∧ (handOver f s).seam.count = s.seam.count ∧
    (handOver f s).seam.lineBank = s.seam.lineBank ∧ (handOver f s).seam.nextBank = s.seam.nextBank ∧
    (handOver f s).seam.tx = s.seam.tx ∧ (handOver f s).seam.mismatches = s.seam.mismatches ∧
    (handOver f s).seam.clash = s.seam.clash ∧ (handOver f s).seam.ownSent = s.seam.ownSent ∧
    (handOver f s).store.factory = s.store.factory ∧ (handOver f s).store.factoryCheckHi = s.store.factoryCheckHi ∧
    (handOver f s).store.factoryCheckLo = s.store.factoryCheckLo ∧ (handOver f s).store.slots = s.store.slots ∧
    (handOver f s).store.settings = s.store.settings ∧ (handOver f s).store.state = s.store.state ∧
    (handOver f s).store.inFlight = s.store.inFlight ∧ (handOver f s).store.cursor = s.store.cursor ∧
    (handOver f s).store.restartHold = s.store.restartHold ∧ (handOver f s).port.refillCursor = s.port.refillCursor ∧
    (handOver f s).pending = s.pending := by
  and_intros <;> (unfold handOver; (repeat' split) <;> simp)

/-- The wait for an idle line. -/
@[simp] theorem waitIdle_frame :
    (waitIdle s).sup = s.sup ∧ (waitIdle s).rx = s.rx ∧ (waitIdle s).scan = s.scan ∧ (waitIdle s).health = s.health ∧
    (waitIdle s).map = s.map ∧ (waitIdle s).drive = s.drive ∧ (waitIdle s).conceal = s.conceal ∧ (waitIdle s).gov = s.gov ∧
    (waitIdle s).seam.own = s.seam.own ∧ (waitIdle s).seam.items = s.seam.items ∧
    (waitIdle s).seam.lineBank = s.seam.lineBank ∧ (waitIdle s).seam.nextBank = s.seam.nextBank ∧
    (waitIdle s).seam.tx = s.seam.tx ∧ (waitIdle s).seam.mismatches = s.seam.mismatches ∧
    (waitIdle s).seam.clash = s.seam.clash ∧ (waitIdle s).store = s.store ∧ (waitIdle s).port = s.port ∧
    (waitIdle s).pending = s.pending := by
  simp [waitIdle]

/-- A break at the Concealment Unit. -/
@[simp] theorem breakConceal_frame :
    (breakConceal s).sup = s.sup ∧ (breakConceal s).rx = s.rx ∧ (breakConceal s).scan = s.scan ∧
    (breakConceal s).health = s.health ∧ (breakConceal s).map = s.map ∧ (breakConceal s).drive = s.drive ∧
    (breakConceal s).conceal.active = s.conceal.active ∧ (breakConceal s).conceal.shadow = s.conceal.shadow ∧
    (breakConceal s).conceal.k = s.conceal.k ∧ (breakConceal s).conceal.lastSent = s.conceal.lastSent ∧
    (breakConceal s).conceal.refresh = s.conceal.refresh ∧ (breakConceal s).conceal.mismatch = s.conceal.mismatch ∧
    (breakConceal s).gov = s.gov ∧ (breakConceal s).seam.own = s.seam.own ∧ (breakConceal s).seam.recv = s.seam.recv ∧
    (breakConceal s).seam.buffer = s.seam.buffer ∧ (breakConceal s).seam.count = s.seam.count ∧
    (breakConceal s).seam.lineBank = s.seam.lineBank ∧ (breakConceal s).seam.nextBank = s.seam.nextBank ∧
    (breakConceal s).seam.tx = s.seam.tx ∧ (breakConceal s).seam.mismatches = s.seam.mismatches ∧
    (breakConceal s).seam.clash = s.seam.clash ∧ (breakConceal s).seam.ownSent = s.seam.ownSent ∧
    (breakConceal s).store = s.store ∧ (breakConceal s).port = s.port ∧ (breakConceal s).pending = s.pending := by
  and_intros <;> (unfold breakConceal; (repeat' split) <;> simp)

/-- A break at the Load Governor. -/
@[simp] theorem breakGovernor_frame :
    (breakGovernor s).sup = s.sup ∧ (breakGovernor s).rx = s.rx ∧ (breakGovernor s).scan = s.scan ∧
    (breakGovernor s).health = s.health ∧ (breakGovernor s).map = s.map ∧ (breakGovernor s).drive = s.drive ∧
    (breakGovernor s).conceal = s.conceal ∧ (breakGovernor s).gov.factor = s.gov.factor ∧
    (breakGovernor s).gov.overFlag = s.gov.overFlag ∧ (breakGovernor s).gov.estimate = s.gov.estimate ∧
    (breakGovernor s).gov.limit = s.gov.limit ∧ (breakGovernor s).gov.counter = s.gov.counter ∧
    (breakGovernor s).gov.carried = s.gov.carried ∧ (breakGovernor s).seam.own = s.seam.own ∧
    (breakGovernor s).seam.recv = s.seam.recv ∧ (breakGovernor s).seam.buffer = s.seam.buffer ∧
    (breakGovernor s).seam.count = s.seam.count ∧ (breakGovernor s).seam.lineBank = s.seam.lineBank ∧
    (breakGovernor s).seam.nextBank = s.seam.nextBank ∧ (breakGovernor s).seam.tx = s.seam.tx ∧
    (breakGovernor s).seam.mismatches = s.seam.mismatches ∧ (breakGovernor s).seam.clash = s.seam.clash ∧
    (breakGovernor s).seam.ownSent = s.seam.ownSent ∧ (breakGovernor s).store = s.store ∧ (breakGovernor s).port = s.port ∧
    (breakGovernor s).pending = s.pending := by
  and_intros <;> (unfold breakGovernor; (repeat' split) <;> simp)

/-- A break at the Seam Link Controller. -/
@[simp] theorem breakSeam_frame :
    (breakSeam s).sup = s.sup ∧ (breakSeam s).rx = s.rx ∧ (breakSeam s).scan = s.scan ∧ (breakSeam s).health = s.health ∧
    (breakSeam s).map = s.map ∧ (breakSeam s).drive = s.drive ∧ (breakSeam s).conceal = s.conceal ∧
    (breakSeam s).gov = s.gov ∧ (breakSeam s).seam.own = s.seam.own ∧ (breakSeam s).seam.items = s.seam.items ∧
    (breakSeam s).seam.lineBank = s.seam.lineBank ∧ (breakSeam s).seam.nextBank = s.seam.nextBank ∧
    (breakSeam s).store = s.store ∧ (breakSeam s).port = s.port ∧ (breakSeam s).pending = s.pending := by
  simp [breakSeam]

/-- A break at an attempt. -/
@[simp] theorem breakAttempt_frame (b : Bool) :
    (breakAttempt b s).sup = s.sup ∧ (breakAttempt b s).rx = s.rx ∧ (breakAttempt b s).scan = s.scan ∧
    (breakAttempt b s).health = s.health ∧ (breakAttempt b s).map = s.map ∧ (breakAttempt b s).drive.clip = s.drive.clip ∧
    (breakAttempt b s).drive.load = s.drive.load ∧ (breakAttempt b s).conceal = s.conceal ∧
    (breakAttempt b s).gov.peers = s.gov.peers ∧ (breakAttempt b s).gov.factor = s.gov.factor ∧
    (breakAttempt b s).gov.overFlag = s.gov.overFlag ∧ (breakAttempt b s).gov.estimate = s.gov.estimate ∧
    (breakAttempt b s).gov.limit = s.gov.limit ∧ (breakAttempt b s).gov.counter = s.gov.counter ∧
    (breakAttempt b s).seam.own = s.seam.own ∧ (breakAttempt b s).seam.recv = s.seam.recv ∧
    (breakAttempt b s).seam.buffer = s.seam.buffer ∧ (breakAttempt b s).seam.count = s.seam.count ∧
    (breakAttempt b s).seam.items = s.seam.items ∧ (breakAttempt b s).seam.nextBank = s.seam.nextBank ∧
    (breakAttempt b s).seam.tx = s.seam.tx ∧ (breakAttempt b s).seam.mismatches = s.seam.mismatches ∧
    (breakAttempt b s).seam.clash = s.seam.clash ∧ (breakAttempt b s).seam.ownSent = s.seam.ownSent ∧
    (breakAttempt b s).store = s.store ∧ (breakAttempt b s).port.request = s.port.request ∧
    (breakAttempt b s).port.marks = s.port.marks ∧ (breakAttempt b s).port.refillCursor = s.port.refillCursor ∧
    (breakAttempt b s).port.notice = s.port.notice ∧ (breakAttempt b s).pending = s.pending := by
  and_intros <;> (unfold breakAttempt; (repeat' split) <;> simp)

/-- An abort. -/
@[simp] theorem abortAttempt_frame :
    (abortAttempt s).sup = s.sup ∧ (abortAttempt s).rx = s.rx ∧ (abortAttempt s).scan = s.scan ∧
    (abortAttempt s).health = s.health ∧ (abortAttempt s).map = s.map ∧ (abortAttempt s).drive.clip = s.drive.clip ∧
    (abortAttempt s).drive.load = s.drive.load ∧ (abortAttempt s).conceal = s.conceal ∧
    (abortAttempt s).gov.peers = s.gov.peers ∧ (abortAttempt s).gov.factor = s.gov.factor ∧
    (abortAttempt s).gov.overFlag = s.gov.overFlag ∧ (abortAttempt s).gov.estimate = s.gov.estimate ∧
    (abortAttempt s).gov.limit = s.gov.limit ∧ (abortAttempt s).gov.counter = s.gov.counter ∧
    (abortAttempt s).seam.own = s.seam.own ∧ (abortAttempt s).seam.recv = s.seam.recv ∧
    (abortAttempt s).seam.buffer = s.seam.buffer ∧ (abortAttempt s).seam.count = s.seam.count ∧
    (abortAttempt s).seam.items = s.seam.items ∧ (abortAttempt s).seam.ownSent = s.seam.ownSent ∧
    (abortAttempt s).store = s.store ∧ (abortAttempt s).port.request = s.port.request ∧
    (abortAttempt s).port.marks = s.port.marks ∧ (abortAttempt s).port.refillCursor = s.port.refillCursor ∧
    (abortAttempt s).port.notice = s.port.notice ∧ (abortAttempt s).pending = s.pending := by
  and_intros <;> (simp only [abortAttempt]; split <;> simp)

/-- A refill. -/
@[simp] theorem refill_frame :
    (refill s).sup = s.sup ∧ (refill s).rx = s.rx ∧ (refill s).scan = s.scan ∧ (refill s).health = s.health ∧
    (refill s).map = s.map ∧ (refill s).drive = s.drive ∧ (refill s).conceal = s.conceal ∧ (refill s).gov = s.gov ∧
    (refill s).seam = s.seam ∧ (refill s).store = s.store ∧ (refill s).port.immediate = s.port.immediate ∧
    (refill s).port.long = s.port.long ∧ (refill s).port.request = s.port.request ∧ (refill s).port.notice = s.port.notice ∧
    (refill s).port.reraise = s.port.reraise ∧ (refill s).pending = s.pending := by
  and_intros <;> (unfold refill; (repeat' split) <;> simp)

/-- The report head becoming pending. -/
@[simp] theorem pendHead_frame :
    (pendHead s).sup = s.sup ∧ (pendHead s).rx = s.rx ∧ (pendHead s).scan = s.scan ∧ (pendHead s).health = s.health ∧
    (pendHead s).map = s.map ∧ (pendHead s).drive = s.drive ∧ (pendHead s).conceal = s.conceal ∧ (pendHead s).gov = s.gov ∧
    (pendHead s).seam.own = s.seam.own ∧ (pendHead s).seam.recv = s.seam.recv ∧ (pendHead s).seam.buffer = s.seam.buffer ∧
    (pendHead s).seam.count = s.seam.count ∧ (pendHead s).seam.lineBank = s.seam.lineBank ∧
    (pendHead s).seam.nextBank = s.seam.nextBank ∧ (pendHead s).seam.tx = s.seam.tx ∧
    (pendHead s).seam.mismatches = s.seam.mismatches ∧ (pendHead s).seam.clash = s.seam.clash ∧
    (pendHead s).seam.ownSent = s.seam.ownSent ∧ (pendHead s).store = s.store ∧ (pendHead s).port = s.port ∧
    (pendHead s).pending = s.pending := by
  and_intros <;> (unfold pendHead; (repeat' split) <;> simp)

/-- The report head sent. -/
@[simp] theorem completeHead_frame :
    (completeHead s).sup = s.sup ∧ (completeHead s).rx = s.rx ∧ (completeHead s).scan = s.scan ∧
    (completeHead s).health = s.health ∧ (completeHead s).map = s.map ∧ (completeHead s).drive = s.drive ∧
    (completeHead s).conceal = s.conceal ∧ (completeHead s).gov = s.gov ∧ (completeHead s).seam.own = s.seam.own ∧
    (completeHead s).seam.recv = s.seam.recv ∧ (completeHead s).seam.buffer = s.seam.buffer ∧
    (completeHead s).seam.count = s.seam.count ∧ (completeHead s).seam.lineBank = s.seam.lineBank ∧
    (completeHead s).seam.nextBank = s.seam.nextBank ∧ (completeHead s).seam.tx = s.seam.tx ∧
    (completeHead s).seam.mismatches = s.seam.mismatches ∧ (completeHead s).seam.clash = s.seam.clash ∧
    (completeHead s).seam.ownSent = s.seam.ownSent ∧ (completeHead s).store = s.store ∧
    (completeHead s).port.immediate = s.port.immediate ∧ (completeHead s).port.long = s.port.long ∧
    (completeHead s).port.request = s.port.request ∧ (completeHead s).port.notice = s.port.notice ∧
    (completeHead s).port.reraise = s.port.reraise ∧ (completeHead s).pending = s.pending := by
  and_intros <;> (unfold completeHead; (repeat' split) <;> simp)

/-- The tile notice sent. -/
@[simp] theorem completeNotice_frame :
    (completeNotice s).sup = s.sup ∧ (completeNotice s).rx = s.rx ∧ (completeNotice s).scan = s.scan ∧
    (completeNotice s).health = s.health ∧ (completeNotice s).map = s.map ∧ (completeNotice s).drive = s.drive ∧
    (completeNotice s).conceal = s.conceal ∧ (completeNotice s).gov = s.gov ∧ (completeNotice s).seam.own = s.seam.own ∧
    (completeNotice s).seam.recv = s.seam.recv ∧ (completeNotice s).seam.buffer = s.seam.buffer ∧
    (completeNotice s).seam.count = s.seam.count ∧ (completeNotice s).seam.lineBank = s.seam.lineBank ∧
    (completeNotice s).seam.nextBank = s.seam.nextBank ∧ (completeNotice s).seam.tx = s.seam.tx ∧
    (completeNotice s).seam.mismatches = s.seam.mismatches ∧ (completeNotice s).seam.clash = s.seam.clash ∧
    (completeNotice s).seam.ownSent = s.seam.ownSent ∧ (completeNotice s).store = s.store ∧
    (completeNotice s).port.immediate = s.port.immediate ∧ (completeNotice s).port.long = s.port.long ∧
    (completeNotice s).port.request = s.port.request ∧ (completeNotice s).port.queue = s.port.queue ∧
    (completeNotice s).port.marks = s.port.marks ∧ (completeNotice s).port.refillCursor = s.port.refillCursor ∧
    (completeNotice s).pending = s.pending := by
  and_intros <;> (unfold completeNotice; (repeat' split) <;> simp)

/-- An EDGE frame sent. -/
@[simp] theorem completeEdge_frame (e : Edge) (content : Option EdgeContent) :
    (completeEdge e content s).sup = s.sup ∧ (completeEdge e content s).rx = s.rx ∧
    (completeEdge e content s).scan = s.scan ∧ (completeEdge e content s).health = s.health ∧
    (completeEdge e content s).map = s.map ∧ (completeEdge e content s).drive = s.drive ∧
    (completeEdge e content s).conceal.active = s.conceal.active ∧
    (completeEdge e content s).conceal.shadow = s.conceal.shadow ∧
    (completeEdge e content s).conceal.rebuild = s.conceal.rebuild ∧
    (completeEdge e content s).conceal.rerun = s.conceal.rerun ∧ (completeEdge e content s).conceal.k = s.conceal.k ∧
    (completeEdge e content s).conceal.far = s.conceal.far ∧ (completeEdge e content s).conceal.refresh = s.conceal.refresh ∧
    (completeEdge e content s).conceal.mismatch = s.conceal.mismatch ∧ (completeEdge e content s).gov = s.gov ∧
    (completeEdge e content s).seam.own = s.seam.own ∧ (completeEdge e content s).seam.recv = s.seam.recv ∧
    (completeEdge e content s).seam.buffer = s.seam.buffer ∧ (completeEdge e content s).seam.count = s.seam.count ∧
    (completeEdge e content s).seam.lineBank = s.seam.lineBank ∧ (completeEdge e content s).seam.nextBank = s.seam.nextBank ∧
    (completeEdge e content s).seam.tx = s.seam.tx ∧ (completeEdge e content s).seam.mismatches = s.seam.mismatches ∧
    (completeEdge e content s).seam.clash = s.seam.clash ∧ (completeEdge e content s).seam.ownSent = s.seam.ownSent ∧
    (completeEdge e content s).store = s.store ∧ (completeEdge e content s).port = s.port ∧
    (completeEdge e content s).pending = s.pending := by
  and_intros <;> (simp only [completeEdge]; split <;> simp)

/-- An owner's part of a completion. -/
@[simp] theorem ownerCompletes_frame (c : Composed) :
    (ownerCompletes c s).sup = s.sup ∧ (ownerCompletes c s).rx = s.rx ∧ (ownerCompletes c s).scan = s.scan ∧
    (ownerCompletes c s).health = s.health ∧ (ownerCompletes c s).map = s.map ∧ (ownerCompletes c s).drive = s.drive ∧
    (ownerCompletes c s).conceal.active = s.conceal.active ∧ (ownerCompletes c s).conceal.shadow = s.conceal.shadow ∧
    (ownerCompletes c s).conceal.rebuild = s.conceal.rebuild ∧ (ownerCompletes c s).conceal.rerun = s.conceal.rerun ∧
    (ownerCompletes c s).conceal.k = s.conceal.k ∧ (ownerCompletes c s).conceal.far = s.conceal.far ∧
    (ownerCompletes c s).conceal.refresh = s.conceal.refresh ∧ (ownerCompletes c s).conceal.mismatch = s.conceal.mismatch ∧
    (ownerCompletes c s).gov.peers = s.gov.peers ∧ (ownerCompletes c s).gov.factor = s.gov.factor ∧
    (ownerCompletes c s).gov.overFlag = s.gov.overFlag ∧ (ownerCompletes c s).gov.estimate = s.gov.estimate ∧
    (ownerCompletes c s).gov.limit = s.gov.limit ∧ (ownerCompletes c s).gov.counter = s.gov.counter ∧
    (ownerCompletes c s).seam.own = s.seam.own ∧ (ownerCompletes c s).seam.recv = s.seam.recv ∧
    (ownerCompletes c s).seam.buffer = s.seam.buffer ∧ (ownerCompletes c s).seam.count = s.seam.count ∧
    (ownerCompletes c s).seam.lineBank = s.seam.lineBank ∧ (ownerCompletes c s).seam.nextBank = s.seam.nextBank ∧
    (ownerCompletes c s).seam.tx = s.seam.tx ∧ (ownerCompletes c s).seam.mismatches = s.seam.mismatches ∧
    (ownerCompletes c s).seam.clash = s.seam.clash ∧ (ownerCompletes c s).seam.ownSent = s.seam.ownSent ∧
    (ownerCompletes c s).store = s.store ∧ (ownerCompletes c s).port.request = s.port.request ∧
    (ownerCompletes c s).pending = s.pending := by
  and_intros <;> (unfold ownerCompletes; (repeat' split) <;> simp)

/-- The advance of the banks. -/
@[simp] theorem advanceBanks_frame (c : Composed) :
    (advanceBanks c s).sup = s.sup ∧ (advanceBanks c s).rx = s.rx ∧ (advanceBanks c s).scan = s.scan ∧
    (advanceBanks c s).health = s.health ∧ (advanceBanks c s).map = s.map ∧ (advanceBanks c s).drive = s.drive ∧
    (advanceBanks c s).conceal = s.conceal ∧ (advanceBanks c s).gov = s.gov ∧ (advanceBanks c s).seam.own = s.seam.own ∧
    (advanceBanks c s).seam.recv = s.seam.recv ∧ (advanceBanks c s).seam.buffer = s.seam.buffer ∧
    (advanceBanks c s).seam.count = s.seam.count ∧ (advanceBanks c s).seam.clash = s.seam.clash ∧
    (advanceBanks c s).store = s.store ∧ (advanceBanks c s).port = s.port ∧ (advanceBanks c s).pending = s.pending := by
  simp [advanceBanks]

/-- A frame sent. -/
@[simp] theorem completeFrame_frame (c : Composed) :
    (completeFrame c s).sup = s.sup ∧ (completeFrame c s).rx = s.rx ∧ (completeFrame c s).scan = s.scan ∧
    (completeFrame c s).health = s.health ∧ (completeFrame c s).map = s.map ∧ (completeFrame c s).drive.clip = s.drive.clip ∧
    (completeFrame c s).drive.load = s.drive.load ∧ (completeFrame c s).conceal.active = s.conceal.active ∧
    (completeFrame c s).conceal.shadow = s.conceal.shadow ∧ (completeFrame c s).conceal.rebuild = s.conceal.rebuild ∧
    (completeFrame c s).conceal.rerun = s.conceal.rerun ∧ (completeFrame c s).conceal.k = s.conceal.k ∧
    (completeFrame c s).conceal.far = s.conceal.far ∧ (completeFrame c s).conceal.refresh = s.conceal.refresh ∧
    (completeFrame c s).conceal.mismatch = s.conceal.mismatch ∧ (completeFrame c s).gov.peers = s.gov.peers ∧
    (completeFrame c s).gov.factor = s.gov.factor ∧ (completeFrame c s).gov.overFlag = s.gov.overFlag ∧
    (completeFrame c s).gov.estimate = s.gov.estimate ∧ (completeFrame c s).gov.limit = s.gov.limit ∧
    (completeFrame c s).gov.counter = s.gov.counter ∧ (completeFrame c s).seam.own = s.seam.own ∧
    (completeFrame c s).seam.recv = s.seam.recv ∧ (completeFrame c s).seam.buffer = s.seam.buffer ∧
    (completeFrame c s).seam.count = s.seam.count ∧ (completeFrame c s).seam.clash = s.seam.clash ∧
    (completeFrame c s).store = s.store ∧ (completeFrame c s).port.request = s.port.request ∧
    (completeFrame c s).pending = s.pending := by
  simp [completeFrame]

/-- A write completed. -/
@[simp] theorem completeWrite_frame (job : WriteJob) :
    (completeWrite job s).sup = s.sup ∧ (completeWrite job s).rx = s.rx ∧ (completeWrite job s).scan = s.scan ∧
    (completeWrite job s).health = s.health ∧ (completeWrite job s).map = s.map ∧ (completeWrite job s).drive = s.drive ∧
    (completeWrite job s).conceal = s.conceal ∧ (completeWrite job s).gov = s.gov ∧ (completeWrite job s).seam = s.seam ∧
    (completeWrite job s).store.factory = s.store.factory ∧
    (completeWrite job s).store.factoryCheckHi = s.store.factoryCheckHi ∧
    (completeWrite job s).store.factoryCheckLo = s.store.factoryCheckLo ∧ (completeWrite job s).store.dirty = s.store.dirty ∧
    (completeWrite job s).store.settingsDirty = s.store.settingsDirty ∧
    (completeWrite job s).store.restartHold = s.store.restartHold ∧ (completeWrite job s).port = s.port ∧
    (completeWrite job s).pending = s.pending := by
  cases job <;> simp [completeWrite, landWrite]

/-- A write timed out. -/
@[simp] theorem timeoutWrite_frame (job : WriteJob) :
    (timeoutWrite job s).sup = s.sup ∧ (timeoutWrite job s).rx = s.rx ∧ (timeoutWrite job s).scan = s.scan ∧
    (timeoutWrite job s).health = s.health ∧ (timeoutWrite job s).map = s.map ∧ (timeoutWrite job s).drive = s.drive ∧
    (timeoutWrite job s).conceal = s.conceal ∧ (timeoutWrite job s).gov = s.gov ∧ (timeoutWrite job s).seam = s.seam ∧
    (timeoutWrite job s).store.factory = s.store.factory ∧
    (timeoutWrite job s).store.factoryCheckHi = s.store.factoryCheckHi ∧
    (timeoutWrite job s).store.factoryCheckLo = s.store.factoryCheckLo ∧ (timeoutWrite job s).store.cursor = s.store.cursor ∧
    (timeoutWrite job s).store.restartHold = s.store.restartHold ∧ (timeoutWrite job s).port = s.port ∧
    (timeoutWrite job s).pending = s.pending := by
  cases job <;> simp [timeoutWrite, failWrite]

/-- The notice of a link that leaves DARK. -/
@[simp] theorem noticeLeavingDark_frame :
    (noticeLeavingDark s).sup = s.sup ∧ (noticeLeavingDark s).rx = s.rx ∧ (noticeLeavingDark s).scan = s.scan ∧
    (noticeLeavingDark s).health = s.health ∧ (noticeLeavingDark s).map = s.map ∧ (noticeLeavingDark s).drive = s.drive ∧
    (noticeLeavingDark s).conceal = s.conceal ∧ (noticeLeavingDark s).gov = s.gov ∧
    (noticeLeavingDark s).seam.own = s.seam.own ∧ (noticeLeavingDark s).seam.recv = s.seam.recv ∧
    (noticeLeavingDark s).seam.buffer = s.seam.buffer ∧ (noticeLeavingDark s).seam.count = s.seam.count ∧
    (noticeLeavingDark s).seam.lineBank = s.seam.lineBank ∧ (noticeLeavingDark s).seam.nextBank = s.seam.nextBank ∧
    (noticeLeavingDark s).seam.tx = s.seam.tx ∧ (noticeLeavingDark s).seam.mismatches = s.seam.mismatches ∧
    (noticeLeavingDark s).seam.clash = s.seam.clash ∧ (noticeLeavingDark s).seam.ownSent = s.seam.ownSent ∧
    (noticeLeavingDark s).store = s.store ∧ (noticeLeavingDark s).port.immediate = s.port.immediate ∧
    (noticeLeavingDark s).port.long = s.port.long ∧ (noticeLeavingDark s).port.request = s.port.request ∧
    (noticeLeavingDark s).port.queue = s.port.queue ∧ (noticeLeavingDark s).port.marks = s.port.marks ∧
    (noticeLeavingDark s).port.refillCursor = s.port.refillCursor ∧ (noticeLeavingDark s).pending = s.pending := by
  and_intros <;> (unfold noticeLeavingDark; (repeat' split) <;> simp)

/-- The receiver's changes at a real boundary. -/
@[simp] theorem acceptFrame_frame (f : PixelFrame) :
    (acceptFrame f s).sup = s.sup ∧ (acceptFrame f s).scan = s.scan ∧ (acceptFrame f s).health = s.health ∧
    (acceptFrame f s).map = s.map ∧ (acceptFrame f s).drive = s.drive ∧ (acceptFrame f s).conceal = s.conceal ∧
    (acceptFrame f s).gov = s.gov ∧ (acceptFrame f s).seam.own = s.seam.own ∧ (acceptFrame f s).seam.recv = s.seam.recv ∧
    (acceptFrame f s).seam.buffer = s.seam.buffer ∧ (acceptFrame f s).seam.count = s.seam.count ∧
    (acceptFrame f s).seam.lineBank = s.seam.lineBank ∧ (acceptFrame f s).seam.nextBank = s.seam.nextBank ∧
    (acceptFrame f s).seam.tx = s.seam.tx ∧ (acceptFrame f s).seam.mismatches = s.seam.mismatches ∧
    (acceptFrame f s).seam.clash = s.seam.clash ∧ (acceptFrame f s).seam.ownSent = s.seam.ownSent ∧
    (acceptFrame f s).store = s.store ∧ (acceptFrame f s).port.immediate = s.port.immediate ∧
    (acceptFrame f s).port.long = s.port.long ∧ (acceptFrame f s).port.request = s.port.request ∧
    (acceptFrame f s).port.queue = s.port.queue ∧ (acceptFrame f s).port.marks = s.port.marks ∧
    (acceptFrame f s).port.refillCursor = s.port.refillCursor ∧ (acceptFrame f s).pending = s.pending := by
  simp [acceptFrame]

/-- The receiver's changes at a synthetic boundary. -/
@[simp] theorem expireInterval_frame :
    (expireInterval s).sup = s.sup ∧ (expireInterval s).scan = s.scan ∧ (expireInterval s).health = s.health ∧
    (expireInterval s).map = s.map ∧ (expireInterval s).drive = s.drive ∧ (expireInterval s).conceal = s.conceal ∧
    (expireInterval s).gov = s.gov ∧ (expireInterval s).seam = s.seam ∧ (expireInterval s).store = s.store ∧
    (expireInterval s).port = s.port ∧ (expireInterval s).pending = s.pending := by
  simp [expireInterval]

/-- A discarded record. -/
@[simp] theorem discardRecord_frame :
    (discardRecord s).sup = s.sup ∧ (discardRecord s).scan = s.scan ∧ (discardRecord s).health = s.health ∧
    (discardRecord s).map = s.map ∧ (discardRecord s).drive = s.drive ∧ (discardRecord s).conceal = s.conceal ∧
    (discardRecord s).gov = s.gov ∧ (discardRecord s).seam = s.seam ∧ (discardRecord s).store = s.store ∧
    (discardRecord s).port = s.port ∧ (discardRecord s).pending = s.pending := by
  simp [discardRecord]

/-- What the end of a record can do: the record is discarded, or accepted with its boundary (R20). -/
theorem endRecord_cases (tk : Taking) :
    endRecord tk s = discardRecord s ∨
      ∃ f, s.rx.inTail = false ∧ readRecord s.rx.buffer = some f ∧ endRecord tk s = fillBanks (boundary tk (acceptFrame f s)) := by
  unfold endRecord
  split
  · exact .inl rfl
  · split
    · exact .inl rfl
    · exact .inr ⟨_, by simp_all, ‹_›, rfl⟩

/-- A part of the link changes nothing but the receiver's buffer and its discarding mark, before its end is taken (R19). -/
theorem collect_frame (part : List LineRun) (b : PixelRx) :
    collect part b = { b with buffer := (collect part b).buffer, inTail := (collect part b).inTail } := by
  unfold collect; split
  · rfl
  · split <;> rfl

/-- What the pins show in RESET. -/
@[simp] theorem seePins_frame (pins : Pins) :
    (seePins pins s).sup.state = s.sup.state ∧ (seePins pins s).sup.cause = s.sup.cause ∧
    (seePins pins s).sup.straps = s.sup.straps ∧ (seePins pins s).sup.findings = s.sup.findings ∧
    (seePins pins s).sup.readyTimer = s.sup.readyTimer ∧ (seePins pins s).sup.readyLow = s.sup.readyLow ∧
    (seePins pins s).sup.supply = s.sup.supply ∧ (seePins pins s).rx = s.rx ∧ (seePins pins s).scan = s.scan ∧
    (seePins pins s).health = s.health ∧ (seePins pins s).map = s.map ∧ (seePins pins s).drive = s.drive ∧
    (seePins pins s).conceal = s.conceal ∧ (seePins pins s).gov = s.gov ∧ (seePins pins s).seam = s.seam ∧
    (seePins pins s).store = s.store ∧ (seePins pins s).port = s.port ∧ (seePins pins s).pending = s.pending := by
  simp [seePins]

/-- Once the pins are seen, the tile is held in RESET by an asserted pin, or by a supply that has still to rise (R167). -/
theorem heldInReset_seePins (pins : Pins) :
    heldInReset (seePins pins s) = (pins.resetPin || (s.sup.supplyHeld && decide (pins.supplyMv ≤ Config.releaseMv))) := rfl

/-- What START_BEGIN can do: nothing outside RESET; in RESET it sees the pins, and begins the start when nothing holds the tile. -/
theorem execStartBegin_cases (pins : Pins) :
    (s.sup.state ≠ .reset ∧ execStartBegin pins s = .next s) ∨
      (s.sup.state = .reset ∧ heldInReset (seePins pins s) = true ∧ execStartBegin pins s = .next (seePins pins s)) ∨
      (s.sup.state = .reset ∧ heldInReset (seePins pins s) = false ∧
        execStartBegin pins s = .next (beginStart pins (seePins pins s))) := by
  unfold execStartBegin
  split
  · rename_i h
    cases hh : heldInReset (seePins pins s)
    · exact .inr (.inr ⟨h, rfl, by simp [hh]⟩)
    · exact .inr (.inl ⟨h, rfl, by simp [hh]⟩)
  · rename_i h
    exact .inl ⟨h, rfl⟩

/-- A broken frame. -/
@[simp] theorem frameBroken_frame :
    (frameBroken s).sup = s.sup ∧ (frameBroken s).rx = s.rx ∧ (frameBroken s).scan = s.scan ∧
    (frameBroken s).health = s.health ∧ (frameBroken s).map = s.map ∧ (frameBroken s).drive = s.drive ∧
    (frameBroken s).conceal = s.conceal ∧ (frameBroken s).gov = s.gov ∧ (frameBroken s).seam.own = s.seam.own ∧
    (frameBroken s).seam.items = s.seam.items ∧ (frameBroken s).seam.lineBank = s.seam.lineBank ∧
    (frameBroken s).seam.nextBank = s.seam.nextBank ∧ (frameBroken s).seam.tx = s.seam.tx ∧
    (frameBroken s).seam.mismatches = s.seam.mismatches ∧ (frameBroken s).seam.clash = s.seam.clash ∧
    (frameBroken s).store = s.store ∧ (frameBroken s).port = s.port ∧ (frameBroken s).pending = s.pending := by
  and_intros <;> (unfold frameBroken; split <;> simp)

/-- What SEAM_FRAME_END can do: end the tile's own frame, break a frame, or judge the bytes the line carries. -/
theorem execSeamFrameEnd_cases (line : List LineRun) :
    (s.seam.ownSent = true ∧ execSeamFrameEnd line s = .next (hearFrame false 0 0#8 id s)) ∨
      (s.seam.ownSent = false ∧ readLine line = none ∧ execSeamFrameEnd line s = .next (frameBroken s)) ∨
      ∃ bytes, s.seam.ownSent = false ∧ readLine line = some bytes ∧ execSeamFrameEnd line s = .next (endHeard bytes s) := by
  unfold execSeamFrameEnd
  cases ho : s.seam.ownSent
  · cases hl : readLine line with
    | none => exact .inr (.inl ⟨rfl, rfl, by simp⟩)
    | some bytes => exact .inr (.inr ⟨bytes, rfl, rfl, by simp⟩)
  · exact .inl ⟨rfl, by simp⟩

end Sys2Proof.Machine
end

