-- ==== Sys2Proof/Laws/Formats.lean ====
section
/-! SUPPORT. The byte fields and the check: what goes through two bytes comes back, and the check stays in 16 bits. -/

namespace Sys2Proof.Machine

@[simp] theorem byteOf_toNat (n : Nat) : (byteOf n).toNat = n % 256 := by simp [byteOf]

@[simp] theorem byteOf_toNat_self (b : Byte) : byteOf b.toNat = b := by simp [byteOf]

/-- A value of 16 bits through its two bytes. -/
theorem be16_byteOf (n : Nat) (h : n < 65536) : be16 (byteOf (n / 256)) (byteOf n) = n := by
  simp only [be16, byteOf_toNat]; omega

theorem be16_lt (hi lo : Byte) : be16 hi lo < 65536 := by
  have := hi.isLt; have := lo.isLt; simp only [be16]; omega

/-- Two bytes are the bytes of their value. -/
theorem bytes16_be16 (hi lo : Byte) : bytes16 (be16 hi lo) = [hi, lo] := by
  have h1 := hi.isLt
  have h2 := lo.isLt
  have e1 : (hi.toNat * 256 + lo.toNat) / 256 = hi.toNat := by omega
  have e2 : byteOf (hi.toNat * 256 + lo.toNat) = lo := by
    apply BitVec.eq_of_toNat_eq
    rw [byteOf_toNat]; omega
  simp [bytes16, be16, e1, e2]

@[simp] theorem length_bytes16 (n : Nat) : (bytes16 n).length = 2 := rfl

/-- The split in `crcForce` changes nothing. -/
@[simp] theorem crcForce_eq {α : Type} (r : Nat) (k : Nat → α) : crcForce r k = k r := by cases r <;> rfl

theorem crcBit_lt (r b : Nat) : crcBit r b < 65536 := by
  have h : r * 2 % 65536 < 65536 := Nat.mod_lt _ (by omega)
  unfold crcBit
  split
  · exact h
  · exact Nat.xor_lt_two_pow (n := 16) (by omega) (by omega)

theorem crcByte_lt (r : Nat) (b : Byte) : crcByte r b < 65536 := by
  simp only [crcByte, List.foldl]; exact crcBit_lt _ _

theorem crcFrom_lt (r : Nat) (h : r < 65536) (bs : List Byte) : crcFrom r bs < 65536 := by
  induction bs generalizing r with
  | nil => exact h
  | cons b bs ih => simp only [crcFrom, crcForce_eq]; exact ih _ (crcByte_lt _ _)

/-- The check is a value of 16 bits. -/
theorem crc_lt (bs : List Byte) : crc bs < 65536 := crcFrom_lt _ (by omega) bs

/-- The two check bytes give the check back. -/
theorem be16_crc (bs : List Byte) : be16 (byteOf (crc bs / 256)) (byteOf (crc bs)) = crc bs := be16_byteOf _ (crc_lt bs)

/-- The cell a cell field names is a cell. -/
theorem cellOf_lt (f : CellField) (c : Nat) (h : cellOf f = some c) : c < Config.cellCount := by
  simp only [cellOf] at h
  split at h
  · split at h
    · cases h; simp only [cellIndex, Config.cellCount]; omega
    · cases h
  · split at h
    · split at h
      · cases h; assumption
      · cases h
    · cases h

/-- Value fields are two bytes each. -/
theorem valueFields_length (bs : List Byte) (vs : List Nat) (h : valueFields bs = some vs) : bs.length = 2 * vs.length := by
  induction bs using valueFields.induct generalizing vs with
  | case1 => simp_all [valueFields]
  | case2 => simp [valueFields] at h
  | case3 hi lo rest hn => simp [valueFields, hn] at h
  | case4 hi lo rest ws hs ih =>
    simp only [valueFields, hs, Option.some.injEq] at h
    have := ih ws hs
    subst h
    simp only [List.length_cons, this]; omega

/-- An accepted record is no longer than the longest record (R20). -/
theorem readRecord_length (record : List Byte) (f : PixelFrame) (h : readRecord record = some f) :
    record.length ≤ Config.recordBytes := by
  cases record with
  | nil => cases h
  | cons kind rest =>
    simp only [readRecord] at h
    split at h
    · cases h
    · split at h
      · cases h
      · split at h
        · split at h
          · cases h
          · rename_i vs hvs
            have hl := valueFields_length _ _ hvs
            split at h
            · rename_i hc
              rw [List.length_take, hc] at hl
              simp only [List.length_cons, Config.recordBytes, Config.cellCount] at *; omega
            · cases h
        · split at h
          · split at h
            · simp only [List.length_cons, Config.recordBytes]; omega
            · cases h
          · cases h

/-- The byte that is kept behind the longest record tells as much as all that arrived (R19, R20). -/
theorem readRecord_take (record : List Byte) : readRecord (record.take (Config.recordBytes + 1)) = readRecord record := by
  by_cases hl : record.length ≤ Config.recordBytes + 1
  · rw [List.take_of_length_le hl]
  · have none : ∀ r : List Byte, Config.recordBytes < r.length → readRecord r = none := by
      intro r hr
      cases h : readRecord r with
      | none => rfl
      | some f => have := readRecord_length r f h; omega
    rw [none _ (by simp only [List.length_take]; omega), none _ (by omega)]

end Sys2Proof.Machine
end

