-- ==== Sys2Proof/Laws/Line.lean ====
section
/-! SUPPORT. The serial lines (R124, R19): a byte's ten bit times, a frame's or record's bytes through the line and back, and the pixel
link cut at its idles. -/

namespace Sys2Proof.Machine

/-- A byte through its data bits. -/
theorem byteOfBits_dataBits (b : Byte) : byteOfBits (dataBits b) = b := by
  revert b; decide +kernel

@[simp] theorem bitLevel_recessive (bit : Bool) : decide (bitLevel bit = .recessive) = bit := by cases bit <;> rfl

/-- The ten bit times, one by one. -/
theorem byteLevels_eq (b : Byte) :
    byteLevels b =
      [.dominant, bitLevel (b.getLsbD 7), bitLevel (b.getLsbD 6), bitLevel (b.getLsbD 5), bitLevel (b.getLsbD 4),
        bitLevel (b.getLsbD 3), bitLevel (b.getLsbD 2), bitLevel (b.getLsbD 1), bitLevel (b.getLsbD 0), .recessive] := rfl

/-- A byte's line: ten stretches of one bit time. -/
theorem serialLine_cons (bit : Nat) (b : Byte) (bs : List Byte) :
    serialLine bit (b :: bs) =
      ⟨.dominant, bit⟩ :: ⟨bitLevel (b.getLsbD 7), bit⟩ :: ⟨bitLevel (b.getLsbD 6), bit⟩ ::
        ⟨bitLevel (b.getLsbD 5), bit⟩ :: ⟨bitLevel (b.getLsbD 4), bit⟩ :: ⟨bitLevel (b.getLsbD 3), bit⟩ ::
        ⟨bitLevel (b.getLsbD 2), bit⟩ :: ⟨bitLevel (b.getLsbD 1), bit⟩ :: ⟨bitLevel (b.getLsbD 0), bit⟩ ::
        ⟨.recessive, bit⟩ :: serialLine bit bs := by
  simp [serialLine, frameLevels, byteLevels_eq]

@[simp] theorem serialLine_nil (bit : Nat) : serialLine bit [] = [] := rfl

theorem serialLine_ns (bit : Nat) (bs : List Byte) : ∀ r ∈ serialLine bit bs, r.ns = bit := by
  intro r h
  simp only [serialLine, List.mem_map] at h
  obtain ⟨l, -, rfl⟩ := h
  rfl

theorem realRuns_serialLine {bit : Nat} (h : 0 < bit) (bs : List Byte) : realRuns (serialLine bit bs) = serialLine bit bs :=
  List.filter_eq_self.mpr (fun r hr => by simp [serialLine_ns bit bs r hr, h])

/-! ## Bit times -/

theorem bitMiddle_succ (bit i : Nat) : bitMiddle bit (i + 1) = bitMiddle bit i + bit := by simp [bitMiddle, Nat.succ_mul]; omega

/-- The level in the first bit time. -/
theorem levelAt_first {bit : Nat} (h : 0 < bit) (l : Level) (rest : List LineRun) :
    levelAt (⟨l, bit⟩ :: rest) (bitMiddle bit 0) = l := by
  have : bitMiddle bit 0 < bit := by simp only [bitMiddle]; omega
  simp [levelAt, this]

/-- The level in a later bit time. -/
theorem levelAt_later (bit i : Nat) (l : Level) (rest : List LineRun) :
    levelAt (⟨l, bit⟩ :: rest) (bitMiddle bit (i + 1)) = levelAt rest (bitMiddle bit i) := by
  simp [levelAt, bitMiddle_succ]

/-- The line from the middle of the first bit time on. -/
theorem lineFrom_first {bit : Nat} (h : 0 < bit) (l : Level) (rest : List LineRun) :
    lineFrom (⟨l, bit⟩ :: rest) (bitMiddle bit 0) = ⟨l, bit - bit / 2⟩ :: rest := by
  have : bit / 2 < bit := by omega
  simp [lineFrom, bitMiddle, this]

/-- The line from the middle of a later bit time on. -/
theorem lineFrom_later (bit i : Nat) (l : Level) (rest : List LineRun) :
    lineFrom (⟨l, bit⟩ :: rest) (bitMiddle bit (i + 1)) = lineFrom rest (bitMiddle bit i) := by
  simp [lineFrom, bitMiddle_succ]

/-! ## The filter -/

/-- The filter lets a line without short dominant stretches through (R124). -/
theorem filterFrom_eq (n : Nat) (l : List LineRun) (h : ∀ r ∈ l, Config.glitchNs ≤ r.ns) : filterFrom n l = l := by
  induction l generalizing n with
  | nil => rfl
  | cons r rest ih =>
    obtain ⟨level, ns⟩ := r
    have hr : Config.glitchNs ≤ ns := h _ List.mem_cons_self
    have ih := fun m => ih m (fun r hr => h r (List.mem_cons_of_mem _ hr))
    cases level with
    | recessive => simp [filterFrom, ih]
    | dominant =>
      have : ¬n + ns + dominantFor rest < Config.glitchNs := by omega
      simp [filterFrom, ih, this]

theorem filteredLine_frameLine (bs : List Byte) : filteredLine (frameLine bs) = frameLine bs := by
  rw [filteredLine, frameLine, realRuns_serialLine (by decide)]
  exact filterFrom_eq 0 _ (fun r hr => by rw [serialLine_ns _ bs r hr]; decide)

/-! ## Reading -/

/-- A byte is read as it was sent, whatever follows, and the line behind it begins with the rest of its stop bit. -/
theorem read_byte {bit : Nat} (h : 0 < bit) (b : Byte) (rest : List LineRun) :
    let line := (byteLevels b).map (fun l => ⟨l, bit⟩) ++ rest
    readData bit line = b ∧ levelAt line (bitMiddle bit 9) = .recessive ∧
      lineFrom line (bitMiddle bit 9) = ⟨.recessive, bit - bit / 2⟩ :: rest := by
  intro line
  simp only [line, byteLevels_eq, List.map_cons, List.map_nil, List.cons_append, List.nil_append]
  refine ⟨?_, ?_, ?_⟩
  · conv => rhs; rw [← byteOfBits_dataBits b]
    simp [readData, levelAt_first h, levelAt_later, dataBits]
  · simp [levelAt_first h, levelAt_later]
  · simp [lineFrom_first h, lineFrom_later]

theorem serialLine_append (bit : Nat) (as bs : List Byte) : serialLine bit (as ++ bs) = serialLine bit as ++ serialLine bit bs := by
  simp [serialLine, frameLevels]

theorem serialLine_cons' (bit : Nat) (b : Byte) (bs : List Byte) :
    serialLine bit (b :: bs) = (byteLevels b).map (fun l => ⟨l, bit⟩) ++ serialLine bit bs := by
  simp [serialLine, frameLevels]

/-- Bytes sent back to back are read one after the other, and the line behind them may stay at the stop level. -/
theorem readBytes_serialLine {bit limit : Nat} (h : 0 < bit) (hl : bit - bit / 2 < limit) (fuel : Nat) (b : Byte) (bs : List Byte)
    (idle : List LineRun) (hi : ∀ q, nextEdge limit q idle = none) (hf : bs.length < fuel) :
    readBytes bit limit fuel (serialLine bit (b :: bs) ++ idle) = some (b :: bs) := by
  induction bs generalizing b fuel with
  | nil =>
    obtain _ | fuel := fuel
    · simp at hf
    obtain ⟨h1, h2, h3⟩ := read_byte h b idle
    rw [serialLine_cons', serialLine_nil, List.append_nil, readBytes, h2, h3, nextEdge, if_neg (by omega), hi, h1]
  | cons c cs ih =>
    obtain _ | fuel := fuel
    · simp at hf
    obtain ⟨h1, h2, h3⟩ := read_byte h b (serialLine bit (c :: cs) ++ idle)
    rw [serialLine_cons', List.append_assoc, readBytes, h2, h3, nextEdge, if_neg (by omega)]
    have e : nextEdge limit (0 + (bit - bit / 2)) (serialLine bit (c :: cs) ++ idle) = some (serialLine bit (c :: cs) ++ idle) := by
      rw [serialLine_cons]; rfl
    simp only [e, h1, ih fuel c (by simpa using hf), Option.map_some]

theorem length_serialLine (bit : Nat) (bs : List Byte) : (serialLine bit bs).length = 10 * bs.length := by
  induction bs with
  | nil => rfl
  | cons b bs ih => rw [serialLine_cons]; simp [ih]; omega

/-- Bytes sent back to back are read as they were sent, between stretches of the stop level. -/
theorem readSerial_serialLine {bit limit : Nat} (h : 0 < bit) (hl : bit - bit / 2 < limit) (bs : List Byte)
    (before idle : List LineRun) (hb : ∀ r ∈ before, r.level = .recessive) (hr : ∀ r ∈ idle, r.level = .recessive) :
    readSerial bit limit (before ++ (serialLine bit bs ++ idle)) = some bs := by
  have skip : ∀ (l m : List LineRun), (∀ r ∈ l, r.level = .recessive) →
      (l ++ m).dropWhile (fun r => decide (r.level = .recessive)) = m.dropWhile (fun r => decide (r.level = .recessive)) := by
    intro l m hm
    induction l with
    | nil => rfl
    | cons r l ih => simp [hm r List.mem_cons_self, ih (fun x hx => hm x (List.mem_cons_of_mem _ hx))]
  have none : ∀ (l : List LineRun), (∀ r ∈ l, r.level = .recessive) → ∀ q, nextEdge limit q l = none := by
    intro l hm
    induction l with
    | nil => intro q; rfl
    | cons r l ih =>
      intro q
      obtain ⟨level, n⟩ := r
      obtain rfl : level = .recessive := hm ⟨level, n⟩ List.mem_cons_self
      rw [nextEdge]; split
      · rfl
      · exact ih (fun x hx => hm x (List.mem_cons_of_mem _ hx)) _
  rw [readSerial, skip _ _ hb]
  cases bs with
  | nil =>
    have := skip idle [] hr
    simp only [List.append_nil, List.dropWhile_nil] at this
    rw [serialLine_nil, List.nil_append, this]
  | cons b bs =>
    have e : (serialLine bit (b :: bs) ++ idle).dropWhile (fun r => decide (r.level = .recessive)) =
        serialLine bit (b :: bs) ++ idle := by
      rw [serialLine_cons]; rfl
    have hn := length_serialLine bit (b :: bs)
    rw [e]
    have hc : ∃ r l, serialLine bit (b :: bs) ++ idle = r :: l := by rw [serialLine_cons]; exact ⟨_, _, rfl⟩
    obtain ⟨r, l, hrl⟩ := hc
    have hlen : (serialLine bit (b :: bs) ++ idle).length = (r :: l).length := by rw [hrl]
    rw [hrl]
    show readBytes bit limit (r :: l).length (r :: l) = _
    rw [← hlen, ← hrl]
    exact readBytes_serialLine h hl _ b bs idle (none idle hr) (by simp only [List.length_append, hn, List.length_cons]; omega)

/-- A frame sent alone is heard as its bytes (R124, R125). -/
theorem readLine_frameLine (bs : List Byte) : readLine (frameLine bs) = some bs := by
  rw [readLine, filteredLine_frameLine]
  simpa [frameLine] using readSerial_serialLine (by decide : 0 < Config.bitNs) (by decide) bs [] [] (by simp) (by simp)

/-! ## The pixel link (R19) -/

/-- A record's bytes are read from the pixel link, between stretches at the stop level. -/
theorem readLink_linkLine (bs : List Byte) (before idle : List LineRun) (hb : ∀ r ∈ before, r.level = .recessive)
    (hr : ∀ r ∈ idle, r.level = .recessive) : readLink (before ++ (linkLine bs ++ idle)) = some bs :=
  readSerial_serialLine (by decide) (by decide) bs before idle hb hr

/-- How long a line has been at the stop level behind these stretches, `quiet` ns before them. -/
def quietAfter : Nat → List LineRun → Nat
  | quiet, [] => quiet
  | quiet, ⟨.recessive, n⟩ :: rest => quietAfter (quiet + n) rest
  | _, ⟨.dominant, _⟩ :: rest => quietAfter 0 rest

/-- Stretches that never leave the link idle go to the front of the first part. -/
theorem cutAtIdle_append (quiet : Nat) (l rest : List LineRun)
    (h : ∀ k, k ≤ l.length → quietAfter quiet (l.take k) < Config.linkIdleNs) :
    cutAtIdle quiet (l ++ rest) = l.foldr addRun (cutAtIdle (quietAfter quiet l) rest) := by
  induction l generalizing quiet with
  | nil => rfl
  | cons r l ih =>
    obtain ⟨level, n⟩ := r
    cases level with
    | dominant =>
      have ih := ih 0 (fun k hk => by simpa [quietAfter] using h (k + 1) (by simpa using hk))
      simp [cutAtIdle, quietAfter, ih]
    | recessive =>
      have h1 : quiet + n < Config.linkIdleNs := by simpa [quietAfter] using h 1 (by simp)
      have ih := ih (quiet + n) (fun k hk => by simpa [quietAfter] using h (k + 1) (by simpa using hk))
      have h2 : ¬(quiet < Config.linkIdleNs ∧ Config.linkIdleNs ≤ quiet + n) := by omega
      simp [cutAtIdle, quietAfter, ih, h2]

/-- A stretch at the stop level that makes the link idle ends a part. -/
theorem cutAtIdle_idle (quiet n : Nat) (rest : List LineRun) (h : quiet < Config.linkIdleNs) (h' : Config.linkIdleNs ≤ quiet + n) :
    cutAtIdle quiet (⟨.recessive, n⟩ :: rest) = ([], true) :: cutAtIdle (quiet + n) rest := by
  simp [cutAtIdle, h, h']

/-- Where the level changes back, the link goes on as from its beginning: the last part of what came before is the front of what
follows. -/
theorem cutAtIdle_splice (quiet n : Nat) (l rest : List LineRun) :
    ∃ parts last first more, cutAtIdle quiet l = parts ++ [(last, false)] ∧
      cutAtIdle 0 (⟨.dominant, n⟩ :: rest) = first :: more ∧
      cutAtIdle quiet (l ++ ⟨.dominant, n⟩ :: rest) = parts ++ (last ++ first.1, first.2) :: more := by
  have front : ∀ r ps, ∃ p e more, addRun r ps = (p, e) :: more := by
    intro r ps; cases ps <;> exact ⟨_, _, _, rfl⟩
  induction l generalizing quiet with
  | nil =>
    obtain ⟨p, e, more, hp⟩ := front ⟨.dominant, n⟩ (cutAtIdle 0 rest)
    exact ⟨[], [], (p, e), more, rfl, hp, hp⟩
  | cons r l ih =>
    have step : ∀ q, cutAtIdle quiet (r :: l) = addRun r (cutAtIdle q l) →
        cutAtIdle quiet (r :: (l ++ ⟨.dominant, n⟩ :: rest)) = addRun r (cutAtIdle q (l ++ ⟨.dominant, n⟩ :: rest)) →
        ∃ parts last first more, cutAtIdle quiet (r :: l) = parts ++ [(last, false)] ∧
          cutAtIdle 0 (⟨.dominant, n⟩ :: rest) = first :: more ∧
          cutAtIdle quiet (r :: l ++ ⟨.dominant, n⟩ :: rest) = parts ++ (last ++ first.1, first.2) :: more := by
      intro q e1 e2
      obtain ⟨parts, last, first, more, h1, h2, h3⟩ := ih q
      rw [List.cons_append, e1, e2, h1, h3]
      cases parts with
      | nil => exact ⟨[], r :: last, first, more, rfl, h2, rfl⟩
      | cons p ps => exact ⟨(r :: p.1, p.2) :: ps, last, first, more, rfl, h2, rfl⟩
    obtain ⟨level, m⟩ := r
    cases level with
    | dominant => exact step 0 rfl rfl
    | recessive =>
      by_cases hc : quiet < Config.linkIdleNs ∧ Config.linkIdleNs ≤ quiet + m
      · obtain ⟨parts, last, first, more, h1, h2, h3⟩ := ih (quiet + m)
        refine ⟨([], true) :: parts, last, first, more, ?_, h2, ?_⟩ <;> simp [cutAtIdle, hc, h1, h3]
      · exact step (quiet + m) (by simp [cutAtIdle, hc]) (by simp [cutAtIdle, hc])

end Sys2Proof.Machine
end

