-- ==== Sys2Proof/Laws/Tables.lean ====
section
/-! SUPPORT. What the collection operations do: reading back what was written, everything else unchanged, and the cursor searches. -/

namespace Sys2Proof.Machine

variable {α β γ : Type} {n : Nat}

/-- Reading through the list, for an index in range. -/
theorem tget_eq_getElem (v : Vector α n) (i : Nat) (d : α) (h : i < n) : tget v i d = v[i] := by
  simp [tget, List.getD_eq_getElem?_getD, h]

/-- An index outside the collection reads as the default. -/
theorem tget_outside (v : Vector α n) (i : Nat) (d : α) (h : n ≤ i) : tget v i d = d := by
  simp [tget, List.getD_eq_getElem?_getD, h]

/-- Two collections with the same entries are equal. -/
theorem tget_ext (v w : Vector α n) (d : α) (h : ∀ i, i < n → tget v i d = tget w i d) : v = w := by
  ext i hi
  have := h i hi
  rwa [tget_eq_getElem v i d hi, tget_eq_getElem w i d hi] at this

/-- A read after a write: the entry written if the index is the same and in range, else what stood there. -/
theorem tget_tset (v : Vector α n) (i j : Nat) (a d : α) :
    tget (tset v i a) j d = if i = j ∧ i < n then a else tget v j d := by
  simp only [tget, tset, Vector.toList, List.getD_eq_getElem?_getD, List.getElem?_set, Array.length_toList, Vector.size_toArray]
  by_cases h : i = j
  · subst h
    by_cases hi : i < n
    · simp [hi]
    · simp [hi]
  · simp [h]

@[simp] theorem tget_tset_self (v : Vector α n) (i : Nat) (a d : α) (h : i < n) : tget (tset v i a) i d = a := by
  simp [tget_tset, h]

theorem tget_tset_ne (v : Vector α n) (i j : Nat) (a d : α) (h : i ≠ j) : tget (tset v i a) j d = tget v j d := by
  simp [tget_tset, h]

/-- A write outside the collection changes nothing. -/
theorem tset_outside (v : Vector α n) (i : Nat) (a : α) (h : n ≤ i) : tset v i a = v := by
  apply Vector.toArray_inj.mp
  apply Array.toList_inj.mp
  simp [tset, Vector.toList, List.set_eq_of_length_le, h]

@[simp] theorem tget_replicate (i : Nat) (a : α) : tget (Vector.replicate n a) i a = a := by
  by_cases h : i < n
  · simp [tget_eq_getElem _ _ _ h]
  · exact tget_outside _ _ _ (Nat.not_lt.mp h)

theorem tget_tbuild (f : Nat → α) (i : Nat) (d : α) (h : i < n) : tget (tbuild n f) i d = f i := by
  simp [tget, tbuild, Vector.toList, List.getD_eq_getElem?_getD, h]

theorem tget_tmap (f : α → β) (v : Vector α n) (i : Nat) (a : α) (b : β) (h : i < n) :
    tget (tmap f v) i b = f (tget v i a) := by
  simp [tget, tmap, Vector.toList, List.getD_eq_getElem?_getD, h]

/-- A mapped collection at any index, for a default that maps to the default. -/
theorem tget_tmap_default (f : α → β) (v : Vector α n) (i : Nat) (a : α) : tget (tmap f v) i (f a) = f (tget v i a) := by
  by_cases h : i < n
  · exact tget_tmap f v i a _ h
  · rw [tget_outside _ _ _ (Nat.not_lt.mp h), tget_outside _ _ _ (Nat.not_lt.mp h)]

theorem tget_tmapIdx (f : Nat → α → β) (v : Vector α n) (i : Nat) (a : α) (b : β) (h : i < n) :
    tget (tmapIdx f v) i b = f i (tget v i a) := by
  simp [tget, tmapIdx, Vector.toList, List.getD_eq_getElem?_getD, h]

theorem tget_tzip (f : α → β → γ) (v : Vector α n) (w : Vector β n) (i : Nat) (a : α) (b : β) (c : γ) (h : i < n) :
    tget (tzip f v w) i c = f (tget v i a) (tget w i b) := by
  simp [tget, tzip, Vector.toList, List.getD_eq_getElem?_getD, h]

theorem tget_tofList (l : List α) (i : Nat) (d e : α) (h : i < n) : tget (tofList n l d) i e = l.getD i d := by
  simp only [tget, tofList, Vector.toList, List.getD_eq_getElem?_getD, List.getElem?_take, h, if_true]
  by_cases hl : i < l.length
  · simp [List.getElem?_append_left hl, hl]
  · have hl' := Nat.not_lt.mp hl
    have : i - l.length < n := by omega
    simp [List.getElem?_append_right hl', hl', this]

/-- Membership in a collection, by index. -/
theorem mem_toList_iff_tget (v : Vector α n) (a d : α) : a ∈ v.toList ↔ ∃ i, i < n ∧ tget v i d = a := by
  constructor
  · intro h
    obtain ⟨i, hi, rfl⟩ := List.mem_iff_getElem.mp h
    have hn : i < n := by simpa using hi
    exact ⟨i, hn, by simp [tget_eq_getElem _ _ _ hn]⟩
  · rintro ⟨i, hi, rfl⟩
    rw [tget_eq_getElem _ _ _ hi]
    simp

/-- An index a predicate selects. -/
theorem mem_tindexes (p : α → Bool) (v : Vector α n) (i : Nat) (d : α) :
    i ∈ tindexes p v ↔ i < n ∧ p (tget v i d) = true := by
  simp only [tindexes, List.mem_map, List.mem_filter, Prod.exists]
  constructor
  · rintro ⟨a, j, ⟨hm, hp⟩, rfl⟩
    have h := (List.mk_mem_zipIdx_iff_getElem?).mp hm
    have hj : j < n := by
      have := (List.getElem?_eq_some_iff.mp h).1
      simpa using this
    refine ⟨hj, ?_⟩
    have : tget v j d = a := by simp [tget, List.getD_eq_getElem?_getD, h]
    rw [this]; exact hp
  · rintro ⟨hi, hp⟩
    refine ⟨tget v i d, i, ⟨?_, hp⟩, rfl⟩
    rw [List.mk_mem_zipIdx_iff_getElem?]
    simp [tget, List.getD_eq_getElem?_getD, hi]

/-- The indexes a predicate selects are in ascending order. -/
theorem tindexes_sorted (p : α → Bool) (v : Vector α n) : (tindexes p v).Pairwise (· < ·) := by
  have h : (v.toList.zipIdx.map Prod.snd).Pairwise (· < ·) := by
    rw [List.zipIdx_map_snd]; exact List.pairwise_lt_range'
  have hs : ((v.toList.zipIdx.filter (fun q => p q.1)).map Prod.snd).Sublist (v.toList.zipIdx.map Prod.snd) :=
    List.Sublist.map _ List.filter_sublist
  exact List.Pairwise.sublist hs h

theorem mem_wrapOrder (n cursor i : Nat) (h : i < n) : i ∈ wrapOrder n cursor := by
  have hn : 0 < n := by omega
  have h2 := Nat.mod_lt cursor hn
  have h3 : cursor % n + n * (cursor / n) = cursor := Nat.mod_add_div cursor n
  refine List.mem_map.mpr ⟨(i + (n - cursor % n)) % n, by simp [Nat.mod_lt _ hn], ?_⟩
  rw [Nat.add_mod, Nat.mod_mod, ← Nat.add_mod]
  have : cursor + (i + (n - cursor % n)) = i + n * (cursor / n + 1) := by
    rw [Nat.mul_add, Nat.mul_one]; omega
  rw [this, Nat.add_mul_mod_self_left, Nat.mod_eq_of_lt h]

/-- The search finds an index in range that satisfies the predicate. -/
theorem findFrom_some (n cursor i : Nat) (p : Nat → Bool) (h : findFrom n cursor p = some i) : i < n ∧ p i = true := by
  have hm := List.mem_of_find?_eq_some h
  obtain ⟨j, hj, rfl⟩ := List.mem_map.mp hm
  have : 0 < n := by have := List.mem_range.mp hj; omega
  exact ⟨Nat.mod_lt _ this, List.find?_some h⟩

/-- The search fails only when no index in range satisfies the predicate. -/
theorem findFrom_none (n cursor : Nat) (p : Nat → Bool) (h : findFrom n cursor p = none) (i : Nat) (hi : i < n) : p i = false := by
  have := List.find?_eq_none.mp h i (mem_wrapOrder n cursor i hi)
  simpa using this

theorem cursorPast_lt (n i : Nat) (h : 0 < n) : cursorPast n i < n := Nat.mod_lt _ h

end Sys2Proof.Machine
end

