-- ==== Sys2Proof/Laws/Operations.lean ====
section
/-! SUPPORT. What the shared operations do, said once for each, so that proofs cite these and do not unfold the operations. -/

namespace Sys2Proof.Machine

/-! ## Edges and the pending set -/

section
variable {α : Type}

@[simp] theorem get_build (f : Edge → α) (e : Edge) : (PerEdge.build f).get e = f e := by cases e <;> rfl

@[simp] theorem get_all (a : α) (e : Edge) : (PerEdge.all a).get e = a := by cases e <;> rfl

theorem get_put (v : PerEdge α) (e f : Edge) (a : α) : (v.put e a).get f = if f = e then a else v.get f := by
  cases e <;> cases f <;> rfl

end

theorem has_put (p : PendingSet) (i j : Item) (b : Bool) : (p.put i b).has j = if j = i then b else p.has j := by
  cases i <;> cases j <;> simp [PendingSet.put, PendingSet.has, get_put]

theorem pend_has (s : State) (i j : Item) : (pend i s).seam.items.has j = (decide (j = i) || s.seam.items.has j) := by
  simp only [pend, setSeam_seam, has_put]; split <;> simp_all

theorem isComposed_congr (s t : State) (it : Item) (h1 : t.seam.lineBank = s.seam.lineBank)
    (h2 : t.seam.nextBank = s.seam.nextBank) : isComposed t it = isComposed s it := by
  simp [isComposed, h1, h2]

/-! ## Records -/

theorem cellAt_setCell (s : State) (c d : Nat) (r : CellRec) :
    cellAt (setCell c r s) d = if c = d ∧ c < Config.cellCount then r else cellAt s d := by
  simp [cellAt, setCell, tget_tset]

theorem dieAt_setDie (s : State) (d e : Nat) (r : DieRec) :
    dieAt (setDie d r s) e = if d = e ∧ d < Config.dieCount then r else dieAt s e := by
  simp [dieAt, setDie, tget_tset]

theorem cellAt_congr (s t : State) (c : Nat) (h : t.map.cells = s.map.cells) : cellAt t c = cellAt s c := by simp [cellAt, h]

theorem dieAt_congr (s t : State) (d : Nat) (h : t.health.dies = s.health.dies) : dieAt t d = dieAt s d := by simp [dieAt, h]

/-- The automatic transitions never leave a cell driving a FAILED die (R56). -/
theorem transition_drives (c d : Nat) (st : CellState) (p q : Bool) (h : drivenDie c (transition st p q) = some d) :
    (d = primaryDie c → p = false) ∧ (d = spareDie c → q = false) := by
  cases st <;> cases p <;> cases q <;> simp_all [transition, drivenDie, primaryDie, spareDie] <;> omega

/-- The automatic transitions move only forward (R57). -/
theorem transition_forward (st : CellState) (p q : Bool) : st.code ≤ (transition st p q).code := by
  cases st <;> cases p <;> cases q <;> decide

/-- A FAILED die keeps health and strike under an observation (R37). -/
theorem observe_failed (b : Bool) (m : Measure) (r : DieRec) (h : r.health.failed = true) :
    (observe b m r).health = r.health ∧ (observe b m r).strike = r.strike ∧ (observe b m r).age = 0 := by
  simp [observe, h]

/-! ## Triggers, changes and notices -/

/-- A trigger starts a rebuild in IDLE and sets the rerun mark otherwise (R96). -/
theorem trigger_cases (s : State) :
    (s.conceal.rebuild = .idle ∧ (trigger s).conceal = { s.conceal with rebuild := .running (takeSnapshot s) }) ∨
      (s.conceal.rebuild ≠ .idle ∧ (trigger s).conceal = { s.conceal with rerun := true }) := by
  unfold trigger
  split <;> simp_all [startRebuild]

/-- The tile notice stands raised after a signal, and its item is pending if it was pending with the flag (R165). -/
theorem raiseNotice_notice (s : State) : (raiseNotice s).port.notice = true := by
  unfold raiseNotice
  (repeat' split) <;> simp_all

/-- What a change does to the cell records. -/
theorem changeCell_cells (s : State) (c : Nat) (r : CellRec) (cause : Cause) :
    (changeCell c r cause s).map.cells = tset s.map.cells c r := by
  simp [changeCell, setCell]

/-- What a failure notice does to the cell records. -/
theorem takeNotice_cells (s : State) (d : Nat) :
    (takeNotice d s).map.cells = tset s.map.cells (cellOfDie d) (transitioned s (cellOfDie d)) := by
  simp [takeNotice, setCell]

/-! ## Writes and banks -/

/-- The begin of a write: none, the settings record, or the first marked cell of the search (R145, R146). -/
theorem beginWrite_cases (s : State) :
    beginWrite s = s ∨ (writeMayBegin s = true ∧ s.store.settingsDirty = true ∧ beginWrite s = beginSettings s) ∨
      ∃ c, writeMayBegin s = true ∧ s.store.settingsDirty = false ∧ c < Config.cellCount ∧
        tget s.store.dirty c false = true ∧ beginWrite s = beginCell c s := by
  unfold beginWrite
  split
  · rename_i hm
    split
    · exact .inr (.inl ⟨hm, ‹_›, rfl⟩)
    · rename_i hs
      split
      · exact .inl rfl
      · rename_i c hc
        obtain ⟨h1, h2⟩ := findFrom_some _ _ _ _ hc
        exact .inr (.inr ⟨c, hm, by simpa using hs, h1, h2, rfl⟩)
  · exact .inl rfl

/-- An item that is composed next is waiting and may be composed (R133, R134). -/
theorem nextItem_some (s : State) (it : Item) (h : nextItem s = some it) :
    it ∈ itemOrder ∧ s.seam.items.has it = true ∧ isComposed s it = false ∧ mayCompose s.sup.state it = true := by
  have hp := List.find?_some h
  simp only [isWaiting, Bool.and_eq_true, Bool.not_eq_true'] at hp
  exact ⟨List.mem_of_find?_eq_some h, hp.1.1, hp.1.2, hp.2⟩

/-- One bank filled: nothing, the line bank, or the next bank (R134). -/
theorem fillOne_cases (s : State) :
    fillOne s = s ∨ ∃ it, nextItem s = some it ∧ s.seam.clash = false ∧
      ((s.seam.lineBank = none ∧ fillOne s = composeLine it s) ∨
        (s.seam.lineBank.isSome = true ∧ s.seam.nextBank = none ∧ fillOne s = composeNext it s)) := by
  unfold fillOne
  split
  · exact .inl rfl
  · rename_i hc
    split
    · exact .inl rfl
    · rename_i it h1 h2
      exact .inr ⟨it, h1, by simpa using hc, .inl ⟨h2, rfl⟩⟩
    · rename_i it c h1 h2 h3
      exact .inr ⟨it, h1, by simpa using hc, .inr ⟨by simp [h2], h3, rfl⟩⟩
    · exact .inl rfl

@[simp] theorem composeLine_lineBank (s : State) (it : Item) : (composeLine it s).seam.lineBank = some (frameOf s it) := by
  simp [composeLine]

@[simp] theorem composeNext_nextBank (s : State) (it : Item) : (composeNext it s).seam.nextBank = some (frameOf s it) := by
  simp [composeNext]

@[simp] theorem frameOf_item (s : State) (it : Item) : (frameOf s it).item = it := by
  unfold frameOf
  split <;> (try split) <;> rfl

/-- The two frame lemmas of a reset and of the begin of a start. -/
@[simp] theorem resetTile_frame (cause : ResetCause) (s : State) :
    (resetTile cause s).sup = resetSup cause s.sup ∧ (resetTile cause s).store = resetStore cause s.store ∧
      (resetTile cause s).rx = PixelRx.reset ∧ (resetTile cause s).scan = Scan.reset ∧
      (resetTile cause s).health = HealthMon.reset ∧ (resetTile cause s).map = MapCtl.reset ∧
      (resetTile cause s).drive = Drive.reset ∧ (resetTile cause s).conceal = Conceal.reset ∧
      (resetTile cause s).gov = Governor.reset ∧ (resetTile cause s).seam = Seam.reset ∧
      (resetTile cause s).port = Port.reset ∧ (resetTile cause s).pending = s.pending := by
  simp [resetTile, State.reset]

@[simp] theorem beginStart_frame (pins : Pins) (s : State) :
    (beginStart pins s).scan = s.scan ∧ (beginStart pins s).health = s.health ∧ (beginStart pins s).map = s.map ∧
      (beginStart pins s).drive = s.drive ∧ (beginStart pins s).gov = s.gov ∧ (beginStart pins s).store = s.store ∧
      (beginStart pins s).port = s.port ∧ (beginStart pins s).pending = s.pending ∧
      (beginStart pins s).sup.state = .loading ∧ (beginStart pins s).seam.items = s.seam.items ∧
      (beginStart pins s).seam.lineBank = s.seam.lineBank ∧ (beginStart pins s).seam.nextBank = s.seam.nextBank := by
  simp [beginStart]

end Sys2Proof.Machine
end

