-- ==== Sys2Proof/WellFormed.lean ====
section
/-! DEFINITION. What a sender can form. A tile's station is 0 to 15 and a service station's 16 to 30 (00_scope.md, 4.2), and a
frame that is handed to a block has a body length its kind allows (12_formats.md, 12.4). `exec` does not rely on these checks: it
is defined on every term, and treats what fails them as R127 treats a frame that is not well-formed. -/

namespace Sys2Proof

/-- A source station is 0 to 30 (R127). -/
def stationOk (source : Nat) : Bool := source ≤ 30

/-- The body lengths of an EDGE frame (12.4). -/
def edgeLengthOk (n : Nat) : Bool := 13 ≤ n && n ≤ 109

/-- The body length of a LOAD frame (12.4). -/
def loadLengthOk (n : Nat) : Bool := n == 8

/-- The checks on a command's operands; every other operand is in range by its type. -/
def Instr.wellFormed : Instr → Bool
  | .edgeNotice source _ body => stationOk source && edgeLengthOk body.length
  | .loadFrame source _ body => stationOk source && loadLengthOk body.length
  | .status source _ => stationOk source
  | .readCell source _ _ => stationOk source
  | .listFaults source _ _ => stationOk source
  | .force source _ _ _ _ => stationOk source
  | .release source _ _ => stationOk source
  | .setGain source _ _ _ _ => stationOk source
  | .probe source _ _ => stationOk source
  | .setConceal source _ _ => stationOk source
  | .setLimit source _ _ => stationOk source
  | .commit source _ => stationOk source
  | .restart source _ => stationOk source
  | .powerOn => true
  | .pinReset _ => true
  | .supplyFail => true
  | .startBegin _ => true
  | .loadComplete => true
  | .chainCheckComplete _ _ => true
  | .readyLineHigh _ => true
  | .readyTimeout => true
  | .supplyLow => true
  | .supplyOk => true
  | .recordEnd _ _ => true
  | .intervalTimerExpiry _ => true
  | .darkEntry => true
  | .shiftComplete _ _ => true
  | .blankFlagClear => true
  | .observeEnd _ _ => true
  | .refreshPositionEnd => true
  | .probeEnd _ => true
  | .anomalyRunNotice => true
  | .rebuildComplete => true
  | .announcementDue => true
  | .peerEntryExpiry => true
  | .farEdgeExpiry => true
  | .edgeRefresh => true
  | .lineIdle _ => true
  | .framingError => true
  | .seamFrameEnd _ => true
  | .breakSeen _ => true
  | .contentionStart _ => true
  | .arbitrationLoss => true
  | .readbackAbort => true
  | .frameComplete _ => true
  | .restartWaitExpiry _ => true
  | .writeComplete _ => true
  | .writeTimeout _ => true
  | .arbitrationWon => true

end Sys2Proof
end

