-- ==== Sys2Proof/Tests/Slice0.lean ====
section
/-! SUPPORT. The model's own tests: the refusals of WellFormed, the manual's worked examples (each names its section), and for every
statement with hypotheses a theorem that shows a state and operands that meet them. -/

namespace Sys2Proof.Tests

-- The tests are elaborated one after another: side by side they take more memory than the check allows.
set_option Elab.async false

open Sys2Proof Sys2Proof.Machine

/-! ## Small states -/

/-- The state a command answers. -/
def after (a : Answer) : State :=
  match a with
  | .next s => s
  | .fault _ => State.reset
  | .refused _ => State.reset

/-- A cabinet 2 tiles wide and 2 high, this tile at column 1, row 0 (station 1), the reset pin released and the supply at 5 V. -/
def pins : Pins := ⟨⟨1, 0, 1, 1, .hz60⟩, false, 5000, false⟩

/-- The tile as its start has begun. -/
def loading : State := after (exec (.startBegin pins) State.reset)

/-- A state with the supervisor state given. -/
def inState (st : SupState) : State :=
  { State.reset with sup := { State.reset.sup with state := st, supply := .ok, supplyHeld := false } }

/-- A tile of station 5 in RUNNING that hears the bus. -/
def tile : State :=
  { inState .running with
    seam := { State.reset.seam with own := 5, recv := .idle }
    rx := { State.reset.rx with started := true, link := .locked, timer := .oneAndHalfT } }

/-- The tile with its scan at a position. -/
def scanning (p : ScanPos) : State := { tile with scan := { tile.scan with position := p } }

/-- The tile with one cell's record replaced. -/
def withCell (c : Nat) (r : CellRec) : State := setCell c r tile

/-- The tile with one die's record replaced. -/
def withDie (d : Nat) (h : Health) (n : Nat) : State := setDie d ⟨h, n, 0, .none⟩ tile

/-- The tile with a frame in its line bank and the attempt in a transmit state. -/
def sending (tx : TxState) (it : Item) : State :=
  { tile with
    seam := { tile.seam with tx := tx, lineBank := some ⟨it, none, []⟩, items := tile.seam.items.put it true } }

/-- The tile with a write of cell 7 in flight. -/
def writing : State := beginCell 7 (markDirty 7 tile)

/-- A report of a cell. -/
def report (c : Nat) (updated : Bool) : Report := ⟨c, .spare, .failedOpen, .good, .autoOpen, updated⟩

/-- The tile with a report queue. -/
def reporting (q : List Report) : State := { tile with port := { tile.port with queue := q } }

/-- The cell field of a cell index below 256. -/
def indexField (c : Nat) : CellField := ⟨1#8, 255#8, 0#8, byteOf c⟩

/-- Result names for the two measures of a whole pass. -/
def allOk : Vector Measure Config.channelCount := Vector.replicate _ .ok

/-! ## What the checks refuse -/

theorem test_station_refused :
    [Instr.edgeNotice 31 0#8 (List.replicate 13 0#8), .loadFrame 31 0#8 (List.replicate 8 0#8), .status 31 0#8,
      .readCell 31 0#8 (indexField 0), .listFaults 31 0#8 0#16, .force 31 0#8 (indexField 0) 0#8 0#8,
      .release 31 0#8 (indexField 0), .setGain 31 0#8 (indexField 0) 0#8 0#16, .probe 31 0#8 (indexField 0),
      .setConceal 31 0#8 0#8, .setLimit 31 0#8 0#16, .commit 31 0#8, .restart 31 0#8].map Instr.wellFormed =
      List.replicate 13 false := by decide

theorem test_station_accepted : (Instr.status 30 0#8).wellFormed = true := by decide

theorem test_edge_length_refused :
    [12, 13, 109, 110].map (fun n => (Instr.edgeNotice 0 0#8 (List.replicate n 0#8)).wellFormed) =
      [false, true, true, false] := by decide

theorem test_load_length_refused :
    [7, 8, 9].map (fun n => (Instr.loadFrame 0 0#8 (List.replicate n 0#8)).wellFormed) = [false, true, false] := by decide

/-- No table word spells a command (log entry 19). -/
theorem test_no_word_spells_a_command : decodeTableWord 16 7 = none ∧ State.reset.withFetchWord 16 7 = State.reset := ⟨rfl, rfl⟩

/-! ## Worked examples of the manual -/

/-- 12.2: the nine bytes "1" to "9" give 29B1. -/
theorem test_crc : crc [49#8, 50#8, 51#8, 52#8, 53#8, 54#8, 55#8, 56#8, 57#8] = 0x29B1 := by decide +kernel

/-- 1.1, "Locating a Cell". -/
theorem test_locating_a_cell :
    cellIndex 13 5 1 = 1264 ∧ primaryDie 1264 = 2528 ∧ spareDie 1264 = 2529 ∧ phaseOf 1264 = 1 ∧ channelOf 1264 = 304 ∧
      deviceOf 1264 = 19 ∧ outputOf 1264 = 0 := by decide

/-- 5.8, cases 1 to 5. -/
theorem test_drive_cases :
    driveCell 2000 .spare 300 96 256 = ⟨3223, .spare, false⟩ ∧ driveCell 2000 .primary 300 48 256 = ⟨2375, .primary, false⟩ ∧
      driveCell 4095 .spare 511 0 256 = ⟨4095, .spare, true⟩ ∧ driveCell 2000 .spare 300 96 0 = ⟨2344, .spare, false⟩ ∧
      driveCell 2000 .primary 300 48 200 = ⟨2289, .primary, false⟩ := by decide

/-- 5.8, the first bound of clipping at a gain of 300. -/
theorem test_clip_bound :
    (driveCell 3494 .spare 300 0 256).clipped = false ∧ (driveCell 3495 .spare 300 0 256).clipped = true := by decide

/-- 3.6, "An Intermittent Primary": OPEN, OPEN, OK, OPEN, OPEN, OK, OPEN, then a probe's OK. -/
theorem test_intermittent_primary :
    ([Measure.openPath, .openPath, .ok, .openPath, .openPath, .ok, .openPath].scanl (fun r m => observe false m r)
        DieRec.fresh).map (fun r => (r.strike, r.health)) =
      [(0, .good), (2, .suspect), (4, .suspect), (3, .suspect), (5, .suspect), (7, .suspect), (6, .suspect), (8, .failedOpen)] ∧
      observe true .ok ⟨.failedOpen, 8, 4095, .none⟩ = ⟨.failedOpen, 8, 0, .ok⟩ := by decide

/-- 7.8: S and E at B1, B2, B3 and B5, and the OVER flag's table. -/
theorem test_governor_table :
    factorAfter 20000 20150 256 = 224 ∧ factorAfter 20000 20080 224 = 192 ∧ factorAfter 20000 19940 192 = 192 ∧
      factorAfter 20000 16960 192 = 200 ∧ overAfter 20000 20700 (factorAfter 20000 20700 32) false = true ∧
      overAfter 20000 20650 (factorAfter 20000 20650 0) true = true ∧ overAfter 20000 19950 0 true = false := by decide

/-- 7.8: an entry at age 63 is out of the estimate of its boundary's step, whether or not its row has removed it. -/
theorem test_estimate_leaves_out_the_old : estimateOf 1060 ([⟨6, 2400, 5⟩, ⟨7, 2700, 63⟩].map agePeer) = 3460 := by decide

/-- 8.9: the arbitration bytes of an EDGE from 6, a LOAD from 5, a REQUEST from 20 and a REPORT from 2. -/
theorem test_arbitration_bytes :
    [(kindEdge, 6), (kindLoad, 5), (kindRequest, 20), (kindReport, 2)].map (fun p => (frameBytes p.1 p.2 0 []).head?) =
      [some 38#8, some 69#8, some 148#8, some 162#8] := by decide +kernel

/-- 9.4, "Loading Five Cells": cells 10, 12, 13 and 14. -/
theorem test_loading_five_cells :
    (let l := loadCell true 10 ⟨0#8, 0#8, 1#8, 34#8⟩ (.bytes (slotBytes 10 ⟨.spare, false, none⟩ .failedOpen .good))
     (loadedRecord l, l.primary, l.gain, loadedDirty l) = (⟨.spare, false, none⟩, .failedOpen, 290, false)) ∧
      (let l := loadCell true 11 ⟨0#8, 0#8, 1#8, 14#8⟩ .cut
       (loadedRecord l, l.gain, loadedDirty l) = (⟨.primary, false, none⟩, 270, true)) ∧
      (let l := loadCell true 12 ⟨3#8, 0#8, 1#8, 49#8⟩ (.bytes SlotBytes.blank)
       (loadedRecord l, l.primary, loadedDirty l) = (⟨.spare, false, none⟩, .failedShort, false)) ∧
      (let l := loadCell true 13 ⟨0#8, 0#8, 1#8, 4#8⟩ (.bytes (slotBytes 13 ⟨.primary, false, none⟩ .failedOpen .good))
       (loadedRecord l, l.primary, loadedDirty l) = (⟨.spare, false, none⟩, .failedOpen, true)) ∧
      (let l := loadCell true 14 ⟨0#8, 0#8, 1#8, 24#8⟩ (.bytes (slotBytes 14 ⟨.primary, false, some 700⟩ .good .good))
       (loadedRecord l, l.gain, loadedDirty l, l.torn) = (⟨.primary, false, none⟩, 280, true, true)) := by
  decide +kernel

/-- The check goes on from where a first part left it. -/
theorem crcFrom_append (r : Nat) (a b : List Byte) : crcFrom r (a ++ b) = crcFrom (crcFrom r a) b := by
  induction a generalizing r with
  | nil => rfl
  | cons x xs ih => simp [crcFrom, ih]

/-- The bytes of 512 plain factory records. -/
def plainBytes : List Byte :=
  (List.replicate 512 FactoryBytes.plain).flatMap (fun b => [b.primary, b.spare, b.gainHi, b.gainLo])

theorem test_factory_check_1 : crcFrom 65535 plainBytes = 9730 := by decide +kernel
theorem test_factory_check_2 : crcFrom 9730 plainBytes = 13277 := by decide +kernel
theorem test_factory_check_3 : crcFrom 13277 plainBytes = 36870 := by decide +kernel
theorem test_factory_check_4 : crcFrom 36870 plainBytes = 48056 := by decide +kernel
theorem test_factory_check_5 : crcFrom 48056 plainBytes = 60463 := by decide +kernel
theorem test_factory_check_6 : crcFrom 60463 plainBytes = 47955 := by decide +kernel

/-- The records of a region of plain records, as six parts. -/
theorem plain_region :
    factoryRecordBytes State.reset.store =
      plainBytes ++ (plainBytes ++ (plainBytes ++ (plainBytes ++ (plainBytes ++ plainBytes)))) := by
  show (Vector.replicate 3072 FactoryBytes.plain).toList.flatMap _ = _
  simp only [Vector.toList_replicate, plainBytes, ← List.flatMap_append, List.replicate_append_replicate]

/-- 9.2: the region check of the tile as built agrees with its records (log entry 6). -/
theorem test_factory_region_passes : factoryPasses State.reset.store = true := by
  have h : crc (factoryRecordBytes State.reset.store) = 47955 := by
    simp only [crc, plain_region, crcFrom_append, test_factory_check_1, test_factory_check_2, test_factory_check_3,
      test_factory_check_4, test_factory_check_5, test_factory_check_6]
  have g : ∀ b ∈ State.reset.store.factory.toList, (factoryFields b).isSome = true := by
    intro b hb
    rw [show State.reset.store.factory.toList = List.replicate 3072 FactoryBytes.plain from Vector.toList_replicate] at hb
    rw [List.eq_of_mem_replicate hb]
    decide
  rw [factoryPasses, h, List.all_eq_true.mpr g]
  decide

/-- The snapshot of 6.9: station 0 with a VALID record of its RIGHT edge, all WORKING but for the entries given. -/
def edgeSnapshot (holes : List Nat) (entry : EdgeEntry) : Snapshot :=
  ⟨tbuild _ (fun c => holes.contains c),
    (PerEdge.all FarEdge.unknown).put .right
      ⟨true, some 1, true, 0, tset (Vector.replicate _ EdgeEntry.working) 30 entry⟩,
    192⟩

/-- 6.9, first round: share 48 in the hole and in its three neighbours. -/
theorem test_first_round :
    rebuiltEntry (edgeSnapshot [1053] .working) 1053 = .hole 48 ∧ rebuiltEntry (edgeSnapshot [1053] .working) 1050 = .lit 48 ∧
      rebuiltEntry (edgeSnapshot [1053] .working) 957 = .lit 48 ∧
      rebuiltEntry (edgeSnapshot [1053] .working) 1149 = .lit 48 := by decide +kernel

/-- 6.9, second round: the far cell is a hole too, and the share rises to 64. -/
theorem test_second_round :
    rebuiltEntry (edgeSnapshot [1053] (.hole 64)) 1053 = .hole 64 ∧
      rebuiltEntry (edgeSnapshot [1053] (.hole 64)) 1050 = .lit 64 := by decide +kernel

/-- 3.6, "Two Probe Slots": the list supplies 2,528, 2,529, 1,400 and 1,401. -/
theorem test_two_probe_slots :
    planFromRequests [⟨1264, false, false⟩, ⟨700, false, false⟩] = [2528, 2529, 1400, 1401] ∧
      markProbed 2529 [⟨1264, true, false⟩, ⟨700, false, false⟩] = [⟨700, false, false⟩] := by decide

/-- 10.5, "A Full Queue": the head leaves, and the marked cell from the cursor on takes the freed place (the cursor at 899). -/
theorem test_full_queue :
    (let s := (reporting [report 40 false, report 41 false]).setPort
        { (reporting [report 40 false, report 41 false]).port with
          marks := tset tile.port.marks 900 true
          refillCursor := 899 }
     ((completeHead s).port.queue.map (fun r => (r.cell, r.cause)), (completeHead s).port.refillCursor)) =
      ([(41, .autoOpen), (900, .refill)], 901) := by decide +kernel

/-! ## One step of a command -/

theorem test_pin_reset_boundary :
    (after (exec (.pinReset 9) tile)).sup.state = .running ∧ (after (exec (.pinReset 10) tile)).sup.state = .reset ∧
      (after (exec (.pinReset 10) tile)).sup.cause = .pin := by decide

theorem test_start_gives_station_and_edges :
    loading.seam.own = 1 ∧ loading.conceal.far.left.source = some 0 ∧ loading.conceal.far.bottom.source = some 5 ∧
      loading.conceal.far.right.present = false ∧ loading.conceal.far.top.present = false ∧ loading.sup.supply = .ok := by
  decide

theorem test_strap_fault :
    (after (exec (.startBegin { pins with straps := ⟨2, 0, 1, 1, .hz50⟩ }) State.reset)).sup.findings.strapFault = true := by
  decide

/-- R167, R168: behind an assertion of the pin and a supply failure the start waits for both conditions to clear. -/
theorem test_reset_waits_for_both :
    (let s := after (exec .supplyFail (after (exec (.pinReset 10) tile)))
     let released := after (exec (.startBegin { pins with supplyMv := 4100 }) s)
     let risen := after (exec (.startBegin { pins with resetPin := true, supplyMv := 4101 }) s)
     [released, risen, after (exec (.startBegin { pins with supplyMv := 4101 }) released),
      after (exec (.startBegin { pins with supplyMv := 3900 }) risen)].map (fun t => t.sup.state)) =
      [.reset, .reset, .loading, .loading] := by decide

theorem test_load_of_the_blank_store :
    (after (exec .loadComplete loading)).sup.state = .chainCheck ∧
      (after (exec .loadComplete loading)).sup.findings.settingsDefaulted = true ∧
      (after (exec .loadComplete loading)).conceal.k = 192 := by decide +kernel

theorem test_chain_check_failed :
    (after (exec (.chainCheckComplete true false) (inState .chainCheck))).sup.findings.chainFault = true ∧
      (after (exec (.chainCheckComplete true false) (inState .chainCheck))).scan.blank = true ∧
      (after (exec (.chainCheckComplete true false) (inState .chainCheck))).seam.recv = .waitIdle := by decide +kernel

/-- The pixel link as it carries a record and is then at the stop level for some ns. -/
def linkThen (bytes : List Byte) (ns : Nat) : List LineRun := linkLine bytes ++ [⟨.recessive, ns⟩]

/-- The bytes of a BLANK record. -/
def blankRecord : List Byte := 66#8 :: bytes16 (crc [66#8])

theorem test_blank_record_is_accepted :
    (after (exec (.recordEnd (linkThen blankRecord 1000) .within) { tile with rx := { tile.rx with link := .search } })).rx.link =
      .locked := by decide +kernel

/-- R19: without 1 µs at the stop level nothing is decided, and the data that follows belongs to the same record; a tail is discarded. -/
theorem test_link_idle_ends_the_record :
    (let searching := { tile with rx := { tile.rx with link := .search } }
     let part := after (exec (.recordEnd (linkThen [66#8] 900) .within) searching)
     let whole := after (exec (.recordEnd (linkThen (bytes16 (crc [66#8])) 1000) .within) part)
     let tail := { tile with rx := { tile.rx with link := .search, inTail := true } }
     let behind := after (exec (.recordEnd (linkThen [9#8] 1000 ++ linkThen blankRecord 1000) .within) tail)
     [part, whole, behind].map (fun t => (t.rx.link, t.rx.buffer)) = [(.search, [66#8]), (.locked, []), (.locked, [])]) := by
  decide +kernel

/-- 12.6: 0x42 at 20 ns a bit, written out, and the idle that the stop bit begins. -/
theorem test_link_bits :
    (linkParts
      [⟨.dominant, 20⟩, ⟨.dominant, 20⟩, ⟨.recessive, 20⟩, ⟨.dominant, 80⟩, ⟨.recessive, 20⟩, ⟨.dominant, 20⟩, ⟨.recessive, 1000⟩]).map
        (fun p => (readLink p.1, p.2)) = [(some [0x42#8], true), (some [], false)] := by decide +kernel

/-- R25: the entry into DARK comes in the event of the expiry, however the boundary's other follow-on events are taken. -/
theorem test_entry_into_dark :
    [Taking.within, .apart].map (fun tk =>
      (after (exec (.intervalTimerExpiry tk) { tile with rx := { tile.rx with link := .holding, holding := 29 } })).rx.link) =
      [.dark, .dark] := by decide +kernel

/-- 1.5: the failed shift of the probe slot hands its dies back. -/
theorem test_failed_probe_shift :
    (let s := scanning (.gap (.probe 2))
     let t := after (exec (.shiftComplete false true)
      { s with
        scan := { s.scan with slot := [2532, 2535] }
        health := { s.health with plan := [2532, 2535], cursor := 2536 } })
     (t.health.plan, t.health.cursor, t.scan.position, t.scan.blank)) = ([], 2536, .gap (.refresh 0), true) := by
  decide +kernel

theorem test_probe_result_fails_the_die :
    (let s := withDie 14 .suspect 7
     let t := after (exec (.probeEnd .shortPath)
      { s with
        scan := { s.scan with position := .run (.probe 0) true, slot := [14] }
        health := { s.health with plan := [14] } })
     ((dieAt t 14).health, (dieAt t 14).strike, (cellAt t 7).state, t.store.inFlight.isSome, t.health.plan)) =
      (.failedShort, 11, .spare, true, []) := by decide +kernel

theorem test_line_idle_boundary :
    (after (exec (.lineIdle 23) { tile with seam := { tile.seam with recv := .waitIdle } })).seam.recv = .waitIdle ∧
      (after (exec (.lineIdle 24) { tile with seam := { tile.seam with recv := .waitIdle } })).seam.recv = .idle := by decide

/-- R124: a byte's ten bit times, a dominant pulse under 1 µs that is ignored, and a longer one that turns a bit. -/
theorem test_line_is_read :
    (byteLevels 0x25#8).map (fun l => l = .dominant) =
        [true, true, true, false, true, true, false, true, false, false].map (fun b => (b : Prop)) ∧
      readLine (⟨.dominant, 999⟩ :: ⟨.recessive, 4000⟩ :: frameLine [0x25#8, 0xFF#8]) = some [0x25#8, 0xFF#8] ∧
      readLine [⟨.dominant, 2000⟩, ⟨.recessive, 6600⟩, ⟨.dominant, 800⟩, ⟨.recessive, 10600⟩] = some [0xFF#8] ∧
      readLine [⟨.dominant, 2000⟩, ⟨.recessive, 6500⟩, ⟨.dominant, 1000⟩, ⟨.recessive, 10500⟩] = some [0xEF#8] ∧
      readLine [⟨.dominant, 20000⟩, ⟨.recessive, 30000⟩] = none := by
  refine ⟨by simp [byteLevels, dataBits, bitLevel], ?_⟩
  decide +kernel

/-- 8.9, "Two Tiles Strapped as Station 3": the third mismatch in a row brings CLASH. -/
theorem test_third_mismatch :
    (let s := sending .sending .tileNotice
     let t := after (exec .readbackAbort { s with seam := { s.seam with mismatches := 2 } })
     (t.seam.clash, t.seam.lineBank, t.seam.items.tileNotice, t.seam.tx)) = (true, none, true, .quiet) := by decide +kernel

theorem test_break_clears_clash :
    (let t := after (exec (.breakSeen 1000) { tile with seam := { tile.seam with clash := true, mismatches := 3 } })
     (t.seam.clash, t.seam.mismatches, t.seam.recv, t.seam.items.load)) = (false, 0, .waitIdle, true) := by decide +kernel

theorem test_force_onto_a_failed_die :
    (let s := withDie 14 .failedOpen 8
     let t := after (exec (.force 20 5#8 (indexField 7) 0#8 0#8) s)
     let u := after (exec (.force 20 5#8 (indexField 7) 0#8 1#8) s)
     (t.port.immediate.map (fun r => r.result), (cellAt t 7).forced, u.port.immediate.map (fun r => r.result),
      (cellAt u 7).forced, (dieAt u 14).health)) = (some .dieFailed, false, some .done, true, .good) := by decide +kernel

theorem test_gain_is_clamped :
    (let t := after (exec (.setGain 20 31#8 (indexField 7) 0#8 700#16) { tile with seam := { tile.seam with own := 31 } })
     (cellAt t 7).gain) = none ∧
      (let t := after (exec (.setGain 20 5#8 (indexField 7) 0#8 700#16) tile)
       (cellAt t 7).gain) = some 511 := by decide +kernel

theorem test_commit_while_clean :
    (after (exec (.commit 20 31#8) tile)).port.long.map (fun r => (r.result, r.residual)) = some (.done, 0) := by decide +kernel

theorem test_write_timeout :
    (let t := after (exec (.writeTimeout pins) writing)
     (t.store.state, tget t.store.dirty 7 false, t.port.notice)) = (.faulted, true, true) := by decide +kernel

theorem test_held_restart_is_taken :
    (let t := after (exec (.writeComplete pins) { writing with store := { writing.store with restartHold := true } })
     (t.sup.state, t.sup.cause, t.seam.own, t.store.state)) = (.loading, .restart, 1, .idle) := by decide +kernel

/-! ## A state and operands for the hypotheses of each statement -/

theorem witness_StepRunsTheFrontCommand :
    ({ tile with pending := [.rebuildComplete] }).pending = .rebuildComplete :: [] ∧ tile.pending = [] := ⟨rfl, rfl⟩

theorem witness_CellsOnlyGiveUpTheirDies :
    mayReturnCell .darkEntry = false ∧ exec .darkEntry tile = .next (after (exec .darkEntry tile)) := ⟨rfl, rfl⟩

theorem witness_ResetsClearTheTile : 10 ≤ 10 ∧ 9 < 10 := by decide

theorem witness_StartReadsTheStraps :
    State.reset.sup.state = .reset ∧ pins.resetPin = false ∧ 4100 < pins.supplyMv ∧ State.reset.sup.supplyHeld = true ∧
      tile.sup.state ≠ .reset ∧ ({ pins with supplyMv := 4100 } : Pins).supplyMv ≤ 4100 := by decide

theorem witness_LoadGivesEveryCellItsRecord : loading.sup.state = .loading ∧ 3071 < Config.cellCount := by decide

theorem witness_LoadHandsOverItsFindings : loading.sup.state = .loading := rfl

theorem witness_ChainCheckEntersReadyWait :
    (inState .chainCheck).sup.state = .chainCheck ∧ (true && true || (inState .chainCheck).scan.blank) = true ∧
      (true && false || (inState .chainCheck).scan.blank) = false := ⟨rfl, rfl, rfl⟩

/-- READY_WAIT with the READY timer running. -/
def waiting : State := after (exec (.chainCheckComplete true true) (inState .chainCheck))

theorem witness_ReadyLineOrTimeoutEntersRunning :
    waiting.sup.state = .readyWait ∧ 10 ≤ 10 ∧ waiting.sup.readyTimer = true ∧ tile.sup.state ≠ .readyWait ∧ 9 < 10 := by
  decide

/-- The tile with a long request in execution. -/
def busy (k : LongKind) (p : LongPhase) : State := { tile with port := { tile.port with request := some ⟨k, 20, p⟩ } }

theorem witness_SupplyStateFollowsTheSupply :
    (busy .restart .executing).sup.supply = .ok ∧ (busy .restart .executing).port.request = some ⟨.restart, 20, .executing⟩ ∧
      State.reset.sup.supply = .low := ⟨rfl, rfl, rfl⟩

theorem witness_RecordsReadBack :
    (List.replicate 3072 65535).length = 3072 ∧ (∀ v ∈ List.replicate 3072 65535, v < 65536) ∧
      (∀ g, (CellRec.mk .spare true (some 511)).gain = some g → Config.minGain ≤ g ∧ g ≤ Config.maxGain) ∧
      (255 ≤ 255 ∧ 49136 ≤ Config.maxLimit) ∧
      (∀ x ∈ (Vector.replicate Config.edgeEntryCount (EdgeEntry.hole 255)).toList, ∀ sh, x = .hole sh → sh ≤ 255) := by
  refine ⟨List.length_replicate, ?_, ?_, by decide, ?_⟩
  · intro v hv; rw [List.eq_of_mem_replicate hv]; decide
  · intro g hg; cases hg; decide
  · intro x hx sh h
    rw [Vector.toList_replicate] at hx
    rw [List.eq_of_mem_replicate hx] at h
    cases h; decide

/-- A record that is accepted, a slot and a settings record that are written, and a factory record whose fields fit. -/
theorem witness_RecordsReadBack_conditions :
    readRecord (66#8 :: bytes16 (crc [66#8])) = some .blank ∧
      slotCondition 3071 (.bytes (slotBytes 3071 ⟨.hole, true, some 128⟩ .suspect .failedShort)) =
        .written ⟨.hole, true, .good, .failedShort, some 128⟩ ∧
      settingsCondition (.bytes (settingsBytes 255 49136)) = .written (255, 49136) ∧
      (FactoryBytes.plain.primary = 0#8 ∧ FactoryBytes.plain.spare = 0#8 ∧
        128 ≤ be16 FactoryBytes.plain.gainHi FactoryBytes.plain.gainLo ∧
        be16 FactoryBytes.plain.gainHi FactoryBytes.plain.gainLo ≤ 511) := by decide +kernel

/-- EDGE bodies at the bounds of R176: the last edge code and the next one, one HOLE bit with and without its share byte. -/
theorem witness_RecordsReadBack_edge :
    let body := fun (code first : Byte) (shares : List Byte) => code :: first :: (List.replicate 11 0#8 ++ shares)
    (readEdgeBody (body 3#8 128#8 [7#8])).isSome = true ∧ readEdgeBody (body 4#8 128#8 [7#8]) = none ∧
      readEdgeBody (body 3#8 128#8 []) = none ∧ readEdgeBody (body 3#8 0#8 [7#8]) = none := by decide +kernel

theorem witness_AcceptedRecordLocksTheLink :
    tile.rx.started = true ∧ tile.rx.inTail = false ∧ 999 < 1000 ∧
      readRecord (tile.rx.buffer ++ blankRecord) = some .blank ∧ readRecord (tile.rx.buffer ++ []) = none ∧
      (let quiet := fun (bytes : List Byte) (n : Nat) =>
        20 * ((frameLevels bytes).reverse.takeWhile (fun l => decide (l = .recessive))).length + n
       (quiet [255#8] 820, quiet [255#8] 819, quiet [254#8] 980, quiet [254#8] 979) = (1000, 999, 1000, 999)) ∧
      191 > 190 ∧ State.reset.rx.started = false := by decide +kernel

theorem witness_SilentLinkHoldsThenGoesDark :
    tile.rx.timer ≠ .stopped ∧ tile.rx.holding ≤ 30 ∧ State.reset.rx.timer = .stopped ∧
      ({ tile.rx with link := .holding, holding := 30 } : PixelRx).link = .holding ∧
      30 ≤ ({ tile.rx with link := .holding, holding := 30 } : PixelRx).holding ∧ tile.rx.link ≠ .holding ∧
      ({ tile.rx with link := .holding, holding := 29 } : PixelRx).holding < 30 := by decide

theorem witness_BoundaryDrivesEveryCell : displayRuns tile = true := rfl

/-- A tile at the end of its sixteenth good period, and in its eighth anomalous one. -/
def judging : State :=
  { tile with
    scan := { tile.scan with blank := true, marker := .good, runCount := 15 }
    health := { tile.health with findings := .anomalous, anomalyRun := 7 } }

theorem witness_BoundaryJudgesThePeriod :
    displayRuns judging = true ∧ judging.health.findings = .anomalous ∧ judging.health.anomalyRun = 7 ∧
      judging.scan.blank = true ∧ 16 ≤ min 16 (judging.scan.runCount + 1) ∧ tile.scan.blank = false := by decide

theorem witness_BoundaryStepsTheGovernor :
    displayRuns { tile with gov := { tile.gov with counter := 15 } } = true ∧ tile.sup.state = .running ∧ 15 < 16 ∧
      tile.sup.findings.strapFault = false ∧ displayRuns waiting = true ∧ waiting.sup.state = .readyWait := by decide

/-- The tile with one peer, a limit and a factor. -/
def governed (load limit factor : Nat) (o : Bool) : State :=
  { tile with gov := { tile.gov with peers := [⟨6, load, 0⟩], limit := limit, factor := factor, overFlag := o } }

theorem witness_OverFollowsTheStep :
    (0 < (governed 20700 20000 32 false).gov.limit ∧
        (governorStep (governed 20700 20000 32 false)).gov.estimate > (governed 20700 20000 32 false).gov.limit ∧
        (governorStep (governed 20700 20000 32 false)).gov.factor = 0) ∧
      (governorStep (governed 20000 20000 0 true)).gov.estimate ≤ (governed 20000 20000 0 true).gov.limit ∧
      ((governorStep (governed 20001 20000 33 false)).gov.estimate > (governed 20001 20000 33 false).gov.limit ∧
        (governorStep (governed 20001 20000 33 false)).gov.factor ≠ 0) ∧
      (governorStep (governed 20700 20000 32 false)).gov.overFlag ≠ (governed 20700 20000 32 false).gov.overFlag := by
  decide +kernel

/-- The tile with its edge records VALID at an age, and its source stations. -/
def edged (age : Nat) : State :=
  { tile with conceal := { tile.conceal with far := PerEdge.all ⟨true, some 6, true, age, Vector.replicate _ .working⟩ } }

theorem witness_BoundaryInstallsTheRebuild :
    ({ (edged 2046).conceal with rebuild := .complete, rerun := true } : Conceal).rebuild = .complete ∧
      (edged 2046).conceal.rebuild = .idle ∧
      (∀ e, ¬(displayRuns (edged 2046) = true ∧ Taking.within = .within ∧ ((edged 2046).conceal.far.get e).valid = true ∧
        2047 ≤ ((edged 2046).conceal.far.get e).age)) ∧
      (displayRuns (edged 2047) = true ∧ ((edged 2047).conceal.far.get .top).valid = true ∧
        2047 ≤ ((edged 2047).conceal.far.get .top).age) ∧
      (edged 2046).sup.state = .running ∧ ((edged 2046).conceal.far.get .left).present = true ∧
      (edged 2046).conceal.lastSent.get .left = none ∧ (31 < 32 ∧ 2 < 3) := by
  refine ⟨rfl, rfl, ?_, ⟨rfl, rfl, by decide⟩, rfl, rfl, rfl, by decide⟩
  intro e; cases e <;> decide

theorem witness_DueEventsTakeEffect :
    ({ tile.scan with blank := true, runCount := 16 } : Scan).runCount = 16 ∧
      ({ tile.health with anomalyDue := true } : HealthMon).anomalyDue = true ∧
      ({ tile.gov with counter := 16 } : Governor).counter = 16 ∧ ((edged 2048).conceal.far.get .top).valid = true ∧
      ((edged 2048).conceal.far.get .top).age = 2048 ∧ ({ tile.conceal with refresh := 512 } : Conceal).refresh = 512 ∧
      tile.sup.state = .running ∧ tile.scan.blank = false ∧ tile.health.anomalyDue = false ∧ tile.gov.counter < 16 ∧
      (∀ e, ((edged 2047).conceal.far.get e).valid = true → ((edged 2047).conceal.far.get e).age < 2048) ∧
      tile.conceal.refresh < 512 := by
  refine ⟨rfl, rfl, rfl, rfl, rfl, rfl, rfl, rfl, rfl, by decide, ?_, by decide⟩
  intro e _; cases e <;> decide

theorem witness_DriveValueStages : 4095 ≤ 4095 ∧ 128 ≤ 128 ∧ 511 ≤ 511 ∧ 512 ≤ 512 ∧ 256 ≤ 256 := by decide

theorem witness_ShiftLightsOrBlanks :
    (scanning (.gap (.refresh 3))).scan.position = .gap (.refresh 3) ∧ (false && true) = false ∧
      (∀ next, tile.scan.position ≠ .gap next) ∧ 6143 < Config.dieCount := by
  refine ⟨rfl, rfl, ?_, by decide⟩
  intro next h; cases h

theorem witness_ObservationMovesTheStrike :
    DieRec.sound ⟨.good, 0, 4095, .none⟩ ∧ DieRec.sound ⟨.suspect, 7, 0, .ok⟩ ∧ DieRec.sound ⟨.failedShort, 11, 0, .none⟩ := by
  refine ⟨⟨by decide, rfl⟩, ⟨by decide, by decide, by decide⟩, ⟨by decide, by decide⟩⟩

theorem witness_SensePassIsTaken :
    (scanning (.run (.observe 3) true)).scan.position = .run (.observe 3) true ∧
      (scanning (.run (.observe 3) true)).scan.blank = false ∧ (scanning (.run (.observe 3) true)).scan.seenBlank = false ∧
      (2 : Fin 4) ≠ 3 := ⟨rfl, rfl, rfl, by decide⟩

/-- The tile with a report queue, behind a pass in which the primary of cell 7 and the spare of cell 8 failed. -/
def failedTwo (q : List Report) : State :=
  takeNotices [14, 17] (setDie 17 ⟨.failedOpen, 8, 0, .none⟩ (setDie 14 ⟨.failedShort, 11, 0, .none⟩ (reporting q)))

/-- The reports of a pass: in the place of the cell's entry, at the tail, and with the queue full as marks (R60, R163). -/
theorem test_failures_of_a_pass :
    (failedTwo [report 40 false, report 7 true]).port.queue =
        [report 40 false, ⟨7, .spare, .failedShort, .good, .autoShort, true⟩, ⟨8, .primary, .good, .failedOpen, .spareLost, false⟩] ∧
      (let full := (List.range 32).map (fun i => report (100 + i) false)
       (failedTwo full).port.queue = full ∧
        [6, 7, 8, 9].map (fun c => tget (failedTwo full).port.marks c false) = [false, true, true, false]) := by
  decide +kernel

theorem witness_VoidPassIsDiscarded :
    (scanning (.run (.observe 3) false)).scan.position = .run (.observe 3) false ∧
      ({ tile.scan with blank := true, seenBlank := true } : Scan).blank = true ∧
      ({ tile.scan with blank := true, seenBlank := true } : Scan).seenBlank = true ∧
      (scanning (.run (.refresh 3) true)).scan.position = .run (.refresh 3) true := ⟨rfl, rfl, rfl, rfl⟩

/-- The dies a request list wants. -/
def wanted (s : State) : List Nat :=
  s.health.requests.flatMap
    (fun q => (if q.primaryDone then [] else [primaryDie q.cell]) ++ (if q.spareDone then [] else [spareDie q.cell]))

theorem witness_ProbePlanIsChosen :
    (scanning (.run (.observe 3) true)).scan.position = .run (.observe 3) true ∧ tile.scan.blank = false ∧
      (wanted { tile with health := { tile.health with requests := [⟨700, true, false⟩] } }).Nodup ∧
      (wanted { tile with health := { tile.health with requests := [⟨700, true, false⟩] } }).length < 4 ∧
      (wanted { tile with health := { tile.health with requests := [⟨1264, false, false⟩, ⟨3071, false, false⟩] } }).Nodup ∧
      4 ≤ (wanted { tile with health := { tile.health with requests := [⟨1264, false, false⟩, ⟨3071, false, false⟩] } }).length := by
  decide

/-- The tile as it probes die 6,143. -/
def probing : State :=
  { tile with
    scan := { tile.scan with position := .run (.probe 3) true, slot := [6143] }
    health := { tile.health with plan := [6143] } }

theorem witness_ProbeResultIsTaken :
    probing.scan.position = .run (.probe 3) true ∧ probing.scan.slot = 6143 :: [] ∧ probing.scan.blank = false ∧
      6143 ∈ probing.health.plan ∧ 6143 ∉ tile.health.plan ∧ 6143 < Config.dieCount ∧
      ({ probing.scan with blank := true } : Scan).blank = true ∧ probing.scan.slot ≠ [] ∧
      (∀ n lit, tile.scan.position ≠ .run (.probe n) lit) := by
  refine ⟨rfl, rfl, rfl, by decide, by decide, by decide, rfl, by decide, ?_⟩
  intro n lit h; cases h

theorem witness_FailureNoticeMovesTheCell : 6143 < Config.dieCount := by decide

theorem witness_RebuildWritesTheTable :
    ({ tile.conceal with rebuild := .running (edgeSnapshot [0, 3071] .working) } : Conceal).rebuild =
        .running (edgeSnapshot [0, 3071] .working) ∧ 31 < 32 ∧ 2 < 3 := ⟨rfl, by decide, by decide⟩

theorem witness_heard : Heard tile 6 5#8 ∧ Heard tile 30 31#8 ∧ Heard tile 5 31#8 := by
  refine ⟨⟨rfl, ?_, ?_⟩, ⟨rfl, ?_, ?_⟩, rfl, ?_, ?_⟩ <;> decide

theorem witness_EdgeNoticeIsJudged :
    Heard (edged 0) 6 5#8 ∧ bodyLengthOk kindEdge (edgeBody .left (Vector.replicate _ .working)).length = true ∧
      (readEdgeBody (edgeBody .left (Vector.replicate _ .working))).isSome = true ∧
      readEdgeBody (List.replicate 14 0#8) = none ∧ bodyLengthOk kindEdge (List.replicate 14 0#8).length = true ∧
      ((edged 0).conceal.far.get .right).source = some 6 ∧ ((edged 0).conceal.far.get .right).source ≠ some 7 := by
  refine ⟨⟨rfl, ?_, ?_⟩, ?_⟩ <;> decide +kernel

theorem witness_LoadFrameEntersTheList :
    Heard (governed 0 0 256 false) 15 31#8 ∧ (List.replicate 8 0#8).length = 8 ∧
      (governed 0 0 256 false).gov.peers.Pairwise (fun p q => p.station < q.station) ∧
      tile.sup.findings.strapFault = false ∧ 15 < 16 ∧
      be16 ([5#8, 11#8, 255#8].getD 1 0#8) ([5#8, 11#8, 255#8].getD 2 0#8) = 3071 ∧
      3071 < be16 ([5#8, 12#8, 0#8].getD 1 0#8) ([5#8, 12#8, 0#8].getD 2 0#8) := by
  refine ⟨⟨rfl, ?_, ?_⟩, ?_⟩ <;> decide

theorem witness_FramesAreHeardAsTheirRows :
    (tile.seam.buffer = [] ∧ tile.seam.count = 0 ∧ tile.seam.ownSent = false) ∧
      (30 ≤ 30 ∧ bodyLengthOk kindEdge (List.replicate 109 0#8).length = true ∧ (List.replicate 8 0#8).length = 8) ∧
      requestOf (.setLimit 30 31#8 65535#16) = some (30, 31#8, .setLimit 65535) := by decide

/-- A frame as heard whole. -/
def heard (kind source : Nat) (target : Byte) (body : List Byte) : List Byte := frameBytes kind source target.toNat body

/-- A line that carries one frame is read as the frame's bytes. -/
theorem line_is_heard (kind source : Nat) (target : Byte) (body : List Byte) :
    readLine (frameLine (heard kind source target body)) = some (heard kind source target body) := readLine_frameLine _

theorem witness_BadFramesAreDiscarded :
    hearing tile = true ∧ tile.seam.ownSent = false ∧
      (readLine (frameLine [1#8, 2#8]) = some [1#8, 2#8] ∧ heardFrame tile [1#8, 2#8] = none) ∧
      readLine [⟨.dominant, 20000⟩, ⟨.recessive, 30000⟩] = none ∧
      heardFrame tile (heard kindLoad 6 7#8 (List.replicate 8 0#8)) = some ⟨kindLoad, 6, 7#8, List.replicate 8 0#8⟩ ∧
      heardFrame tile (heard kindReply 6 5#8 (List.replicate 4 0#8)) = some ⟨kindReply, 6, 5#8, List.replicate 4 0#8⟩ ∧
      hearing State.reset = false ∧ tile.seam.buffer = [] ∧ tile.seam.count = 0 := by
  refine ⟨rfl, rfl, ⟨readLine_frameLine _, by decide +kernel⟩, ?_⟩
  decide +kernel

theorem witness_OwnSourceBringsClash :
    heardFrame tile (heard kindLoad 5 7#8 (List.replicate 8 0#8)) = some ⟨kindLoad, 5, 7#8, List.replicate 8 0#8⟩ ∧
      heardFrame tile (heard kindLoad 5 31#8 (List.replicate 8 0#8)) = some ⟨kindLoad, 5, 31#8, List.replicate 8 0#8⟩ ∧
      tile.seam.own = 5 ∧ tile.seam.clash = false ∧ hearing tile = true ∧ tile.seam.ownSent = false ∧
      (31#8).toNat = 31 ∧
      heardFrame { tile with seam := { tile.seam with clash := true } } (heard kindLoad 5 7#8 (List.replicate 8 0#8)) =
        some ⟨kindLoad, 5, 7#8, List.replicate 8 0#8⟩ := by decide +kernel

theorem witness_LineIsFollowed :
    tile.seam.recv = .idle ∧ State.reset.seam.recv = .off ∧
      ({ tile.seam with recv := .inFrame, ownSent := true } : Seam).ownSent = true ∧
      ({ tile.seam with recv := .inFrame } : Seam).ownSent = false ∧ 1000 ≤ 1000 ∧ 999 < 1000 ∧
      (sending .sending .load).seam.tx ≠ .quiet ∧ (sending .sending .load).seam.lineBank = some ⟨.load, none, []⟩ := by
  decide

/-- A LOAD in an attempt, with its peak carried. -/
def announcing (tx : TxState) : State :=
  { sending tx .load with gov := { tile.gov with carried := some 9 } }

theorem witness_AttemptsEnd :
    ((announcing .contending).seam.tx = .contending ∧ (announcing .contending).seam.lineBank = some ⟨.load, none, []⟩ ∧
        (Item.load = .load → (announcing .contending).gov.carried ≠ none)) ∧
      ((sending .sending .tileNotice).seam.tx ≠ .quiet ∧ (sending .sending .tileNotice).seam.mismatches < 2 ∧
        (Item.tileNotice = .load → (sending .sending .tileNotice).gov.carried ≠ none)) ∧
      (({ (announcing .sending).seam with mismatches := 2 } : Seam).mismatches = 2 ∧
        (announcing .sending).seam.clash = false ∧
        (announcing .sending).gov.carried.isSome = isComposed (announcing .sending) .load) ∧
      tile.seam.tx ≠ .contending ∧ tile.seam.tx = .quiet := by decide +kernel

/-- A tile notice in an attempt, and a LOAD composed in the next bank. -/
theorem witness_AttemptsEnd_of_a_waiting_load :
    (let s := sending .contending .tileNotice
     let t : State :=
      { s with gov := { s.gov with carried := some 9 }, seam := { s.seam with nextBank := some ⟨.load, none, []⟩ } }
     t.seam.tx = .contending ∧ t.seam.lineBank = some ⟨.tileNotice, none, []⟩ ∧
       (Item.tileNotice = .load → t.gov.carried ≠ none) ∧ t.gov.carried.isSome = isComposed t .load) := by decide +kernel

theorem witness_CompletedFrameLeavesItsBank :
    (∀ it ∈ [Item.edge .left, .load, .longReply, .immediateReply],
      (sending .sending it).seam.tx = .sending ∧ (sending .sending it).seam.lineBank = some ⟨it, none, []⟩) ∧
      (∀ source, tile.port.request ≠ some ⟨.restart, source, .replying⟩) ∧ tile.seam.tx ≠ .sending := by
  refine ⟨by decide +kernel, ?_, by decide⟩
  intro source h; cases h

theorem witness_CompletedReportLeavesTheQueue :
    (sending .sending .reportHead).seam.tx = .sending ∧
      (sending .sending .reportHead).seam.lineBank = some ⟨.reportHead, none, []⟩ ∧
      (sending .sending .tileNotice).seam.lineBank = some ⟨.tileNotice, none, []⟩ ∧
      (reporting [report 40 true, report 41 false]).port.queue = report 40 true :: [report 41 false] ∧
      (∀ c, c < Config.cellCount → tget tile.port.marks c false = false) ∧
      tget (tset tile.port.marks 2 true) ((0 + 2) % Config.cellCount) false = true ∧
      (∀ m, m < 2 → tget (tset tile.port.marks 2 true) ((0 + m) % Config.cellCount) false = false) := by
  refine ⟨rfl, rfl, rfl, rfl, ?_, by decide +kernel, by decide +kernel⟩
  intro c hc
  show tget (Vector.replicate _ false) c false = false
  simp [tget, List.getD_eq_getElem?_getD, hc]

theorem witness_BreakForgetsTheNeighbours :
    1000 ≤ 1000 ∧ tile.seam.recv ≠ .off ∧ (∃ e, ((edged 9).conceal.far.get e).valid = true) ∧
      (∀ e, (tile.conceal.far.get e).valid = false) ∧ tile.seam.tx = .quiet ∧
      ((announcing .sending).seam.tx ≠ .quiet ∧ (announcing .sending).seam.lineBank = some ⟨.load, none, []⟩ ∧
        (sending .sending .tileNotice).seam.lineBank = some ⟨.tileNotice, none, []⟩) ∧
      (Reply.mk 20 1#8 .done 0 .status (some [1#8])).fixed ≠ none ∧ 999 < 1000 := by
  refine ⟨by decide, by decide, ⟨.top, rfl⟩, ?_, rfl, by decide +kernel, by decide, by decide⟩
  intro e; cases e <;> rfl

/-- The tile with a tile notice and a LOAD pending, and a bank. -/
def pendingTwo (line : Option Composed) : State :=
  { tile with seam := { tile.seam with items := (tile.seam.items.put .load true).put .tileNotice true, lineBank := line } }

/-- The four edge items, which go first in the item order. -/
def edgeItems : List Item := [.edge .left, .edge .right, .edge .top, .edge .bottom]

/-- The two reply items, which stand between the LOAD and the tile notice. -/
def replyItems : List Item := [.longReply, .immediateReply]

theorem witness_BanksAreFilledInOrder :
    [Item.edge .left, .edge .right, .edge .top, .edge .bottom, .load, .longReply, .immediateReply, .tileNotice, .reportHead] =
        edgeItems ++ Item.load :: (replyItems ++ Item.tileNotice :: [Item.reportHead]) ∧
      ((pendingTwo none).seam.clash = false ∧ (pendingTwo none).seam.lineBank = none ∧ (pendingTwo none).seam.nextBank = none ∧
        (pendingTwo none).sup.state = .running ∧ (pendingTwo none).seam.items.has .load = true ∧
        ∀ x ∈ edgeItems, (pendingTwo none).seam.items.has x = false) ∧
      ((pendingTwo none).seam.items.has .tileNotice = true ∧ ∀ x ∈ replyItems, (pendingTwo none).seam.items.has x = false) ∧
      ((pendingTwo (some ⟨.load, none, []⟩)).seam.lineBank = some ⟨.load, none, []⟩ ∧
        (pendingTwo (some ⟨.load, none, []⟩)).seam.items.has .tileNotice = true ∧ Item.tileNotice ≠ .load) ∧
      State.reset.sup.state = .reset ∧ (reporting [report 40 true]).port.queue = report 40 true :: [] ∧
      (Reply.mk 20 1#8 .done 0 .status none).fixed = none := by
  refine ⟨rfl, ⟨rfl, rfl, rfl, rfl, rfl, by decide⟩, ⟨rfl, by decide⟩, ⟨rfl, rfl, by decide⟩, rfl, rfl, rfl⟩

/-- A READY_WAIT tile with a LOAD, a tile notice and a report head pending: none of them may be composed yet (R133). -/
def held : State :=
  { waiting with
    seam := { waiting.seam with items := ((waiting.seam.items.put .load true).put .tileNotice true).put .reportHead true } }

theorem witness_BanksAreFilledInOrder_held :
    (held.seam.clash = false ∧ held.seam.lineBank = none ∧ held.seam.nextBank = none ∧ held.sup.state = .readyWait) ∧
      (held.seam.items.has .load = true ∧ held.seam.items.has .tileNotice = true ∧ held.seam.items.has .reportHead = true) ∧
      (∀ it, held.seam.items.has it = true →
        (∃ b, (held.seam.lineBank = some b ∨ held.seam.nextBank = some b) ∧ b.item = it) ∨
          (held.sup.state ≠ .running ∧ ¬(held.sup.state = .readyWait ∧ (it = .longReply ∨ it = .immediateReply)))) := by
  refine ⟨by decide, by decide, fun it h => Or.inr ⟨by decide, ?_⟩⟩
  rintro ⟨-, rfl | rfl⟩ <;> exact absurd h (by decide)

theorem witness_QueriesAreAnswered :
    Heard tile 20 31#8 ∧ tile.port.immediate = none ∧ Heard tile 20 5#8 ∧ (5#8).toNat ≠ 31 ∧ tile.sup.state = .running ∧
      cellOf (indexField 7) = some 7 ∧ cellOf ⟨0#8, 31#8, 31#8, 2#8⟩ = some 3071 ∧ (3071#16).toNat < Config.cellCount := by
  refine ⟨⟨rfl, ?_, ?_⟩, ?_, ⟨rfl, ?_, ?_⟩, ?_⟩ <;> decide

theorem witness_taken : Taken tile 20 5#8 ∧ Taken tile 6 5#8 := by
  refine ⟨⟨rfl, ?_⟩, ⟨rfl, ?_⟩⟩ <;> decide

theorem witness_RecordsHoldTheirFields :
    3071 < Config.cellCount ∧ (Reply.mk 20 1#8 .done 0 .status (some [1#8])).fixed = some [1#8] ∧
      (governed 2400 20000 256 false).gov.peers[0]? = some ⟨6, 2400, 0⟩ := ⟨by decide, rfl, rfl⟩

/-- The tile with the cells from one index to another forced. -/
def forcedCells (first last : Nat) : State :=
  { tile with map := { tile.map with cells := tbuild _ (fun c => ⟨.primary, decide (first ≤ c ∧ c ≤ last), none⟩) } }

/-- The last clause of FaultListMissesNoCell at both sides of its bound: 12 cells listed, the last 3,071 or the one before. -/
theorem witness_FaultListMissesNoCell :
    (faultList (forcedCells 3060 3071) 0).getLast? = some 3071 ∧ (faultList (forcedCells 3059 3071) 0).getLast? = some 3070 ∧
      (faultList (forcedCells 3059 3071) 0).length = 12 ∧ (faultList (forcedCells 3061 3071) 0).length = 11 := by
  decide +kernel

theorem witness_RequestsAreRefusedInOrder :
    (heardFrame tile (heard kindRequest 20 5#8 [1#8, 0#8]) = some ⟨kindRequest, 20, 5#8, 1#8 :: [0#8]⟩ ∧
        readRequest (1#8 :: [0#8]) = .unknown 1#8) ∧
      (requestOf (.commit 20 5#8) = some (20, 5#8, .commit) ∧ waiting.sup.state ≠ .running ∧ Request.commit ≠ .status) ∧
      (requestOf (.setLimit 20 31#8 0#16) = some (20, 31#8, .setLimit 0) ∧ (31#8).toNat = 31) ∧
      ((busy .commit .executing).port.request ≠ none ∧ (busy .commit .executing).sup.state = .running) ∧
      (let full := ({ tile.port with immediate := some ⟨20, 1#8, .done, 0, .status, none⟩ } : Port)
       full.immediate ≠ none ∧ full.long = none ∧
         ¬((Request.status = .commit ∨ Request.status = .restart) ∧ tile.sup.state = .running ∧ full.request = none)) ∧
      (let full := ({ tile.port with long := some ⟨20, 10#8, .done, 0, .empty, none⟩ } : Port)
       full.long ≠ none ∧ full.immediate = none ∧
         ((Request.commit = .commit ∨ Request.commit = .restart) ∧ tile.sup.state = .running ∧ full.request = none)) := by
  decide +kernel

theorem witness_waiting_hears : Heard { waiting with seam := { waiting.seam with recv := .idle, own := 5 } } 20 5#8 := by
  refine ⟨rfl, ?_, ?_⟩ <;> decide

theorem witness_BadOperandsAreRefused :
    cellOf ⟨0#8, 32#8, 0#8, 0#8⟩ = none ∧ cellOf ⟨1#8, 0#8, 12#8, 0#8⟩ = none ∧ cellOf ⟨2#8, 0#8, 0#8, 0#8⟩ = none ∧
      Config.cellCount ≤ (3072#16).toNat ∧ 3 ≤ (3#8).toNat ∧ dieFailed (withDie 15 .failedOpen 8) 15 = true ∧
      (1#8).toNat = 1 ∧ 15 = spareDie 7 ∧ Taken (withDie 15 .failedOpen 8) 20 5#8 ∧
      (8 ≤ (List.replicate 8 (ProbeReq.mk 9 false false)).length ∧
        ∀ q ∈ List.replicate 8 (ProbeReq.mk 9 false false), q.cell ≠ 7) := by
  refine ⟨by decide, by decide, by decide, by decide, by decide, by decide +kernel, by decide, by decide, ⟨rfl, ?_⟩, ?_⟩ <;> decide

theorem witness_ForceIsCarriedOut :
    Taken (withDie 14 .failedOpen 8) 20 5#8 ∧ cellOf (indexField 7) = some 7 ∧ cellStateOfCode (0#8).toNat = some .primary ∧
      1#8 ≠ 0#8 ∧ drivenDie 7 .primary = some 14 ∧ dieFailed (withDie 14 .failedOpen 8) 14 = true ∧
      (∀ d, drivenDie 7 .hole = some d → dieFailed tile d = false) ∧ cellStateOfCode (2#8).toNat = some .hole := by
  refine ⟨⟨rfl, ?_⟩, by decide, by decide, by decide, by decide, by decide +kernel, ?_, by decide⟩
  · decide
  · intro d h; cases h

theorem witness_ReleaseAndSetGainChangeTheCell :
    Taken (withCell 7 ⟨.hole, true, none⟩) 20 5#8 ∧ cellOf (indexField 7) = some 7 ∧
      (cellAt (withCell 7 ⟨.hole, true, none⟩) 7).forced = true ∧ (cellAt tile 7).forced = false ∧
      (cellAt tile 7).gain = none ∧ (cellAt tile 7).gain ≠ some 128 := by
  refine ⟨⟨rfl, ?_⟩, by decide, by decide +kernel, by decide +kernel, by decide +kernel, by decide +kernel⟩
  decide

theorem witness_ProbesAndSettingsAreTaken :
    Taken tile 20 5#8 ∧ (∀ q ∈ tile.health.requests, q.cell ≠ 7) ∧ tile.health.requests.length < 8 ∧
      (∃ q ∈ [ProbeReq.mk 7 true false], q.cell = 7) := by
  refine ⟨⟨rfl, ?_⟩, ?_, ?_, ⟨_, List.mem_singleton.mpr rfl, rfl⟩⟩ <;> decide

theorem witness_LongRequestsAreJudged :
    Heard tile 20 31#8 ∧ tile.sup.state = .running ∧ tile.port.request = none ∧ tile.port.long = none ∧
      writing.store.state = .writing ∧ ({ tile.store with state := .faulted } : Store).state = .faulted := by
  refine ⟨⟨rfl, ?_, ?_⟩, ?_⟩ <;> decide

theorem witness_RestartResetsTheTile :
    (busy .restart .replying).port.request = some ⟨.restart, 20, .replying⟩ ∧ tile.store.state ≠ .writing ∧
      writing.store.state = .writing ∧ (∀ source, tile.port.request ≠ some ⟨.restart, source, .replying⟩) ∧
      ((sending .sending .longReply).seam.tx = .sending ∧
        (sending .sending .longReply).seam.lineBank = some ⟨.longReply, none, []⟩) ∧
      (writing.store.inFlight.isSome = true ∧ ({ writing.store with restartHold := true } : Store).restartHold = true) := by
  refine ⟨rfl, by decide, rfl, ?_, ⟨rfl, rfl⟩, rfl, rfl⟩
  intro source h; cases h

theorem witness_WriteBeginsWithItsSnapshot :
    (tile.store.state = .idle ∧ tile.sup.supply = .ok ∧ tile.sup.state = .running ∧ tile.store.restartHold = false) ∧
      (markSettings tile).store.settingsDirty = true ∧ tile.store.settingsDirty = false ∧
      tget (markDirty 1 tile).store.dirty (((markDirty 1 tile).store.cursor + 1) % Config.cellCount) false = true ∧
      (∀ m, m < 1 → tget (markDirty 1 tile).store.dirty (((markDirty 1 tile).store.cursor + m) % Config.cellCount) false = false) := by
  decide +kernel

theorem witness_WritesEnd :
    (writing.store.state = .writing ∧ writing.store.inFlight.isSome = true ∧ writing.store.restartHold = false) ∧
      (busy .commit .executing).port.request = some ⟨.commit, 20, .executing⟩ ∧ dirtyCount writing = 0 ∧
      dirtyCount (markDirty 9 writing) ≠ 0 ∧ ({ writing.sup with supply := .low } : Supervisor).supply = .low ∧
      (busy .restart .replying).port.request = some ⟨.restart, 20, .replying⟩ ∧ tile.store.state ≠ .writing := by
  decide +kernel

theorem witness_CellEventIsPosted :
    7 < Config.cellCount ∧
      ((reporting [report 40 false, report 7 false]).port.queue = [report 40 false] ++ report 7 false :: [] ∧
        (report 7 false).cell = 7 ∧ ∀ x ∈ [report 40 false] ++ [], x.cell ≠ 7) ∧
      (∀ x ∈ tile.port.queue, x.cell ≠ 7) ∧ tile.port.queue.length < 32 ∧
      ((∀ x ∈ (List.range 32).map (fun i => report (i + 8) false), x.cell ≠ 7) ∧
        32 ≤ ((List.range 32).map (fun i => report (i + 8) false)).length) := by decide

theorem witness_ResetTileDoesNoWork :
    ResetLaw State.reset ∧ step State.reset = .next State.reset ∧
      ResetLaw { State.reset with pending := [.startBegin pins] } ∧
      (after (step { State.reset with pending := [.startBegin pins] })).sup.state = .loading := by
  refine ⟨⟨fun _ => rfl, fun h => absurd rfl h⟩, rfl, ⟨fun _ => rfl, fun h => absurd rfl h⟩, by decide⟩

theorem tile_dies (d : Nat) : dieAt tile d = DieRec.fresh := by
  show tget (Vector.replicate _ DieRec.fresh) d DieRec.fresh = _
  by_cases h : d < Config.dieCount <;> simp [tget, List.getD_eq_getElem?_getD, h]

theorem tile_cells (c : Nat) : cellAt tile c = CellRec.fresh := by
  show tget (Vector.replicate _ CellRec.fresh) c CellRec.fresh = _
  by_cases h : c < Config.cellCount <;> simp [tget, List.getD_eq_getElem?_getD, h]

theorem tile_idles : step tile = .next tile := rfl

theorem tile_reset_law : ResetLaw tile := ⟨(fun h => by cases h), fun _ => ⟨rfl, rfl⟩⟩

theorem witness_HealthLawsAreKept : DieLaw tile ∧ DrivenDieLaw tile ∧ ProbeLaw tile := by
  refine ⟨?_, ?_, ⟨by decide, by decide, ?_, by decide, by decide, by decide⟩⟩
  · intro d _; rw [tile_dies]; exact ⟨by decide, rfl⟩
  · intro c _ _ d _; simp only [dieFailed, tile_dies]; rfl
  · intro q hq; cases hq

theorem tile_zero (c n : Nat) : tget (Vector.replicate n 0) c 0 = 0 := by
  by_cases h : c < n <;> simp [tget, List.getD_eq_getElem?_getD, h]

theorem witness_DisplayLawsAreKept : BlankLaw tile ∧ DriveLaw tile ∧ ConcealLaw tile := by
  refine ⟨⟨by decide, by decide, by decide⟩, ⟨?_, ?_, by decide, by decide, by decide, ?_, rfl⟩, ?_, ?_, by decide, ?_, ?_⟩
  · intro c; rw [show tget tile.rx.frameStore c 0 = 0 from tile_zero c _]; decide
  · intro c
    rw [show tget tile.scan.chanP c 0 = 0 from tile_zero c _, show tget tile.scan.chanS c 0 = 0 from tile_zero c _]
    decide
  · intro p h; cases h
  · intro c
    have h : tget tile.conceal.active c (.lit 0) = .lit 0 := by
      show tget (Vector.replicate _ (Entry.lit 0)) c (.lit 0) = _
      by_cases h : c < Config.cellCount <;> simp [tget, List.getD_eq_getElem?_getD, h]
    rw [h]; exact Nat.zero_le _
  · intro c
    have h : tget tile.conceal.shadow c (.lit 0) = .lit 0 := by
      show tget (Vector.replicate _ (Entry.lit 0)) c (.lit 0) = _
      by_cases h : c < Config.cellCount <;> simp [tget, List.getD_eq_getElem?_getD, h]
    rw [h]; exact Nat.zero_le _
  · intro n h; cases h
  · intro e _; cases e <;> exact ⟨rfl, rfl⟩

theorem witness_GovernorLawIsKept : ResetLaw tile ∧ GovernorLaw tile := by
  refine ⟨tile_reset_law, List.Pairwise.nil, ?_, by decide, fun _ => rfl, by decide, by decide, by decide, by decide, by decide⟩
  intro p h; cases h

theorem witness_BusLawsAreKept : ResetLaw tile ∧ BankLaw tile ∧ ReportLaw tile ∧ ItemLaw tile := by
  refine ⟨tile_reset_law, ⟨?_, ?_, ?_, fun _ => rfl, ?_, by decide, by decide, rfl, ?_⟩, ⟨by decide, by decide, ?_, ?_⟩,
    rfl, rfl, rfl, rfl⟩
  · intro c h; cases h
  · intro c h; cases h
  · intro c d h; cases h
  · intro h; exact absurd rfl h
  · intro e h; cases e <;> cases h
  · intro r h; cases h
  · intro _ c
    show tget (Vector.replicate _ false) c false = false
    by_cases h : c < Config.cellCount <;> simp [tget, List.getD_eq_getElem?_getD, h]

theorem witness_StoreLawIsKept : StoreLaw tile ∧ tile.store.state = .idle := by
  refine ⟨⟨rfl, fun h => absurd rfl h, ?_, by decide, ?_, ?_⟩, rfl⟩
  · intro h; cases h
  · intro b h; cases h
  · intro i b h; cases h

end Sys2Proof.Tests
end

section
/-! PROOF. What an observation does to a die record (R34, R36, R37). -/

namespace Sys2Proof.Machine

/-! ## Strikes and healths -/

theorem health_failed_iff (h : Health) : h.failed = true ↔ h = .failedOpen ∨ h = .failedShort := by
  cases h <;> simp [Health.failed]

theorem health_not_failed_iff (h : Health) : h.failed = false ↔ h = .good ∨ h = .suspect := by
  cases h <;> simp [Health.failed]

/-- A die that is not FAILED stands below the strike of failure (R34). -/
theorem DieRec.sound.strike_lt {r : DieRec} (hr : r.sound) (h : r.health = .good ∨ r.health = .suspect) :
    r.strike < Config.failStrike := by
  obtain ⟨-, hs⟩ := hr
  obtain hg | hg := h <;> rw [hg] at hs
  · exact hs ▸ by decide
  · exact hs.2

/-- 11 is the largest strike the automatic logic gives: a SHORT at 7 (R34). -/
theorem strikeAfter_le_eleven (m : Measure) {n : Nat} (h : n < Config.failStrike) : strikeAfter m n ≤ 11 := by
  simp only [Config.failStrike] at h
  cases m <;> simp only [strikeAfter] <;> omega

/-- An OK observation cannot bring a die to FAILED (R34). -/
theorem strikeAfter_ok_lt {n : Nat} (h : n < Config.failStrike) : strikeAfter .ok n < Config.failStrike :=
  Nat.lt_of_le_of_lt (Nat.sub_le n 1) h

/-! ## The lines of R34's table -/

@[simp] theorem healthAfter_zero (m : Measure) (old : Health) : healthAfter m 0 old = .good := rfl

theorem healthAfter_suspect (m : Measure) (old : Health) {n : Nat} (hpos : 1 ≤ n) (hlt : n < Config.failStrike) :
    healthAfter m n old = .suspect := by
  simp [healthAfter, hlt, Nat.ne_of_gt hpos]

/-- From strike 8 on, the observation names the kind of failure. -/
theorem healthAfter_failed (old : Health) {n : Nat} (h : Config.failStrike ≤ n) :
    healthAfter .openPath n old = .failedOpen ∧ healthAfter .shortPath n old = .failedShort := by
  have hpos : n ≠ 0 := by rintro rfl; exact absurd h (by decide)
  simp [healthAfter, hpos, Nat.not_lt.mpr h]

/-! ## The observed record, field by field -/

/-- Every observation sets the age to 0, of a FAILED die too (R38). -/
@[simp] theorem observe_age (b : Bool) (m : Measure) (r : DieRec) : (observe b m r).age = 0 := by
  cases h : r.health.failed <;> simp [observe, h]

/-- Only a probe sets the last probe outcome, and of a FAILED die too (R36, R37). -/
theorem observe_lastProbe (b : Bool) (m : Measure) (r : DieRec) :
    (observe b m r).lastProbe = if b then outcomeOf m else r.lastProbe := by
  cases h : r.health.failed <;> simp [observe, h]

theorem observe_strike_of_not_failed (b : Bool) (m : Measure) {r : DieRec} (h : r.health.failed = false) :
    (observe b m r).strike = strikeAfter m r.strike := by
  simp [observe, h]

theorem observe_health_of_not_failed (b : Bool) (m : Measure) {r : DieRec} (h : r.health.failed = false) :
    (observe b m r).health = healthAfter m (observe b m r).strike r.health := by
  simp [observe, h]

end Sys2Proof.Machine

/-! ## The statement -/

section
open Sys2Proof Sys2Proof.Machine

/-- Settles O23, by whether the die is FAILED: a FAILED die keeps strike and health (R37), and any other stands below 8, so that its
new strike is at most 11 and its health is the line of R34's table for that strike. -/
theorem observationMovesTheStrike : Obligations.ObservationMovesTheStrike := by
  unfold Obligations.ObservationMovesTheStrike
  intro b m r hr o
  refine ⟨observe_age b m r, ?outcome, fun hfailed => ?failed, fun hworks => ?works⟩
  case outcome => exact (observe_lastProbe b m r).trans (by cases m <;> rfl)
  case failed =>
    obtain ⟨hhealth, hstrike, -⟩ := observe_failed b m r ((health_failed_iff _).mpr hfailed)
    exact ⟨hhealth, hstrike⟩
  case works =>
    have hnot : r.health.failed = false := (health_not_failed_iff _).mpr hworks
    have hlow : r.strike < Config.failStrike := hr.strike_lt hworks
    have hstrike : o.strike = strikeAfter m r.strike := observe_strike_of_not_failed b m hnot
    have hhealth : o.health = healthAfter m o.strike r.health := observe_health_of_not_failed b m hnot
    refine ⟨hstrike.trans (by cases m <;> rfl), fun hzero => ?good, fun hpos hseven => ?suspect, fun hfail hm => ?failedOpen,
      fun hfail hm => ?failedShort, fun hm => ?okBelow, ?bound⟩
    case good => rw [hhealth, hzero, healthAfter_zero]
    case suspect => rw [hhealth, healthAfter_suspect m _ hpos (Nat.lt_succ_of_le hseven)]
    case failedOpen => rw [hhealth, hm, (healthAfter_failed _ hfail).1]
    case failedShort => rw [hhealth, hm, (healthAfter_failed _ hfail).2]
    case okBelow =>
      rw [hstrike, hm]
      exact Nat.le_of_lt_succ (strikeAfter_ok_lt hlow)
    case bound => exact hstrike ▸ strikeAfter_le_eleven m hlow

end
end

section
/-! PROOF. The drive value of one cell and the frame load of all of them (R82 to R84, R86). -/

namespace Sys2Proof.Machine

/-! ## Boost and gain (R82, R83) -/

/-- A factor of at most 1 does not raise the boost above its sum. -/
theorem boost_le_bsum (bsum : Nat) {factor : Nat} (hf : factor ≤ 256) : boost bsum factor ≤ bsum :=
  Nat.div_le_of_le_mul (Nat.mul_comm 256 bsum ▸ Nat.mul_le_mul_left bsum hf)

@[simp] theorem boost_full_factor (bsum : Nat) : boost bsum 256 = bsum := Nat.mul_div_cancel bsum (by decide)

@[simp] theorem boost_zero_factor (bsum : Nat) : boost bsum 0 = 0 := Nat.zero_div 256

@[simp] theorem boost_zero_bsum (factor : Nat) : boost 0 factor = 0 := by simp [boost]

/-- In a driven cell the gain is one of two: the unit gain on the primary, the spare gain on the spare. -/
theorem gainFor_of_driven {st : CellState} (h : st ≠ .hole) (gain : Nat) :
    gainFor st gain = if st = .primary then 256 else gain := by
  cases st with
  | primary => rfl
  | spare => rfl
  | hole => exact absurd rfl h

/-! ## Product, rounding and clip (R84) -/

theorem product_le {v g b : Nat} (hv : v ≤ 4095) (hg : g ≤ 511) (hb : b ≤ 512) : product v g b ≤ 1607074560 :=
  calc v * g * (256 + b)
    _ ≤ 4095 * 511 * (256 + 512) := Nat.mul_le_mul (Nat.mul_le_mul hv hg) (Nat.add_le_add_left hb 256)
    _ = 1607074560 := rfl

/-- The clip threshold: 4,096 × 65,536 less the half that is added. -/
theorem maxValue_lt_rounded_iff (p : Nat) : Config.maxValue < rounded p ↔ 268402688 ≤ p := by
  simp only [Config.maxValue, rounded]
  omega

/-- At unit gain and without boost the product is V × 65,536, so that the stages give V back. -/
@[simp] theorem rounded_product_unit (v : Nat) : rounded (product v 256 0) = v := by
  simp only [rounded, product]
  omega

/-! ## The stages of one cell -/

@[simp] theorem driveCell_hole (v gain bsum factor : Nat) : driveCell v .hole gain bsum factor = ⟨0, .hole, false⟩ := rfl

theorem driveCell_of_driven (v gain bsum factor : Nat) {st : CellState} (h : st ≠ .hole) :
    driveCell v st gain bsum factor =
      ⟨min Config.maxValue (rounded (product v (gainFor st gain) (boost bsum factor))), st,
        decide (Config.maxValue < rounded (product v (gainFor st gain) (boost bsum factor)))⟩ := by
  cases st with
  | primary => rfl
  | spare => rfl
  | hole => exact absurd rfl h

@[simp] theorem driveCell_state (v gain bsum factor : Nat) (st : CellState) :
    (driveCell v st gain bsum factor).state = st := by
  cases st <;> rfl

/-- The clip holds whatever the operands are. -/
theorem driveCell_value_le (v gain bsum factor : Nat) (st : CellState) :
    (driveCell v st gain bsum factor).value ≤ Config.maxValue := by
  by_cases h : st = .hole
  · rw [h, driveCell_hole]
    exact Nat.zero_le _
  · rw [driveCell_of_driven _ _ _ _ h]
    exact Nat.min_le_left _ _

/-! ## The drive values of a computation (R78, R79) -/

/-- Every entry of a zipped collection is the function's value at a pair of entries. -/
theorem exists_of_mem_tzip {α β γ : Type} {n : Nat} {f : α → β → γ} {v : Vector α n} {w : Vector β n} {c : γ}
    (h : c ∈ (tzip f v w).toList) : ∃ a b, c = f a b := by
  obtain ⟨i, hi, hget⟩ := (mem_toList_iff_tget _ c c).mp h
  refine ⟨v[i], w[i], ?_⟩
  rw [← hget, tget_tzip f v w i v[i] w[i] _ hi, tget_eq_getElem v i _ hi, tget_eq_getElem w i _ hi]

/-- Each drive value of a computation comes out of the stages of one cell. -/
theorem mem_driveTable {s : State} {o : DriveOut} (h : o ∈ (driveTable s).toList) :
    ∃ v st gain bsum, o = driveCell v st gain bsum s.gov.factor := by
  obtain ⟨⟨st, gain⟩, ⟨v, bsum⟩, ho⟩ := exists_of_mem_tzip h
  exact ⟨v, st, gain, bsum, ho⟩

theorem driveTable_value_le {s : State} {o : DriveOut} (h : o ∈ (driveTable s).toList) : o.value ≤ Config.maxValue := by
  obtain ⟨v, st, gain, bsum, rfl⟩ := mem_driveTable h
  exact driveCell_value_le v gain bsum s.gov.factor st

/-- A cell in HOLE is driven at 0 (R81). -/
theorem driveTable_hole_value {s : State} {o : DriveOut} (h : o ∈ (driveTable s).toList) (hhole : o.state = .hole) :
    o.value = 0 := by
  obtain ⟨v, st, gain, bsum, rfl⟩ := mem_driveTable h
  rw [driveCell_state] at hhole
  rw [hhole, driveCell_hole]

/-! ## The frame load (R86) -/

@[simp] theorem driveBoundary_load (s : State) : (driveBoundary s).drive.load = frameLoad (driveTable s) := rfl

/-- R86's bound: 3,072 values of at most 4,095 sum to 12,579,840, and 4,096 goes into that 3,071 times. -/
theorem frameLoad_le {t : Vector DriveOut Config.cellCount} (h : ∀ o ∈ t.toList, o.value ≤ Config.maxValue) :
    frameLoad t ≤ Config.maxLoad := by
  have hvalues : ∀ x ∈ t.toList.map (fun o => o.value), x ≤ Config.maxValue := by simpa using h
  have hsum : (t.toList.map (fun o => o.value)).sum ≤ 3072 * 4095 := by
    have hcard := List.sum_le_card_nsmul _ _ hvalues
    rwa [List.length_map, Vector.length_toList] at hcard
  calc (t.toList.map (fun o => o.value)).sum / 4096
    _ ≤ 3072 * 4095 / 4096 := Nat.div_le_div_right hsum
    _ = Config.maxLoad := rfl

end Sys2Proof.Machine

/-! ## The statements -/

section
open Sys2Proof Sys2Proof.Machine

/-- Settles O20, by whether the cell is driven: a cell in HOLE has no product, and in any other the gain is one of R82's two and the
rounded product decides value and clip. -/
theorem driveValueStages : Obligations.DriveValueStages := by
  unfold Obligations.DriveValueStages
  intro v gain bsum factor st hv hgainLow hgainHigh hbsum hfactor b g p o
  have hb : b ≤ 512 := (boost_le_bsum bsum hfactor).trans hbsum
  have hg : 128 ≤ g ∧ g ≤ 511 := by
    simp only [g]
    split <;> omega
  have hp : p ≤ 1607074560 := product_le hv hg.2 hb
  refine ⟨hb, fun hfull => ?fullFactor, fun hzero => ?zeroFactor, fun hzero => ?noBoost, hg.1, hg.2, hp, by omega,
    driveCell_state v gain bsum factor st, driveCell_value_le v gain bsum factor st, fun hhole => ?hole, fun hdriven => ?driven⟩
  case fullFactor => subst hfull; exact boost_full_factor bsum
  case zeroFactor => subst hzero; exact boost_zero_factor bsum
  case noBoost => subst hzero; exact boost_zero_bsum factor
  case hole =>
    subst hhole
    exact ⟨rfl, rfl⟩
  case driven =>
    have ho : o = ⟨min Config.maxValue (rounded p), st, decide (Config.maxValue < rounded p)⟩ := by
      rw [show p = product v (gainFor st gain) (boost bsum factor) by rw [gainFor_of_driven hdriven]; rfl]
      exact driveCell_of_driven v gain bsum factor hdriven
    have hclip : o.clipped = true ↔ Config.maxValue < rounded p := by rw [ho]; exact decide_eq_true_iff
    refine ⟨congrArg DriveOut.value ho, hclip, hclip.trans (maxValue_lt_rounded_iff p), fun hunit hnone => ?unit⟩
    have hround : rounded p = v := by
      rw [show p = product v 256 0 by simp only [p, hunit, hnone, product]]
      exact rounded_product_unit v
    rw [ho, hround]
    exact ⟨Nat.min_eq_right hv, decide_eq_false (Nat.not_lt.mpr hv)⟩

/-- Settles O21: every value of the table has gone through the clip of one cell, and 3,072 clipped values bound the load. -/
theorem frameLoadStaysInRange : Obligations.FrameLoadStaysInRange := by
  unfold Obligations.FrameLoadStaysInRange
  intro s t
  exact ⟨driveBoundary_load s, frameLoad_le fun _ => driveTable_value_le,
    fun _ ho => ⟨driveTable_value_le ho, driveTable_hole_value ho⟩, Vector.length_toList⟩

end
end

section
/-! PROOF. The table a rebuild writes and the neighbours it sums over (R93 to R97). -/

namespace Sys2Proof.Machine

/-! ## The four edges, one by one -/

theorem sum_map_allEdges (f : Edge → Nat) : (allEdges.map f).sum = f .left + f .right + f .top + f .bottom := by
  simp [allEdges, Nat.add_assoc]

theorem countP_allEdges (p : Edge → Bool) :
    allEdges.countP p =
      (if p .left then 1 else 0) + (if p .right then 1 else 0) + (if p .top then 1 else 0) + if p .bottom then 1 else 0 := by
  simp only [allEdges, List.countP_cons, List.countP_nil, Nat.zero_add]
  omega

/-! ## Row, column and colour of an index (R1) -/

section
variable {row col colour : Nat}

theorem rowOf_cellIndex (hcol : col < 32) (hcolour : colour < 3) : rowOf (cellIndex row col colour) = row := by
  simp only [rowOf, cellIndex]
  omega

theorem colOf_cellIndex (hcol : col < 32) (hcolour : colour < 3) : colOf (cellIndex row col colour) = col := by
  simp only [colOf, cellIndex]
  omega

theorem colourOf_cellIndex (hcolour : colour < 3) : colourOf (cellIndex row col colour) = colour := by
  simp only [colourOf, cellIndex]
  omega

/-! ## The neighbours of a cell (R93)

Inside the tile a step along the row moves the index by 3 and a step along the column by 96. -/

theorem cellIndex_left (hcol : col ≠ 0) : cellIndex row col colour - 3 = cellIndex row (col - 1) colour := by
  simp only [cellIndex]
  omega

theorem cellIndex_right : cellIndex row col colour + 3 = cellIndex row (col + 1) colour := by
  simp only [cellIndex]
  omega

theorem cellIndex_top (hrow : row ≠ 0) : cellIndex row col colour - 96 = cellIndex (row - 1) col colour := by
  simp only [cellIndex]
  omega

theorem cellIndex_bottom : cellIndex row col colour + 96 = cellIndex (row + 1) col colour := by
  simp only [cellIndex]
  omega

theorem neighbour_left (hcol : col < 32) (hcolour : colour < 3) :
    neighbour (cellIndex row col colour) .left =
      if col = 0 then .across .left (row * 3 + colour) else .inside (cellIndex row (col - 1) colour) := by
  simp only [neighbour, rowOf_cellIndex hcol hcolour, colOf_cellIndex hcol hcolour, colourOf_cellIndex hcolour]
  split
  · rfl
  · next hinside => rw [cellIndex_left hinside]

theorem neighbour_right (hcol : col < 32) (hcolour : colour < 3) :
    neighbour (cellIndex row col colour) .right =
      if col = 31 then .across .right (row * 3 + colour) else .inside (cellIndex row (col + 1) colour) := by
  simp only [neighbour, rowOf_cellIndex hcol hcolour, colOf_cellIndex hcol hcolour, colourOf_cellIndex hcolour,
    cellIndex_right]

theorem neighbour_top (hcol : col < 32) (hcolour : colour < 3) :
    neighbour (cellIndex row col colour) .top =
      if row = 0 then .across .top (col * 3 + colour) else .inside (cellIndex (row - 1) col colour) := by
  simp only [neighbour, rowOf_cellIndex hcol hcolour, colOf_cellIndex hcol hcolour, colourOf_cellIndex hcolour]
  split
  · rfl
  · next hinside => rw [cellIndex_top hinside]

theorem neighbour_bottom (hcol : col < 32) (hcolour : colour < 3) :
    neighbour (cellIndex row col colour) .bottom =
      if row = 31 then .across .bottom (col * 3 + colour) else .inside (cellIndex (row + 1) col colour) := by
  simp only [neighbour, rowOf_cellIndex hcol hcolour, colOf_cellIndex hcol hcolour, colourOf_cellIndex hcolour,
    cellIndex_bottom]

end

/-! ## Shares and boost sums (R93 to R95) -/

section
variable (n : Snapshot)

/-- Beyond an edge only a VALID record of a PRESENT edge has an entry (R93). -/
theorem farEntry_eq (e : Edge) (i : Nat) :
    farEntry n e i =
      if (n.far.get e).present = true ∧ (n.far.get e).valid = true then some (tget (n.far.get e).entries i .working)
      else none := by
  simp only [farEntry, Bool.and_eq_true]

/-- A cell of this tile works unless it is a hole of the snapshot (R93). -/
theorem neighbourWorks_inside_ite (c : Nat) :
    (if neighbourWorks n (.inside c) then 1 else 0) = if snapHole n c then 0 else 1 := by
  cases h : snapHole n c <;> simp [neighbourWorks, h]

theorem workingCount_eq (c : Nat) :
    workingCount n c =
      (if neighbourWorks n (neighbour c .left) then 1 else 0) + (if neighbourWorks n (neighbour c .right) then 1 else 0) +
        (if neighbourWorks n (neighbour c .top) then 1 else 0) + if neighbourWorks n (neighbour c .bottom) then 1 else 0 :=
  countP_allEdges _

theorem bsumOf_eq (c : Nat) :
    bsumOf n c =
      min 512 (askedBy n (neighbour c .left) + askedBy n (neighbour c .right) + askedBy n (neighbour c .top) +
        askedBy n (neighbour c .bottom)) :=
  congrArg (min 512) (sum_map_allEdges _)

theorem tget_rebuiltTable {c : Nat} (hc : c < Config.cellCount) (d : Entry) :
    tget (rebuiltTable n) c d = if snapHole n c then .hole (shareOf n c) else .lit (bsumOf n c) :=
  tget_tbuild (rebuiltEntry n) c d hc

end

/-! ## The command (R96, R97) -/

theorem exec_rebuildComplete : ∀ s : State, exec .rebuildComplete s = execRebuildComplete s := by
  intros; rfl

theorem execRebuildComplete_running {s : State} {n : Snapshot} (h : s.conceal.rebuild = .running n) :
    execRebuildComplete s =
      .next (s.setConceal { s.conceal with shadow := rebuiltTable n, rebuild := .complete }) := by
  simp only [execRebuildComplete, h]

end Sys2Proof.Machine

/-! ## The statement -/

section
open Sys2Proof Sys2Proof.Machine

/-- Settles O29: what the statement sums over the four directions is, term by term, what the rebuild's own functions add up, so that
the entry it asks for is the entry of the rebuilt table; the neighbours follow from the row and column of an index. -/
theorem rebuildWritesTheTable : Obligations.RebuildWritesTheTable := by
  unfold Obligations.RebuildWritesTheTable
  refine ⟨fun s n hrunning => ?table, fun row col colour _ hcol hcolour => ?neighbours⟩
  case neighbours =>
    exact ⟨neighbour_left hcol hcolour, neighbour_right hcol hcolour, neighbour_top hcol hcolour, neighbour_bottom hcol hcolour⟩
  case table =>
    refine ⟨_, (exec_rebuildComplete s).trans (execRebuildComplete_running hrunning), ?_, rfl⟩
    intro hole beyond works count share asked c hc
    have hbeyond : ∀ e i, beyond e i = farEntry n e i := fun e i => (farEntry_eq n e i).symm
    have hworks : ∀ x e, works x e = if neighbourWorks n (neighbour x e) then 1 else 0 := by
      intro x e
      simp only [works, hbeyond]
      cases neighbour x e with
      | inside y => exact (neighbourWorks_inside_ite n y).symm
      | across f i => simp only [neighbourWorks, decide_eq_true_eq]
    have hcount : ∀ x, count x = workingCount n x := by
      intro x
      simp only [count, hworks, workingCount_eq]
    have hshare : ∀ x, share x = shareOf n x := by
      intro x
      simp only [share, hcount, shareOf]
    have hasked : ∀ x e, asked x e = askedBy n (neighbour x e) := by
      intro x e
      simp only [asked, hbeyond, hshare]
      cases neighbour x e with
      | inside y => rfl
      | across f i => rfl
    simp only [hshare, hasked, ← bsumOf_eq]
    exact tget_rebuiltTable n hc _

end
end

section
/-! PROOF. The tile notice a signal raises (R165), and the governor step with its OVER flag (R117 to R119). -/

namespace Sys2Proof.Machine

variable (s : State)

/-! ## What a signal does (R165) -/

/-- The three cases of R165: a clear flag is raised and its item becomes pending, a flag whose frame is composed is marked to be raised
again, and a flag that waits for its frame stands as it is. -/
theorem raiseNotice_raises : NoticeRaised s (raiseNotice s) := by
  cases hnotice : s.port.notice with
  | false => simp [NoticeRaised, raiseNotice, hnotice, pend, PendingSet.put]
  | true =>
    cases hcomposed : isComposed s .tileNotice with
    | true => simp [NoticeRaised, raiseNotice, hnotice, hcomposed]
    | false =>
      simp only [NoticeRaised, raiseNotice, hnotice, hcomposed, if_true, Bool.false_eq_true, if_false, Bool.and_false,
        Bool.or_false, Bool.not_true, and_true]
      rw [← hnotice]

theorem raiseNotice_onlyNoticeItem : OnlyNoticeItem s (raiseNotice s) := by
  unfold raiseNotice
  split
  · split <;> rfl
  · rfl

/-- A signal touches the Service Port and the Seam Link Controller alone. -/
theorem raiseNotice_eq :
    raiseNotice s = { s with port := (raiseNotice s).port, seam := (raiseNotice s).seam } := by
  unfold raiseNotice
  split
  · split <;> rfl
  · rfl

/-! ## The OVER flag of a step (R119) -/

theorem overAfter_set {limit estimate : Nat} (hlimit : 0 < limit) (hover : limit < estimate) (old : Bool) :
    overAfter limit estimate 0 old = true := by
  have hnot : ¬(limit = 0 ∨ estimate ≤ limit) := by omega
  rw [overAfter, if_neg hnot, if_pos rfl]

theorem overAfter_cleared {limit estimate : Nat} (h : limit = 0 ∨ estimate ≤ limit) (factor : Nat) (old : Bool) :
    overAfter limit estimate factor old = false :=
  if_pos h

theorem overAfter_left {limit estimate factor : Nat} (hlimit : 0 < limit) (hover : limit < estimate) (hfactor : factor ≠ 0)
    (old : Bool) : overAfter limit estimate factor old = old := by
  have hnot : ¬(limit = 0 ∨ estimate ≤ limit) := by omega
  rw [overAfter, if_neg hnot, if_neg hfactor]

/-! ## The governor step (R117 to R119) -/

/-- The Load Governor's block after its step: E, then S, then OVER. -/
def governorAfter : Governor :=
  let e := estimateOf s.drive.load s.gov.peers
  let f := factorAfter s.gov.limit e s.gov.factor
  { s.gov with estimate := e, factor := f, overFlag := overAfter s.gov.limit e f s.gov.overFlag }

variable {s}

theorem governorStep_of_over_kept (h : (governorAfter s).overFlag = s.gov.overFlag) :
    governorStep s = s.setGov (governorAfter s) :=
  if_neg (by simpa [governorAfter] using h)

theorem governorStep_of_over_changed (h : (governorAfter s).overFlag ≠ s.gov.overFlag) :
    governorStep s = raiseNotice (s.setGov (governorAfter s)) :=
  if_pos (by simpa [governorAfter] using h)

variable (s)

theorem governorStep_gov : (governorStep s).gov = governorAfter s := by
  by_cases h : (governorAfter s).overFlag = s.gov.overFlag
  · rw [governorStep_of_over_kept h, setGov_gov]
  · simp [governorStep_of_over_changed h]

/-- The OVER flag follows from the new estimate and the new factor. -/
theorem governorStep_overFlag :
    (governorStep s).gov.overFlag =
      overAfter s.gov.limit (governorStep s).gov.estimate (governorStep s).gov.factor s.gov.overFlag := by
  rw [governorStep_gov]
  rfl

/-- The step touches the governor, and by its notice the Service Port and the Seam Link Controller. -/
theorem governorStep_eq :
    governorStep s =
      { s with gov := governorAfter s, port := (governorStep s).port, seam := (governorStep s).seam } := by
  by_cases h : (governorAfter s).overFlag = s.gov.overFlag
  · rw [governorStep_of_over_kept h]
    rfl
  · rw [governorStep_of_over_changed h]
    exact raiseNotice_eq _

end Sys2Proof.Machine

/-! ## The statement -/

section
open Sys2Proof Sys2Proof.Machine

/-- Settles O17, by whether the flag changes: a step that changes it is a signal taken on the state with the governor's new block, a
step that leaves it writes that block alone, and the flag itself is R119's function of the new E and the new S. -/
theorem overFollowsTheStep : Obligations.OverFollowsTheStep := by
  unfold Obligations.OverFollowsTheStep
  intro s t
  have hgov : t.gov = governorAfter s := governorStep_gov s
  have hflag : t.gov.overFlag = overAfter s.gov.limit t.gov.estimate t.gov.factor s.gov.overFlag := governorStep_overFlag s
  refine ⟨fun ⟨hlimit, hover, hzero⟩ => ?set, fun hunder => ?cleared, fun hlimit hover hfactor => ?left,
    fun hchanged => ?changed, fun hkept => ?kept, ?frame⟩
  case set =>
    rw [hflag, hzero]
    exact overAfter_set hlimit hover _
  case cleared => exact hflag.trans (overAfter_cleared hunder _ _)
  case left => exact hflag.trans (overAfter_left hlimit hover hfactor _)
  case changed =>
    rw [hgov] at hchanged
    have ht : t = raiseNotice (s.setGov (governorAfter s)) := governorStep_of_over_changed hchanged
    rw [ht]
    exact ⟨raiseNotice_raises (s.setGov _), raiseNotice_onlyNoticeItem (s.setGov _)⟩
  case kept =>
    rw [hgov] at hkept
    have ht : t = s.setGov (governorAfter s) := governorStep_of_over_kept hkept
    rw [ht]
    exact ⟨rfl, rfl⟩
  case frame =>
    rw [hgov]
    exact governorStep_eq s

end
end
section
/-! PROOF. The reading of a REQUEST body (12.4.1), kind by kind: the shape of the parameters that each kind asks for. -/

namespace Sys2Proof.Machine

/-- Parameters of a kind that has none. -/
def readNone (r : Request) : List Byte → Option Request
  | [] => some r
  | _ => none

/-- One byte. -/
def readByte (f : Byte → Request) : List Byte → Option Request
  | [a] => some (f a)
  | _ => none

/-- A two-byte field. -/
def readHalf (f : Nat → Request) : List Byte → Option Request
  | [hi, lo] => some (f (be16 hi lo))
  | _ => none

/-- A cell field, and `rest` for what stands behind it. -/
def readField (rest : CellField → List Byte → Option Request) : List Byte → Option Request
  | a :: b :: c :: d :: more => rest ⟨a, b, c, d⟩ more
  | _ => none

/-- The two bytes behind the cell field of a FORCE. -/
def readForce (f : CellField) : List Byte → Option Request
  | [code, clear] => some (.force f code clear)
  | _ => none

/-- The three bytes behind the cell field of a SET GAIN. -/
def readGain (f : CellField) : List Byte → Option Request
  | mode :: more => readHalf (.setGain f mode) more
  | _ => none

/-- The request that parameters give a kind; none when the kind or the length is none of 12.4.1. -/
def readParams (kind : Nat) (params : List Byte) : Option Request :=
  match kind with
  | 1 => readNone .status params
  | 2 => readField (fun f => readNone (.readCell f)) params
  | 3 => readHalf .listFaults params
  | 4 => readField readForce params
  | 5 => readField (fun f => readNone (.release f)) params
  | 6 => readField readGain params
  | 7 => readField (fun f => readNone (.probe f)) params
  | 8 => readByte (fun b => .setConceal b.toNat) params
  | 9 => readHalf .setLimit params
  | 10 => readNone .commit params
  | 11 => readNone .restart params
  | _ => none

/-- A body reads as its parameters by its kind byte, or as of an unknown kind (R176). -/
theorem readRequest_cons (kind : Byte) (params : List Byte) :
    readRequest (kind :: params) = (readParams kind.toNat params).getD (.unknown kind) := by
  unfold readRequest
  dsimp only
  generalize kind.toNat = n
  obtain hlt | ⟨m, rfl⟩ : n < 12 ∨ ∃ m, n = m + 12 := by
    by_cases h : n < 12
    · exact .inl h
    · exact .inr ⟨n - 12, by omega⟩
  · rcases params with _ | ⟨a, _ | ⟨b, _ | ⟨c, _ | ⟨d, _ | ⟨e, _ | ⟨f, _ | ⟨g, _ | ⟨x, more⟩⟩⟩⟩⟩⟩⟩⟩ <;>
      interval_cases n <;> rfl
  · rfl

/-- The strength a SET CONCEAL body carries is a byte (12.4.1). -/
theorem readParams_strength {kind : Nat} {params : List Byte} {v : Nat} (h : readParams kind params = some (.setConceal v)) :
    v ≤ 255 := by
  have hnone : ∀ {r : Request} {l : List Byte} {q : Request}, readNone r l = some q → q = r := by
    intro r l q hq
    cases l <;> cases hq
    rfl
  have hfield : ∀ {rest : CellField → List Byte → Option Request} {l : List Byte} {q : Request}, readField rest l = some q →
      ∃ f more, rest f more = some q := by
    intro rest l q hq
    unfold readField at hq
    split at hq
    · exact ⟨_, _, hq⟩
    · cases hq
  have hhalf : ∀ {g : Nat → Request} {l : List Byte} {q : Request}, readHalf g l = some q → ∃ n, q = g n := by
    intro g l q hq
    unfold readHalf at hq
    split at hq
    · cases hq; exact ⟨_, rfl⟩
    · cases hq
  unfold readParams at h
  split at h
  · cases hnone h
  · obtain ⟨_, _, hr⟩ := hfield h; cases hnone hr
  · obtain ⟨_, hr⟩ := hhalf h; cases hr
  · obtain ⟨_, _, hr⟩ := hfield h
    unfold readForce at hr
    split at hr <;> cases hr
  · obtain ⟨_, _, hr⟩ := hfield h; cases hnone hr
  · obtain ⟨_, _, hr⟩ := hfield h
    unfold readGain at hr
    split at hr
    · obtain ⟨_, hq⟩ := hhalf hr; cases hq
    · cases hr
  · obtain ⟨_, _, hr⟩ := hfield h; cases hnone hr
  · unfold readByte at h
    split at h
    · next b => cases h; exact Nat.le_of_lt_succ b.isLt
    · cases h
  · obtain ⟨_, hr⟩ := hhalf h; cases hr
  · cases hnone h
  · cases hnone h
  · cases h

theorem readRequest_strength {body : List Byte} {v : Nat} (h : readRequest body = .setConceal v) : v ≤ 255 := by
  cases body with
  | nil => cases h
  | cons kind params =>
    rw [readRequest_cons] at h
    cases hp : readParams kind.toNat params with
    | none => rw [hp] at h; cases h
    | some r =>
      rw [hp] at h
      cases h
      exact readParams_strength hp

end Sys2Proof.Machine
end
section
/-! PROOF. What every command is made of: a predicate that each of these parts keeps is kept by the command. Three layers, each wider than
the one before: the parts of the work of a tile that stands in its supervisor state, the moves of the Supervisor with the load and FORCE, and the
starts. A law of the device is then one predicate with the proofs of the parts that touch it; a part that leaves the law's
fields alone is kept by its frame lemma, which is what the default proof of each field cites. -/

namespace Sys2Proof.Machine

/-! ## The parts -/

/-- The entry into RUNNING before its notices and items (R172). -/
def runBegun (timeout : Bool) (s : State) : State :=
  { s with
    sup :=
      { s.sup with
        state := .running
        readyTimer := false
        findings := { s.sup.findings with readyTimeout := s.sup.findings.readyTimeout || timeout } }
    gov := { s.gov with counter := 0 }
    conceal := { s.conceal with refresh := 0 } }

theorem enterRunning_eq (timeout : Bool) (s : State) :
    enterRunning timeout s = settle (pendEdges (fun _ => true) (pendLoad (raiseNotice (runBegun timeout s)))) := rfl

/-- A RESTART that has to wait for the write in flight (R152). -/
def restartHeld (s : State) : State := (s.setPort { s.port with request := none }).setStore { s.store with restartHold := true }

theorem handRestart_writing (pins : Pins) {s : State} (h : s.store.state = .writing) : handRestart pins s = restartHeld s :=
  if_pos h

theorem handRestart_free (pins : Pins) {s : State} (h : s.store.state ≠ .writing) :
    handRestart pins s = beginStart pins (resetTile .restart s) :=
  if_neg h

/-- The joining of a contention (R128). -/
def contend (s : State) : State :=
  s.setSeam
    { s.seam with
      recv := .inFrame
      buffer := []
      count := 0
      ownSent := false
      tx := if joins s then .contending else s.seam.tx }

/-- The work of BREAK before the banks are filled (R126). -/
def breakWork (s : State) : State :=
  breakAttempt (decide (s.seam.tx ≠ .quiet)) (breakConceal (breakGovernor (breakSeam s)))

/-- A PROBE that enters the request list (R43). -/
def listProbe (c : Nat) (s : State) : State :=
  s.setHealth { s.health with requests := s.health.requests ++ [⟨c, false, false⟩] }

/-- The parts of a frame boundary (R27). -/
structure BoundaryKeeps (P : State → Prop) : Prop where
  period : ∀ t s, P s → P (judgePeriod t s) := by intro _ _ h; simpa using h
  health : ∀ t s, P s → P (healthBoundary t s) := by intro _ _ h; simpa using h
  installed : ∀ s, P s → P (install s) := by intro _ h; simpa using h
  farAged : ∀ t s, P s → P (farBoundary t s) := by intro _ _ h; simpa using h
  refreshed : ∀ t s, P s → P (refreshBoundary t s) := by intro _ _ h; simpa using h
  driven : ∀ t s, P s → P (governorStep (agePeers t (driveBoundary s))) := by intro _ _ h; simpa using h
  announced : ∀ t s, P s → P (announceBoundary t s) := by intro _ _ h; simpa using h

/-- The parts of the work in a supervisor state. -/
structure WorkKeeps (P : State → Prop) : Prop extends BoundaryKeeps P where
  notice : ∀ s, P s → P (raiseNotice s) := by intro _ h; simpa using h
  badMarker : ∀ s, P s → P (markerFailed s) := by intro _ h; simpa using h
  goodMarker : ∀ s, P s → P (markerGood s) := by intro _ h; simpa using h
  fill : ∀ s, P s → P (fillOne s) := by intro _ h; simpa using h
  write : ∀ s, P s → P (beginWrite s) := by intro _ h; simpa using h
  edgeItems : ∀ p s, P s → P (pendEdges p s) := by intro _ _ h; simpa using h
  loadItem : ∀ s, P s → P (pendLoad s) := by intro _ h; simpa using h
  judge : ∀ s, P s → P (judgeLong s) := by intro _ h; simpa using h
  arrive : ∀ buffer inTail s, P s → P (s.setRx { s.rx with buffer := buffer, inTail := inTail }) := by
    intro _ _ _ h; simpa using h
  accept : ∀ f s, P s → P (acceptFrame f s) := by intro _ _ h; simpa using h
  expire : ∀ t s, s.rx.timer ≠ .stopped → P s → P (takeDark (boundary t (expireInterval s))) := by
    intro _ _ _ h; simpa using h
  dark : ∀ s, P s → P (takeDark s) := by intro _ h; simpa using h
  blankClear : ∀ s, P s → P (takeBlankClear s) := by intro _ h; simpa using h
  anomaly : ∀ s, P s → P (takeAnomalyNotice s) := by intro _ h; simpa using h
  announce : ∀ s, P s → P (takeAnnouncement s) := by intro _ h; simpa using h
  peersExpire : ∀ s, P s → P (takePeerExpiry s) := by intro _ h; simpa using h
  farExpire : ∀ s, P s → P (takeFarExpiry s) := by intro _ h; simpa using h
  refresh : ∀ s, P s → P (takeEdgeRefresh s) := by intro _ h; simpa using h
  rebuilt : ∀ n s, s.conceal.rebuild = .running n → P s →
      P (s.setConceal { s.conceal with shadow := rebuiltTable n, rebuild := .complete }) := by
    intro _ _ _ h; simpa using h
  scanOn : ∀ position slot seen s, P s →
      P (s.setScan { s.scan with position := position, slot := slot, seenBlank := seen }) := by
    intro _ _ _ _ h; simpa using h
  unmade : ∀ ds s, P s → P (notMade ds s) := by intro _ _ h; simpa using h
  pass : ∀ p mP mS s, P s → P (takePass p mP mS s) := by intro _ _ _ _ h; simpa using h
  choose : ∀ s, P s → P (chooseDies s) := by intro _ h; simpa using h
  probed : ∀ d m s, P s → P (takeProbeResult d m s) := by intro _ _ _ h; simpa using h
  receive : ∀ recv buffer count own s, P s →
      P (s.setSeam { s.seam with recv := recv, buffer := buffer, count := count, ownSent := own }) := by
    intro _ _ _ _ _ h; simpa using h
  join : ∀ s, P s → P (contend s) := by intro _ h; simpa [contend] using h
  win : ∀ s, s.seam.tx = .contending → P s → P (s.setSeam { s.seam with tx := .sending }) := by
    intro _ _ h; simpa using h
  lose : ∀ s, s.seam.tx = .contending → P s → P (recompose (txQuiet s)) := by intro _ _ h; simpa using h
  abort : ∀ s, s.seam.tx ≠ .quiet → P s → P (abortAttempt s) := by intro _ _ h; simpa using h
  broken : ∀ s, P s → P (breakWork s) := by intro _ h; simpa [breakWork] using h
  sent : ∀ c s, s.seam.tx = .sending → s.seam.lineBank = some c → P s → P (ownerCompletes c (advanceBanks c s)) := by
    intro _ _ _ _ h; simpa using h
  clash : ∀ s, P s → P (enterClash s) := by intro _ h; simpa using h
  edgeFrame : ∀ source body s, P s → P (takeEdge source body s) := by intro _ _ _ h; simpa using h
  loadFrame : ∀ source body s, P s → P (takeLoad source body s) := by intro _ _ _ h; simpa using h
  reply : ∀ source r result body s, P s → P (answer source r result body s) := by intro _ _ _ _ _ h; simpa using h
  release : ∀ c s, c < Config.cellCount → P s → P (carryRelease c s) := by intro _ _ _ h; simpa using h
  gain : ∀ c g s, c < Config.cellCount → P s → P (carrySetGain c g s) := by intro _ _ _ _ h; simpa using h
  list : ∀ c s, c < Config.cellCount → s.health.requests.any (fun q => q.cell == c) = false →
      s.health.requests.length < Config.probeListSize → P s → P (listProbe c s) := by
    intro _ _ _ _ _ h; simpa [listProbe] using h
  strength : ∀ k s, k ≤ 255 → P s → P (trigger (markSettings (s.setConceal { s.conceal with k := k }))) := by
    intro _ _ _ h; simpa using h
  limit : ∀ v s, P s → P (markSettings (s.setGov { s.gov with limit := clampLimit v })) := by
    intro _ _ h; simpa using h
  long : ∀ source k s, P s → P (takeLong source k s) := by intro _ _ _ h; simpa using h
  hold : ∀ s, s.store.state = .writing → P s → P (restartHeld s) := by intro _ _ h; simpa [restartHeld] using h
  wrote : ∀ job s, s.store.state = .writing → s.store.inFlight = some job → s.store.restartHold = false → P s →
      P (completeWrite job s) := by
    intro _ _ _ _ _ h; simpa using h
  unwritten : ∀ job s, s.store.state = .writing → s.store.inFlight = some job → s.store.restartHold = false → P s →
      P (timeoutWrite job s) := by
    intro _ _ _ _ _ h; simpa using h

/-- The moves of the Supervisor but the start's begin. -/
structure MoveKeeps (P : State → Prop) : Prop extends WorkKeeps P where
  readyWait : ∀ b s, s.sup.state = .chainCheck → P s → P (enterReadyWait b s) := by
    intro _ _ _ h; simpa [enterReadyWait] using h
  run : ∀ b s, s.sup.state = .readyWait → P s → P (runBegun b s) := by intro _ _ _ h; simpa [runBegun] using h
  low : ∀ s, P s → P (s.setSup { s.sup with supply := .low }) := by intro _ h; simpa using h
  ok : ∀ s, P s → P (s.setSup { s.sup with supply := .ok, supplyHeld := false }) := by intro _ h; simpa using h

/-- The load's completion and FORCE. -/
structure LoadKeeps (P : State → Prop) : Prop extends MoveKeeps P where
  loaded : ∀ s, s.sup.state = .loading → P s → P (completeLoad s) := by intro _ _ h; simpa [completeLoad] using h
  force : ∀ c st s, c < Config.cellCount → P s → P (carryForce c st s) := by intro _ _ _ _ h; simpa using h

/-- The resets and the RESTART's start. -/
structure StartKeeps (P : State → Prop) : Prop extends LoadKeeps P where
  reset : ∀ cause s, P s → P (resetTile cause s) := by intro _ _ h; simpa using h
  restart : ∀ pins s, P s → P (beginStart pins (resetTile .restart s)) := by intro _ _ h; simpa using h
  restartWrote : ∀ pins job s, s.store.inFlight = some job → P s →
      P (beginStart pins (resetTile .restart (completeWrite job s))) := by
    intro _ _ _ _ h; simpa using h
  restartUnwritten : ∀ pins job s, s.store.inFlight = some job → P s →
      P (beginStart pins (resetTile .restart (timeoutWrite job s))) := by
    intro _ _ _ _ h; simpa using h

/-! ## Shared operations out of their parts -/

/-- The boundary runs its parts in the order of log entry 7. -/
theorem BoundaryKeeps.boundary_keeps {P : State → Prop} (k : BoundaryKeeps P) {s : State} (t : Taking) (h : P s) :
    P (boundary t s) := by
  unfold boundary
  split
  · exact k.announced t _ (k.driven t _ (k.refreshed t _ (k.farAged t _ (k.installed _ (k.health t _ (k.period t _ h))))))
  · exact k.installed _ h

namespace WorkKeeps

variable {P : State → Prop} (k : WorkKeeps P) {s : State}
include k

theorem fillBanks_keeps (h : P s) : P (fillBanks s) := k.fill _ (k.fill _ h)

theorem settle_keeps (h : P s) : P (settle s) := k.fillBanks_keeps (k.write _ h)

theorem toGap_keeps (p : LitPos) (h : P s) : P (toGap p s) := k.scanOn (.gap p) s.scan.slot s.scan.blank s h

theorem abandonSlot_keeps (h : P s) : P (abandonSlot s) :=
  k.toGap_keeps _ (k.scanOn _ _ _ _ (k.unmade _ _ h))

theorem takePart_keeps (t : Taking) (part : List LineRun × Bool) (h : P s) : P (takePart t s part) := by
  have harrived : P (s.setRx (collect part.1 s.rx)) := by rw [collect_frame]; exact k.arrive _ _ s h
  unfold takePart
  split
  · obtain hd | ⟨f, -, -, ha⟩ := endRecord_cases (s.setRx (collect part.1 s.rx)) t
    · rw [hd]; exact k.arrive _ _ _ harrived
    · rw [ha]; exact k.fillBanks_keeps (k.boundary_keeps t (k.accept f _ harrived))
  · exact harrived

theorem takeParts_keeps (t : Taking) (parts : List (List LineRun × Bool)) (h : P s) : P (parts.foldl (takePart t) s) := by
  induction parts generalizing s with
  | nil => exact h
  | cons part parts ih => exact ih (k.takePart_keeps t part h)

theorem reachProbeSlot_keeps (h : P s) : P (reachProbeSlot s) := by
  unfold reachProbeSlot
  split
  · exact k.toGap_keeps _ h
  · exact k.toGap_keeps _ (k.choose _ h)

theorem afterObserve_keeps (p : Fin 4) (h : P s) : P (afterObserve p s) := by
  unfold afterObserve
  split
  · exact k.reachProbeSlot_keeps h
  · exact k.toGap_keeps _ h

/-! ## Frames that are heard -/

/-- A frame's end, with what its owner does behind the test of R132. -/
theorem hearFrame_keeps (ok : Bool) (source : Nat) (target : Byte) (hand : State → State) (hhand : ∀ u, P u → P (hand u)) (h : P s) :
    P (hearFrame ok source target hand s) := by
  have hend : P (endFrame s) := k.receive .idle [] 0 false s h
  have htest : P (if source = (endFrame s).seam.own then enterClash (endFrame s) else endFrame s) := by
    split
    · exact k.clash _ hend
    · exact hend
  unfold hearFrame
  split
  · split
    · refine k.settle_keeps ?_
      unfold judged
      dsimp only
      split
      · exact hhand _ htest
      · exact htest
    · exact hend
  · exact h

theorem doProbe_keeps (source : Nat) (r : Request) (f : CellField) (h : P s) : P (doProbe source r f s) := by
  unfold doProbe
  split
  · exact k.reply _ _ _ _ _ h
  · next c hc =>
    split
    · exact k.reply _ _ _ _ _ h
    · next hnew =>
      split
      · next hroom => exact k.reply _ _ _ _ _ (k.list c s (cellOf_lt f c hc) (by simpa using hnew) hroom h)
      · exact k.reply _ _ _ _ _ h

/-- A request that is carried out, with what a FORCE does given apart. -/
theorem carryOut_keeps (source : Nat) (r : Request) (hstrength : ∀ v, r = .setConceal v → v ≤ 255)
    (hforce : ∀ c st u, c < Config.cellCount → (∃ f code clear, r = .force f code clear) → P u → P (carryForce c st u))
    (h : P s) : P (carryOut source r s) := by
  cases r with
  | unknown kind => exact h
  | status => exact k.reply _ _ _ _ _ h
  | readCell f =>
    unfold carryOut doReadCell
    dsimp only
    split <;> exact k.reply _ _ _ _ _ h
  | listFaults start =>
    unfold carryOut doListFaults
    dsimp only
    split <;> exact k.reply _ _ _ _ _ h
  | force f code clear =>
    unfold carryOut doForce
    dsimp only
    split
    · exact k.reply _ _ _ _ _ h
    · exact k.reply _ _ _ _ _ h
    · next c st hc _ =>
      split
      · exact k.reply _ _ _ _ _ h
      · exact k.reply _ _ _ _ _ (hforce c st s (cellOf_lt f c hc) ⟨f, code, clear, rfl⟩ h)
  | release f =>
    unfold carryOut doRelease
    dsimp only
    split
    · exact k.reply _ _ _ _ _ h
    · next c hc => exact k.reply _ _ _ _ _ (k.release c s (cellOf_lt f c hc) h)
  | setGain f mode code =>
    unfold carryOut doSetGain
    dsimp only
    split
    · exact k.reply _ _ _ _ _ h
    · next c hc => exact k.reply _ _ _ _ _ (k.gain c _ s (cellOf_lt f c hc) h)
  | probe f => exact k.doProbe_keeps source _ f h
  | setConceal v => exact k.reply _ _ _ _ _ (k.strength v s (hstrength v rfl) h)
  | setLimit v => exact k.reply _ _ _ _ _ (k.limit v s h)
  | commit => exact h
  | restart => exact h

theorem takeRequest_keeps (source : Nat) (target : Byte) (r : Request) (hstrength : ∀ v, r = .setConceal v → v ≤ 255)
    (hforce : ∀ c st u, c < Config.cellCount → (∃ f code clear, r = .force f code clear) → P u → P (carryForce c st u))
    (h : P s) : P (takeRequest source target r s) := by
  unfold takeRequest
  split
  · split
    · exact h
    · exact k.long _ _ _ h
  · split
    · exact h
    · exact k.reply _ _ _ _ _ h
  · split
    · exact h
    · exact k.carryOut_keeps source r hstrength hforce h

/-- A request row but FORCE and SET CONCEAL, whose operands ask for more. -/
theorem hearRequest_keeps (source : Nat) (target : Byte) (r : Request) (hstrength : ∀ v, r = .setConceal v → v ≤ 255)
    (hforce : ∀ f code clear, r ≠ .force f code clear) (h : P s) : P (hearRequest source target r s) :=
  k.hearFrame_keeps _ source target _
    (fun _ => k.takeRequest_keeps source target r hstrength
      (fun _ _ _ _ ⟨f, code, clear, hr⟩ => absurd hr (hforce f code clear))) h

theorem frameBroken_keeps (h : P s) : P (frameBroken s) := by
  unfold frameBroken
  split
  · exact k.receive .waitIdle [] 0 false s h
  · exact h

end WorkKeeps

end Sys2Proof.Machine
end
section
/-! PROOF. Every command out of the parts that keep a predicate, one theorem for each of the three layers. -/

namespace Sys2Proof.Machine

/-- The commands that neither move the Supervisor, nor may return a cell (R57): the work of a tile in its supervisor state. -/
def isWork : Instr → Bool
  | .startBegin _ => false
  | .chainCheckComplete _ _ => false
  | .readyLineHigh _ => false
  | .readyTimeout => false
  | .supplyLow => false
  | .supplyOk => false
  | c => !mayReturnCell c

/-- A next state is the only outcome of an answer of that form. -/
theorem next_inj {s t : State} (h : (Host.Outcome.next s : Answer) = .next t) : s = t := by injection h

/-! ## The layer of the work -/

namespace WorkKeeps

variable {P : State → Prop} (k : WorkKeeps P) {s t : State}
include k

theorem shiftComplete_keeps (p q : Bool) (h : P s) (he : execShiftComplete p q s = .next t) : P t := by
  unfold execShiftComplete at he
  split at he
  · next next _ =>
    split at he
    · rw [← next_inj he]; exact k.scanOn _ _ _ _ (k.goodMarker _ h)
    · rw [← next_inj he]
      refine k.fillBanks_keeps ?_
      unfold failPosition
      dsimp only
      split
      · exact k.abandonSlot_keeps (k.badMarker _ h)
      · exact k.scanOn _ _ _ _ (k.badMarker _ h)
  · exact next_inj he ▸ h

theorem observeEnd_keeps (mP mS : Vector Measure Config.channelCount) (h : P s) (he : execObserveEnd mP mS s = .next t) : P t := by
  unfold execObserveEnd at he
  split at he
  · split at he
    · exact next_inj he ▸ k.afterObserve_keeps _ h
    · exact next_inj he ▸ k.settle_keeps (k.afterObserve_keeps _ (k.pass _ _ _ _ h))
  · exact next_inj he ▸ h

theorem probeEnd_keeps (m : Measure) (h : P s) (he : execProbeEnd m s = .next t) : P t := by
  unfold execProbeEnd at he
  split at he
  · exact next_inj he ▸ k.toGap_keeps _ h
  · split at he
    · exact next_inj he ▸ k.abandonSlot_keeps h
    · exact next_inj he ▸ k.settle_keeps (k.toGap_keeps _ (k.scanOn _ _ _ _ (k.probed _ _ _ h)))
  · exact next_inj he ▸ h

theorem refreshPositionEnd_keeps (h : P s) (he : execRefreshPositionEnd s = .next t) : P t := by
  unfold execRefreshPositionEnd at he
  split at he
  · exact next_inj he ▸ k.toGap_keeps _ h
  · exact next_inj he ▸ h

theorem rebuildComplete_keeps (h : P s) (he : execRebuildComplete s = .next t) : P t := by
  unfold execRebuildComplete at he
  split at he
  · next n hn => exact next_inj he ▸ k.rebuilt n s hn h
  · exact next_inj he ▸ h

theorem recordEnd_keeps (link : List LineRun) (tk : Taking) (h : P s) (he : execRecordEnd link tk s = .next t) : P t := by
  unfold execRecordEnd at he
  split at he
  · exact next_inj he ▸ k.takeParts_keeps tk _ h
  · exact next_inj he ▸ h

theorem intervalTimerExpiry_keeps (tk : Taking) (h : P s) (he : execIntervalTimerExpiry tk s = .next t) : P t := by
  unfold execIntervalTimerExpiry at he
  split at he
  · exact next_inj he ▸ h
  · next hrun => exact next_inj he ▸ k.fillBanks_keeps (k.expire tk s hrun h)

/-- A row whose event is taken when it is due and then fills the banks. -/
theorem due_keeps (due : Bool) (f : State → State) (hf : P (f s)) (h : P s)
    (he : (if due then .next (fillBanks (f s)) else .next s : Answer) = .next t) : P t := by
  split at he
  · exact next_inj he ▸ k.fillBanks_keeps hf
  · exact next_inj he ▸ h

theorem lineIdle_keeps (us : Nat) (h : P s) (he : execLineIdle us s = .next t) : P t := by
  unfold execLineIdle at he
  split at he
  · split at he
    · exact next_inj he ▸ h
    · exact next_inj he ▸ k.receive .idle s.seam.buffer s.seam.count s.seam.ownSent s h
  · exact next_inj he ▸ h

theorem breakSeen_keeps (us : Nat) (h : P s) (he : execBreakSeen us s = .next t) : P t := by
  unfold execBreakSeen at he
  split at he
  · exact next_inj he ▸ h
  · exact next_inj he ▸ k.fillBanks_keeps (k.broken s h)

theorem contentionStart_keeps (ns : Nat) (h : P s) (he : execContentionStart s ns = .next t) : P t := by
  unfold execContentionStart at he
  split at he
  · exact next_inj he ▸ k.join s h
  · exact next_inj he ▸ h

theorem arbitrationLoss_keeps (h : P s) (he : execArbitrationLoss s = .next t) : P t := by
  unfold execArbitrationLoss at he
  split at he
  · next htx => exact next_inj he ▸ k.lose s htx h
  · exact next_inj he ▸ h

theorem arbitrationWon_keeps (h : P s) (he : execArbitrationWon s = .next t) : P t := by
  unfold execArbitrationWon at he
  split at he
  · next htx => exact next_inj he ▸ k.win s htx h
  · exact next_inj he ▸ h

theorem readbackAbort_keeps (h : P s) (he : execReadbackAbort s = .next t) : P t := by
  unfold execReadbackAbort at he
  split at he
  · exact next_inj he ▸ h
  · next htx => exact next_inj he ▸ k.abort s htx h

/-- A command of the work keeps what its parts keep. -/
theorem exec_keeps (c : Instr) (hc : isWork c = true) (h : P s) (he : exec c s = .next t) : P t := by
  cases c with
  | recordEnd link tk => exact k.recordEnd_keeps link tk h he
  | intervalTimerExpiry tk => exact k.intervalTimerExpiry_keeps tk h he
  | darkEntry => exact k.due_keeps (darkDue s) takeDark (k.dark s h) h he
  | shiftComplete p q => exact k.shiftComplete_keeps p q h he
  | blankFlagClear => exact k.due_keeps (blankClearDue s) takeBlankClear (k.blankClear s h) h he
  | observeEnd mP mS => exact k.observeEnd_keeps mP mS h he
  | refreshPositionEnd => exact k.refreshPositionEnd_keeps h he
  | probeEnd m => exact k.probeEnd_keeps m h he
  | anomalyRunNotice => exact k.due_keeps s.health.anomalyDue takeAnomalyNotice (k.anomaly s h) h he
  | rebuildComplete => exact k.rebuildComplete_keeps h he
  | announcementDue => exact k.due_keeps (Machine.announcementDue s) takeAnnouncement (k.announce s h) h he
  | peerEntryExpiry => exact next_inj he ▸ k.peersExpire s h
  | farEdgeExpiry => exact next_inj he ▸ k.farExpire s h
  | edgeRefresh => exact k.due_keeps (refreshDue s) takeEdgeRefresh (k.refresh s h) h he
  | lineIdle us => exact k.lineIdle_keeps us h he
  | framingError => exact next_inj he ▸ k.frameBroken_keeps h
  | breakSeen us => exact k.breakSeen_keeps us h he
  | contentionStart ns => exact k.contentionStart_keeps ns h he
  | arbitrationLoss => exact k.arbitrationLoss_keeps h he
  | readbackAbort => exact k.readbackAbort_keeps h he
  | arbitrationWon => exact k.arbitrationWon_keeps h he
  | edgeNotice source target body =>
    exact next_inj he ▸ k.hearFrame_keeps _ source target _ (k.edgeFrame source body) h
  | loadFrame source target body =>
    exact next_inj he ▸ k.hearFrame_keeps _ source target _ (k.loadFrame source body) h
  | status source target =>
    exact next_inj he ▸ k.hearRequest_keeps source target .status (by intros; contradiction) (by intros; exact nofun) h
  | readCell source target f =>
    exact next_inj he ▸ k.hearRequest_keeps source target (.readCell f) (by intros; contradiction) (by intros; exact nofun) h
  | listFaults source target n =>
    exact next_inj he ▸ k.hearRequest_keeps source target (.listFaults n.toNat) (by intros; contradiction) (by intros; exact nofun) h
  | release source target f =>
    exact next_inj he ▸ k.hearRequest_keeps source target (.release f) (by intros; contradiction) (by intros; exact nofun) h
  | setGain source target f mode code =>
    exact next_inj he ▸
      k.hearRequest_keeps source target (.setGain f mode code.toNat) (by intros; contradiction) (by intros; exact nofun) h
  | probe source target f =>
    exact next_inj he ▸ k.hearRequest_keeps source target (.probe f) (by intros; contradiction) (by intros; exact nofun) h
  | setConceal source target v =>
    refine next_inj he ▸ k.hearRequest_keeps source target (.setConceal v.toNat) ?_ (by intros; exact nofun) h
    rintro _ ⟨⟩
    exact Nat.le_of_lt_succ v.isLt
  | setLimit source target v =>
    exact next_inj he ▸ k.hearRequest_keeps source target (.setLimit v.toNat) (by intros; contradiction) (by intros; exact nofun) h
  | commit source target =>
    exact next_inj he ▸ k.hearRequest_keeps source target .commit (by intros; contradiction) (by intros; exact nofun) h
  | restart source target =>
    exact next_inj he ▸ k.hearRequest_keeps source target .restart (by intros; contradiction) (by intros; exact nofun) h
  | _ => exact absurd hc Bool.false_ne_true

end WorkKeeps

/-! ## The layer of the Supervisor's moves -/

namespace MoveKeeps

variable {P : State → Prop} (k : MoveKeeps P) {s t : State}
include k

theorem chainCheckComplete_keeps (p q : Bool) (h : P s) (he : execChainCheckComplete p q s = .next t) : P t := by
  unfold execChainCheckComplete at he
  split at he
  · next hstate =>
    split at he
    · exact next_inj he ▸ k.fillBanks_keeps (k.readyWait _ s hstate h)
    · exact next_inj he ▸ k.fillBanks_keeps (k.readyWait _ _ (by simpa using hstate) (k.badMarker s h))
  · exact next_inj he ▸ h

theorem enterRunning_keeps (b : Bool) (hstate : s.sup.state = .readyWait) (h : P s) : P (enterRunning b s) := by
  rw [enterRunning_eq]
  exact k.settle_keeps (k.edgeItems _ _ (k.loadItem _ (k.notice _ (k.run b s hstate h))))

theorem readyLineHigh_keeps (us : Nat) (h : P s) (he : execReadyLineHigh us s = .next t) : P t := by
  unfold execReadyLineHigh at he
  split at he
  · next hstate =>
    split at he
    · exact next_inj he ▸ h
    · exact next_inj he ▸ k.enterRunning_keeps _ hstate h
  · exact next_inj he ▸ h

theorem readyTimeout_keeps (h : P s) (he : execReadyTimeout s = .next t) : P t := by
  unfold execReadyTimeout at he
  split at he
  · next hstate =>
    split at he
    · exact next_inj he ▸ k.enterRunning_keeps _ hstate h
    · exact next_inj he ▸ h
  · exact next_inj he ▸ h

theorem supplyLow_keeps (h : P s) (he : execSupplyLow s = .next t) : P t := by
  unfold execSupplyLow at he
  split at he
  · exact next_inj he ▸ k.fillBanks_keeps (k.judge _ (k.low s h))
  · exact next_inj he ▸ h

theorem supplyOk_keeps (h : P s) (he : execSupplyOk s = .next t) : P t := by
  unfold execSupplyOk at he
  split at he
  · exact next_inj he ▸ k.settle_keeps (k.ok s h)
  · exact next_inj he ▸ h

/-- A command that may not return a cell (R57) keeps what its parts keep; the begin of a start is left to the law. -/
theorem exec_keeps (c : Instr) (hc : mayReturnCell c = false) (hstart : ∀ pins, c ≠ .startBegin pins) (h : P s)
    (he : exec c s = .next t) : P t := by
  cases c with
  | startBegin pins => exact absurd rfl (hstart pins)
  | chainCheckComplete p q => exact k.chainCheckComplete_keeps p q h he
  | readyLineHigh us => exact k.readyLineHigh_keeps us h he
  | readyTimeout => exact k.readyTimeout_keeps h he
  | supplyLow => exact k.supplyLow_keeps h he
  | supplyOk => exact k.supplyOk_keeps h he
  | _ => exact k.toWorkKeeps.exec_keeps _ (by simpa [isWork] using hc) h he

end MoveKeeps

/-! ## The layer of the load and of FORCE -/

namespace LoadKeeps

variable {P : State → Prop} (k : LoadKeeps P) {s t : State}
include k

theorem handOver_keeps (f : HeardFrame) (h : P s) : P (handOver f s) := by
  unfold handOver
  split
  · exact k.edgeFrame _ _ _ h
  · exact k.loadFrame _ _ _ h
  · exact k.takeRequest_keeps _ _ _ (fun _ => readRequest_strength) (fun c st u hc _ hu => k.force c st u hc hu) h
  · exact h

theorem seamFrameEnd_keeps (line : List LineRun) (h : P s) (he : execSeamFrameEnd line s = .next t) : P t := by
  obtain ⟨-, hown⟩ | ⟨-, -, hbroken⟩ | ⟨bytes, -, -, hheard⟩ := execSeamFrameEnd_cases s line
  · exact next_inj (hown.symm.trans he) ▸ k.hearFrame_keeps _ _ _ _ (fun _ hu => hu) h
  · exact next_inj (hbroken.symm.trans he) ▸ k.frameBroken_keeps h
  · refine next_inj (hheard.symm.trans he) ▸ ?_
    unfold endHeard
    split
    · exact k.hearFrame_keeps _ _ _ _ (fun _ hu => hu) h
    · exact k.hearFrame_keeps _ _ _ _ (fun _ => k.handOver_keeps _) h

theorem loadComplete_keeps (h : P s) (he : execLoadComplete s = .next t) : P t := by
  unfold execLoadComplete at he
  split at he
  · next hstate => exact next_inj he ▸ k.loaded s hstate h
  · exact next_inj he ▸ h

/-- A FORCE row, heard (R62). -/
theorem force_keeps (source : Nat) (target : Byte) (f : CellField) (code clear : Byte) (h : P s)
    (he : execForce source target f code clear s = .next t) : P t :=
  next_inj he ▸
    k.hearFrame_keeps _ source target _
      (fun _ => k.takeRequest_keeps source target _ (by intros; contradiction) (fun c st u hc _ hu => k.force c st u hc hu)) h

/-- A command that hands over a RESTART keeps what its parts keep until it does. -/
theorem frameComplete_keeps_or_restarts (pins : Pins) (h : P s) (he : execFrameComplete pins s = .next t) :
    P t ∨ ∃ v, v.sup = s.sup ∧ t = beginStart pins (resetTile .restart v) := by
  unfold execFrameComplete at he
  split at he
  · next c htx hbank =>
    have hsent : P (completeFrame c s) := k.fillBanks_keeps (k.sent c s htx hbank h)
    split at he
    · rw [← next_inj he]
      by_cases hw : (completeFrame c s).store.state = .writing
      · rw [handRestart_writing pins hw]; exact .inl (k.hold _ hw hsent)
      · exact .inr ⟨completeFrame c s, by simp, handRestart_free pins hw⟩
    · exact .inl (next_inj he ▸ hsent)
  · exact .inl (next_inj he ▸ h)

theorem restartWaitExpiry_keeps_or_restarts (pins : Pins) (h : P s) (he : execRestartWaitExpiry pins s = .next t) :
    P t ∨ ∃ v, v.sup = s.sup ∧ t = beginStart pins (resetTile .restart v) := by
  unfold execRestartWaitExpiry at he
  split at he
  · rw [← next_inj he]
    by_cases hw : s.store.state = .writing
    · rw [handRestart_writing pins hw]; exact .inl (k.hold _ hw h)
    · exact .inr ⟨s, rfl, handRestart_free pins hw⟩
  · exact .inl (next_inj he ▸ h)

theorem writeComplete_keeps_or_restarts (pins : Pins) (h : P s) (he : execWriteComplete pins s = .next t) :
    P t ∨ ∃ v, v.sup = s.sup ∧ t = beginStart pins (resetTile .restart v) := by
  unfold execWriteComplete at he
  split at he
  · next job hstate hjob =>
    dsimp only at he
    split at he
    · exact .inr ⟨completeWrite job s, by simp, (next_inj he).symm⟩
    · next hhold => exact .inl (next_inj he ▸ k.settle_keeps (k.judge _ (k.wrote job s hstate hjob (by simpa using hhold) h)))
  · exact .inl (next_inj he ▸ h)

theorem writeTimeout_keeps_or_restarts (pins : Pins) (h : P s) (he : execWriteTimeout pins s = .next t) :
    P t ∨ ∃ v, v.sup = s.sup ∧ t = beginStart pins (resetTile .restart v) := by
  unfold execWriteTimeout at he
  split at he
  · next job hstate hjob =>
    dsimp only at he
    split at he
    · exact .inr ⟨timeoutWrite job s, by simp, (next_inj he).symm⟩
    · next hhold =>
      exact .inl (next_inj he ▸ k.fillBanks_keeps (k.judge _ (k.notice _ (k.unwritten job s hstate hjob (by simpa using hhold) h))))
  · exact .inl (next_inj he ▸ h)

end LoadKeeps

/-! ## The layer of the starts -/

namespace StartKeeps

variable {P : State → Prop} (k : StartKeeps P) {s t : State}
include k

theorem handRestart_keeps (pins : Pins) (h : P s) : P (handRestart pins s) := by
  by_cases hw : s.store.state = .writing
  · rw [handRestart_writing pins hw]; exact k.hold s hw h
  · rw [handRestart_free pins hw]; exact k.restart pins s h

theorem frameComplete_keeps (pins : Pins) (h : P s) (he : execFrameComplete pins s = .next t) : P t := by
  unfold execFrameComplete at he
  split at he
  · next c htx hbank =>
    have hsent : P (completeFrame c s) := k.fillBanks_keeps (k.sent c s htx hbank h)
    split at he
    · exact next_inj he ▸ k.handRestart_keeps pins hsent
    · exact next_inj he ▸ hsent
  · exact next_inj he ▸ h

theorem restartWaitExpiry_keeps (pins : Pins) (h : P s) (he : execRestartWaitExpiry pins s = .next t) : P t := by
  unfold execRestartWaitExpiry at he
  split at he
  · exact next_inj he ▸ k.handRestart_keeps pins h
  · exact next_inj he ▸ h

theorem writeComplete_keeps (pins : Pins) (h : P s) (he : execWriteComplete pins s = .next t) : P t := by
  unfold execWriteComplete at he
  split at he
  · next job hstate hjob =>
    dsimp only at he
    split at he
    · exact next_inj he ▸ k.restartWrote pins job s hjob h
    · next hhold => exact next_inj he ▸ k.settle_keeps (k.judge _ (k.wrote job s hstate hjob (by simpa using hhold) h))
  · exact next_inj he ▸ h

theorem writeTimeout_keeps (pins : Pins) (h : P s) (he : execWriteTimeout pins s = .next t) : P t := by
  unfold execWriteTimeout at he
  split at he
  · next job hstate hjob =>
    dsimp only at he
    split at he
    · exact next_inj he ▸ k.restartUnwritten pins job s hjob h
    · next hhold =>
      exact next_inj he ▸ k.fillBanks_keeps (k.judge _ (k.notice _ (k.unwritten job s hstate hjob (by simpa using hhold) h)))
  · exact next_inj he ▸ h

theorem pinReset_keeps (us : Nat) (h : P s) (he : execPinReset us s = .next t) : P t := by
  unfold execPinReset at he
  split at he
  · exact next_inj he ▸ h
  · exact next_inj he ▸ k.reset _ s h

/-- Every command but START_BEGIN keeps what its parts keep; the begin of a start is left to the law. -/
theorem exec_keeps (c : Instr) (hstart : ∀ pins, c ≠ .startBegin pins) (h : P s) (he : exec c s = .next t) : P t := by
  cases hc : mayReturnCell c with
  | false => exact k.toMoveKeeps.exec_keeps c hc hstart h he
  | true =>
    cases c with
    | powerOn => exact next_inj he ▸ k.reset _ s h
    | pinReset us => exact k.pinReset_keeps us h he
    | supplyFail => exact next_inj he ▸ k.reset _ s h
    | loadComplete => exact k.loadComplete_keeps h he
    | seamFrameEnd line => exact k.seamFrameEnd_keeps line h he
    | frameComplete pins => exact k.frameComplete_keeps pins h he
    | force source target f code clear => exact k.force_keeps source target f code clear h he
    | restartWaitExpiry pins => exact k.restartWaitExpiry_keeps pins h he
    | writeComplete pins => exact k.writeComplete_keeps pins h he
    | writeTimeout pins => exact k.writeTimeout_keeps pins h he
    | _ => exact absurd hc Bool.false_ne_true

end StartKeeps

/-! ## A step -/

/-- A step idles on an empty queue, or runs the front command on the state with the queue's rest. -/
theorem step_cases {s t : State} (h : step s = .next t) :
    (s.pending = [] ∧ t = s) ∨ ∃ c rest, s.pending = c :: rest ∧ exec c { s with pending := rest } = .next t := by
  unfold step at h
  split at h
  · next hnil => exact .inl ⟨hnil, (next_inj h).symm⟩
  · next c rest hcons => exact .inr ⟨c, rest, hcons, h⟩

end Sys2Proof.Machine
end
section
/-! PROOF. The law of the store (R145, R146, R152). -/

namespace Sys2Proof.Machine

/-- The law of the store on the fields it speaks of. -/
def StoreSound (state : StoreState) (job : Option WriteJob) (hold : Bool) (cursor : Nat) (settings : Stored SettingsBytes)
    (slots : Vector (Stored SlotBytes) Config.cellCount) (sup : SupState) : Prop :=
  (job.isSome = decide (state = .writing)) ∧ (state ≠ .idle → sup = .running) ∧ (hold = true → state = .writing) ∧
    cursor < Config.cellCount ∧ (∀ b, job = some (.settings b) → settings = .cut) ∧
    (∀ i b, job = some (.cell i b) → i < Config.cellCount ∧ slots.toList[i]? = some .cut)

/-- The law of the store as a predicate on the fields it speaks of. -/
@[simp] def StoreKept (s : State) : Prop :=
  StoreSound s.store.state s.store.inFlight s.store.restartHold s.store.cursor s.store.settings s.store.slots s.sup.state

theorem storeKept_iff (s : State) : StoreLaw s ↔ StoreKept s := Iff.rfl

/-- An idle store with no write in flight is sound in every supervisor state. -/
theorem StoreSound.of_idle {cursor : Nat} (hcursor : cursor < Config.cellCount) (settings : Stored SettingsBytes)
    (slots : Vector (Stored SlotBytes) Config.cellCount) (sup : SupState) :
    StoreSound .idle none false cursor settings slots sup :=
  ⟨rfl, fun h => absurd rfl h, nofun, hcursor, nofun, nofun⟩

/-- A store outside RUNNING is idle, and so is sound in every other supervisor state too. -/
theorem StoreSound.move {state : StoreState} {job : Option WriteJob} {hold : Bool} {cursor : Nat} {settings : Stored SettingsBytes}
    {slots : Vector (Stored SlotBytes) Config.cellCount} {sup : SupState}
    (h : StoreSound state job hold cursor settings slots sup) (hsup : sup ≠ .running) (sup' : SupState) :
    StoreSound state job hold cursor settings slots sup' := by
  obtain ⟨hjob, hrun, hhold, hrest⟩ := h
  have hidle : state = .idle := by
    by_contra hne
    exact hsup (hrun hne)
  exact ⟨hjob, fun hne => absurd hidle hne, hhold, hrest⟩

theorem getElem?_tset_self {α : Type} {n : Nat} (v : Vector α n) (i : Nat) (a : α) (h : i < n) :
    (tset v i a).toList[i]? = some a := by
  simp [tset, Vector.toList, h]

/-- A write begins from IDLE, and its record is given up (R146). -/
theorem beginWrite_store {s : State} (h : StoreKept s) : StoreKept (beginWrite s) := by
  obtain ⟨hjob, hrun, hhold, hcursor, -, -⟩ := id h
  have hfree : writeMayBegin s = true → s.sup.state = .running ∧ s.store.restartHold = false := by
    simp only [writeMayBegin, isRunning, Bool.and_eq_true, decide_eq_true_eq, Bool.not_eq_true']
    tauto
  obtain hnone | ⟨hmay, -, hbegin⟩ | ⟨c, hmay, -, hc, -, hbegin⟩ := beginWrite_cases s
  · rwa [hnone]
  · obtain ⟨hrunning, hheld⟩ := hfree hmay
    rw [hbegin]
    refine ⟨rfl, fun _ => hrunning, fun _ => rfl, hcursor, fun _ _ => rfl, fun i b hb => ?_⟩
    cases hb
  · obtain ⟨hrunning, hheld⟩ := hfree hmay
    rw [hbegin]
    refine ⟨rfl, fun _ => hrunning, fun _ => rfl, hcursor, fun b hb => ?_, fun i b hb => ?_⟩
    · cases hb
    · cases hb
      exact ⟨hc, getElem?_tset_self _ _ _ hc⟩

/-- The store that a write leaves behind is idle or faulted, without a write in flight. -/
theorem StoreSound.of_ended {state : StoreState} {cursor : Nat} {sup : SupState} (hstate : state ≠ .writing) (hsup : sup = .running)
    (hcursor : cursor < Config.cellCount) (settings : Stored SettingsBytes) (slots : Vector (Stored SlotBytes) Config.cellCount) :
    StoreSound state none false cursor settings slots sup :=
  ⟨(decide_eq_false hstate).symm, fun _ => hsup, nofun, hcursor, nofun, nofun⟩

theorem completeWrite_store {s : State} (job : WriteJob) (hwriting : s.store.state = .writing) (hhold : s.store.restartHold = false)
    (h : StoreKept s) : StoreKept (completeWrite job s) := by
  obtain ⟨-, hrun, -, hcursor, -, -⟩ := h
  have hrunning : s.sup.state = .running := hrun (by rw [hwriting]; exact nofun)
  unfold StoreKept
  rw [show (completeWrite job s).store.restartHold = false by simpa using hhold]
  refine StoreSound.of_ended (state := .idle) nofun (by simpa using hrunning) ?_ _ _
  cases job with
  | settings b => exact hcursor
  | cell i b => exact cursorPast_lt _ i (by decide)

theorem timeoutWrite_store {s : State} (job : WriteJob) (hwriting : s.store.state = .writing) (hhold : s.store.restartHold = false)
    (h : StoreKept s) : StoreKept (timeoutWrite job s) := by
  obtain ⟨-, hrun, -, hcursor, -, -⟩ := h
  have hrunning : s.sup.state = .running := hrun (by rw [hwriting]; exact nofun)
  unfold StoreKept
  rw [show (timeoutWrite job s).store.restartHold = false by simpa using hhold]
  exact StoreSound.of_ended (state := .faulted) nofun (by simpa using hrunning) (by simpa using hcursor) _ _

/-- A reset leaves the store idle (R154). -/
theorem resetTile_store (cause : ResetCause) (s : State) : StoreKept (resetTile cause s) :=
  StoreSound.of_idle (cursor := 0) (by decide) _ _ _

theorem beginStart_resetTile_store (pins : Pins) (cause : ResetCause) (s : State) :
    StoreKept (beginStart pins (resetTile cause s)) :=
  StoreSound.of_idle (cursor := 0) (by decide) _ _ _

/-- The parts that touch the store or leave a supervisor state. -/
theorem storeKept_parts : StartKeeps StoreKept where
  write := fun _ => beginWrite_store
  hold := by
    rintro s hwriting ⟨hjob, hrun, -, hrest⟩
    exact ⟨hjob, hrun, fun _ => hwriting, hrest⟩
  wrote := fun job s hwriting _ hhold h => completeWrite_store job hwriting hhold h
  unwritten := fun job s hwriting _ hhold h => timeoutWrite_store job hwriting hhold h
  readyWait := fun _ s hstate h => StoreSound.move h (by rw [hstate]; exact nofun) .readyWait
  run := fun _ s hstate h => StoreSound.move h (by rw [hstate]; exact nofun) .running
  reset := fun cause s _ => resetTile_store cause s
  loaded := fun s hstate h => by
    simpa [completeLoad] using StoreSound.move h (by rw [hstate]; exact nofun) .chainCheck
  restart := fun pins s _ => beginStart_resetTile_store pins .restart s
  restartWrote := fun pins job s _ _ => beginStart_resetTile_store pins .restart _
  restartUnwritten := fun pins job s _ _ => beginStart_resetTile_store pins .restart _

/-- The begin of a start leaves RESET, where the store is idle. -/
theorem startBegin_store {s t : State} (pins : Pins) (h : StoreKept s) (he : exec (.startBegin pins) s = .next t) : StoreKept t := by
  obtain ⟨-, hsame⟩ | ⟨-, -, hheld⟩ | ⟨hreset, -, hbegin⟩ := execStartBegin_cases s pins
  · exact next_inj (hsame.symm.trans he) ▸ h
  · rw [← next_inj (hheld.symm.trans he)]
    simpa using h
  · rw [← next_inj (hbegin.symm.trans he)]
    simpa using StoreSound.move h (by rw [hreset]; exact nofun) .loading

theorem exec_store {c : Instr} {s t : State} (h : StoreKept s) (he : exec c s = .next t) : StoreKept t := by
  by_cases hstart : ∃ pins, c = .startBegin pins
  · obtain ⟨pins, rfl⟩ := hstart
    exact startBegin_store pins h he
  · exact storeKept_parts.exec_keeps c (fun pins hc => hstart ⟨pins, hc⟩) h he

end Sys2Proof.Machine

/-! ## The statement -/

section
open Sys2Proof Sys2Proof.Machine

/-- Settles O60: every part of a command keeps the law on the fields it speaks of, and START_BEGIN leaves a state in which the store is
idle. -/
theorem storeLawIsKept : Obligations.StoreLawIsKept := by
  unfold Obligations.StoreLawIsKept
  intro s t h hstep
  obtain ⟨-, rfl⟩ | ⟨c, rest, -, hexec⟩ := step_cases hstep
  · exact h
  · exact exec_store (s := { s with pending := rest }) h hexec

end
end
section
/-! PROOF. The dies of a cell, what the notices of an event make of the cells (R56 to R61), and what the load makes of cells and dies
(R75, R53, R143). -/

namespace Sys2Proof.Machine

/-! ## The dies of a cell (R1, R3) -/

@[simp] theorem cellOfDie_primaryDie (c : Nat) : cellOfDie (primaryDie c) = c := by
  simp only [cellOfDie, primaryDie]; omega

@[simp] theorem cellOfDie_spareDie (c : Nat) : cellOfDie (spareDie c) = c := by
  simp only [cellOfDie, spareDie]; omega

theorem primaryDie_lt {c : Nat} (h : c < Config.cellCount) : primaryDie c < Config.dieCount := by
  simp only [primaryDie, Config.cellCount, Config.dieCount] at *; omega

theorem spareDie_lt {c : Nat} (h : c < Config.cellCount) : spareDie c < Config.dieCount := by
  simp only [spareDie, Config.cellCount, Config.dieCount] at *; omega

theorem cellOfDie_lt {d : Nat} (h : d < Config.dieCount) : cellOfDie d < Config.cellCount := by
  simp only [cellOfDie, Config.cellCount, Config.dieCount] at *; omega

theorem isSpareDie_iff (d : Nat) : isSpareDie d = true ↔ d % 2 = 1 := by simp [isSpareDie]

@[simp] theorem isSpareDie_primaryDie (c : Nat) : isSpareDie (primaryDie c) = false := by simp [isSpareDie, primaryDie]

@[simp] theorem isSpareDie_spareDie (c : Nat) : isSpareDie (spareDie c) = true := by
  rw [isSpareDie_iff]; simp only [spareDie]; omega

/-- A die is its cell's primary or its cell's spare. -/
theorem die_cases (d : Nat) : d = primaryDie (cellOfDie d) ∨ d = spareDie (cellOfDie d) := by
  simp only [primaryDie, spareDie, cellOfDie]; omega

theorem primaryDie_ne_spareDie (c e : Nat) : primaryDie c ≠ spareDie e := by
  simp only [primaryDie, spareDie]; omega

/-- A cell drives one of its own dies (R54). -/
theorem drivenDie_some {c d : Nat} {st : CellState} (h : drivenDie c st = some d) : d = primaryDie c ∨ d = spareDie c := by
  cases st <;> simp_all [drivenDie]

theorem cellOfDie_drivenDie {c d : Nat} {st : CellState} (h : drivenDie c st = some d) : cellOfDie d = c := by
  obtain rfl | rfl := drivenDie_some h <;> simp

theorem drivenDie_lt {c d : Nat} {st : CellState} (hc : c < Config.cellCount) (h : drivenDie c st = some d) : d < Config.dieCount := by
  obtain rfl | rfl := drivenDie_some h
  · exact primaryDie_lt hc
  · exact spareDie_lt hc

theorem dieFailed_congr {s t : State} (d : Nat) (h : t.health.dies = s.health.dies) : dieFailed t d = dieFailed s d := by
  simp [dieFailed, dieAt_congr s t d h]

/-! ## Notices (R56 to R61) -/

/-- The automatic transitions, taken twice on the same dies, are those taken once (R56). -/
theorem transition_idem (st : CellState) (p q : Bool) : transition (transition st p q) p q = transition st p q := by
  cases st <;> cases p <;> cases q <;> rfl

theorem transitioned_congr {s t : State} (c : Nat) (hcell : cellAt t c = cellAt s c) (hdies : t.health.dies = s.health.dies) :
    transitioned t c = transitioned s c := by
  simp only [transitioned, hcell, dieFailed_congr _ hdies]

theorem transitioned_forced (s : State) (c : Nat) : (transitioned s c).forced = (cellAt s c).forced := by
  unfold transitioned
  cases h : (cellAt s c).forced <;> simp [h]

/-- A cell that stands as the transitions left it is left by them. -/
theorem transitioned_idem {s t : State} (c : Nat) (hcell : cellAt t c = transitioned s c) (hdies : t.health.dies = s.health.dies) :
    transitioned t c = transitioned s c := by
  have hforced := transitioned_forced s c
  unfold transitioned at *
  simp only [hcell, dieFailed_congr _ hdies]
  cases h : (cellAt s c).forced <;> simp [h, transition_idem]

theorem cellAt_takeNotice (d : Nat) (s : State) (c : Nat) :
    cellAt (takeNotice d s) c = if cellOfDie d = c ∧ c < Config.cellCount then transitioned s c else cellAt s c := by
  rw [cellAt, takeNotice_cells, tget_tset]
  by_cases h : cellOfDie d = c
  · subst h; rfl
  · simp [h, cellAt]

/-- The notices of an event give each cell they name the automatic transitions, whatever their order and number (R61). -/
theorem cellAt_foldNotices (ds : List Nat) (s : State) (c : Nat) :
    cellAt (ds.foldl (fun u d => takeNotice d u) s) c =
      if (∃ d ∈ ds, cellOfDie d = c) ∧ c < Config.cellCount then transitioned s c else cellAt s c := by
  induction ds generalizing s with
  | nil => simp
  | cons d ds ih =>
    rw [List.foldl_cons, ih]
    have hdies : (takeNotice d s).health.dies = s.health.dies := by simp
    by_cases hc : c < Config.cellCount
    · by_cases hd : cellOfDie d = c
      · have hcell : cellAt (takeNotice d s) c = transitioned s c := by simp [cellAt_takeNotice, hd, hc]
        simp [hc, hd, hcell, transitioned_idem c hcell hdies]
      · have hcell : cellAt (takeNotice d s) c = cellAt s c := by simp [cellAt_takeNotice, hd]
        simp [hd, hcell, transitioned_congr c hcell hdies]
    · simp [hc, cellAt_takeNotice]

theorem cellAt_triggerIf (b : Bool) (s : State) (c : Nat) : cellAt (triggerIf b s) c = cellAt s c :=
  cellAt_congr _ _ _ (by simp)

theorem cellAt_takeNotices (ds : List Nat) (s : State) (c : Nat) :
    cellAt (takeNotices ds s) c =
      if (∃ d ∈ ds, cellOfDie d = c) ∧ c < Config.cellCount then transitioned s c else cellAt s c := by
  rw [takeNotices, cellAt_triggerIf, cellAt_foldNotices]

/-- The dies that an event moved to FAILED (R39). -/
theorem mem_newFailures (before after : Vector DieRec Config.dieCount) (d : Nat) :
    d ∈ newFailures before after ↔
      d < Config.dieCount ∧ (tget before d DieRec.fresh).health.failed = false ∧ (tget after d DieRec.fresh).health.failed = true := by
  rw [newFailures, mem_tindexes id _ d false]
  refine and_congr_right fun hd => ?_
  rw [tget_tzip becameFailed before after d DieRec.fresh DieRec.fresh false hd]
  simp [becameFailed]

/-! ## The load (R143) -/

/-- What the load makes of a cell (R143). -/
def loadAt (st : Store) (c : Nat) : Loaded :=
  loadCell (factoryPasses st) c (tget st.factory c FactoryBytes.plain) (tget st.slots c .cut)

theorem tget_loadCells (st : Store) {c : Nat} (hc : c < Config.cellCount) (d : Loaded) : tget (loadCells st) c d = loadAt st c := by
  unfold loadCells loadAt
  dsimp only
  rw [tget_tmapIdx _ _ c (FactoryBytes.plain, Stored.cut) d hc,
    tget_tzip Prod.mk st.factory st.slots c FactoryBytes.plain .cut _ hc]

/-- Entries laid out in pairs are read back in pairs. -/
theorem getD_flatMap_pair {α β : Type} (f g : α → β) (l : List α) (i : Nat) (d : β) (hi : i < l.length) :
    (l.flatMap (fun a => [f a, g a])).getD (i * 2) d = f l[i] ∧ (l.flatMap (fun a => [f a, g a])).getD (i * 2 + 1) d = g l[i] := by
  induction l generalizing i with
  | nil => exact absurd hi (Nat.not_lt_zero i)
  | cons a l ih =>
    cases i with
    | zero => exact ⟨rfl, rfl⟩
    | succ i =>
      have := ih i (Nat.lt_of_succ_lt_succ hi)
      simpa [Nat.succ_mul] using this

theorem dieAt_completeLoad (s : State) {c : Nat} (hc : c < Config.cellCount) :
    dieAt (completeLoad s) (primaryDie c) = loadedDie (loadAt s.store c).primary ∧
      dieAt (completeLoad s) (spareDie c) = loadedDie (loadAt s.store c).spare := by
  have hlen : c < (loadCells s.store).toList.length := by simpa using hc
  have hget : (loadCells s.store).toList[c] = loadAt s.store c := by
    rw [← tget_loadCells s.store hc (loadAt s.store c), tget_eq_getElem _ _ _ hc, Vector.getElem_toList]
  obtain ⟨hp, hs⟩ := getD_flatMap_pair (fun l => loadedDie l.primary) (fun l => loadedDie l.spare) (loadCells s.store).toList c
    DieRec.fresh hlen
  rw [hget] at hp hs
  have hdies : (completeLoad s).health.dies = tofList _ ((loadCells s.store).toList.flatMap loadedDies) DieRec.fresh := by
    simp [completeLoad]
  rw [dieAt, dieAt, hdies]
  exact ⟨(tget_tofList _ _ _ _ (primaryDie_lt hc)).trans hp, (tget_tofList _ _ _ _ (spareDie_lt hc)).trans hs⟩

theorem cellAt_completeLoad (s : State) {c : Nat} (hc : c < Config.cellCount) :
    cellAt (completeLoad s) c = loadedRecord (loadAt s.store c) := by
  simp [cellAt, completeLoad, tget_tmap _ _ _ (loadAt s.store c) _ hc, tget_loadCells _ hc]

theorem storedHealthOfCode_ne_suspect {n : Nat} {h : Health} (hcode : storedHealthOfCode n = some h) : h ≠ .suspect := by
  unfold storedHealthOfCode at hcode
  split at hcode <;> cases hcode <;> exact nofun

theorem factoryRecord_ne_suspect (passes : Bool) (b : FactoryBytes) :
    (factoryRecord passes b).primary ≠ .suspect ∧ (factoryRecord passes b).spare ≠ .suspect := by
  have hdefault : FactoryRecord.default.primary ≠ .suspect ∧ FactoryRecord.default.spare ≠ .suspect := ⟨nofun, nofun⟩
  unfold factoryRecord
  split
  · cases hf : factoryFields b with
    | none => exact hdefault
    | some f =>
      unfold factoryFields at hf
      split at hf
      · next p q hp hq =>
        dsimp only at hf
        split at hf
        · cases hf
          exact ⟨storedHealthOfCode_ne_suspect hp, storedHealthOfCode_ne_suspect hq⟩
        · cases hf
      · cases hf
  · exact hdefault

theorem slotCondition_ne_suspect {i : Nat} {slot : Stored SlotBytes} {r : SlotRecord} (h : slotCondition i slot = .written r) :
    r.primary ≠ .suspect ∧ r.spare ≠ .suspect := by
  cases slot with
  | cut => cases h
  | bytes b =>
    unfold slotCondition at h
    dsimp only at h
    split at h
    · cases h
    · split at h
      · cases h
      · split at h
        · cases h
        · next r' hfields =>
          cases h
          unfold slotFields at hfields
          split at hfields
          · next hp hq _ =>
            cases hfields
            exact ⟨storedHealthOfCode_ne_suspect hp, storedHealthOfCode_ne_suspect hq⟩
          · cases hfields

/-- No die is loaded SUSPECT (R177). -/
theorem loadAt_ne_suspect (st : Store) (c : Nat) : (loadAt st c).primary ≠ .suspect ∧ (loadAt st c).spare ≠ .suspect := by
  unfold loadAt loadCell
  dsimp only
  split
  · exact factoryRecord_ne_suspect _ _
  · exact factoryRecord_ne_suspect _ _
  · next h => exact slotCondition_ne_suspect h

end Sys2Proof.Machine
end
section
/-! PROOF. The laws of the dies, of the driven die and of the probe lists (R34, R43, R44, R56). -/

namespace Sys2Proof.Machine

/-! ## The laws on their fields -/

def DiesSound (dies : Vector DieRec Config.dieCount) : Prop := ∀ d, d < Config.dieCount → (tget dies d DieRec.fresh).sound

def DrivenSound (dies : Vector DieRec Config.dieCount) (cells : Vector CellRec Config.cellCount) : Prop :=
  ∀ c, c < Config.cellCount → (tget cells c CellRec.fresh).forced = false →
    ∀ d, drivenDie c (tget cells c CellRec.fresh).state = some d → (tget dies d DieRec.fresh).health.failed = false

def RequestsSound (requests : List ProbeReq) : Prop :=
  requests.length ≤ Config.probeListSize ∧ (requests.map (fun q => q.cell)).Nodup ∧
    ∀ q ∈ requests, q.cell < Config.cellCount ∧ (q.primaryDone && q.spareDone) = false

def PlanSound (plan : List Nat) : Prop := plan.length ≤ Config.probePlanSize ∧ plan.Nodup

/-- The three laws as one predicate on the fields they speak of. -/
@[simp] def HealthKept (s : State) : Prop :=
  DiesSound s.health.dies ∧ DrivenSound s.health.dies s.map.cells ∧ RequestsSound s.health.requests ∧ PlanSound s.health.plan ∧
    s.health.cursor < Config.dieCount

theorem healthKept_iff (s : State) : HealthKept s ↔ DieLaw s ∧ DrivenDieLaw s ∧ ProbeLaw s := by
  constructor
  · rintro ⟨hd, hdr, ⟨h1, h2, h3⟩, ⟨h4, h5⟩, h6⟩
    exact ⟨hd, hdr, h1, h2, h3, h4, h5, h6⟩
  · rintro ⟨hd, hdr, h1, h2, h3, h4, h5, h6⟩
    exact ⟨hd, hdr, ⟨h1, h2, h3⟩, ⟨h4, h5⟩, h6⟩

/-! ## Die records (R34, R36) -/

/-- An observation keeps a die record within R34's table. -/
theorem observe_sound (byProbe : Bool) (m : Measure) {r : DieRec} (h : r.sound) : (observe byProbe m r).sound := by
  obtain ⟨hage, -, hfailed, hworks⟩ := observationMovesTheStrike byProbe m r h
  refine ⟨by rw [hage]; exact Nat.zero_le _, ?_⟩
  cases hr : r.health.failed with
  | true =>
    obtain ⟨hhealth, hstrike⟩ := hfailed ((health_failed_iff _).mp hr)
    rw [hhealth, hstrike]
    exact h.2
  | false =>
    obtain ⟨-, hgood, hsuspect, hopen, hshort, hok, hmax⟩ := hworks ((health_not_failed_iff _).mp hr)
    obtain h0 | ⟨h1, h7⟩ | h8 :
        (observe byProbe m r).strike = 0 ∨
          (1 ≤ (observe byProbe m r).strike ∧ (observe byProbe m r).strike ≤ 7) ∨ 8 ≤ (observe byProbe m r).strike := by
      omega
    · rw [hgood h0]
      exact h0
    · rw [hsuspect h1 h7]
      exact ⟨h1, Nat.lt_succ_of_le h7⟩
    · cases m with
      | ok => exact absurd (hok rfl) (by omega)
      | openPath => rw [hopen h8 rfl]; exact hmax
      | shortPath => rw [hshort h8 rfl]; exact hmax

theorem ageDie_sound {r : DieRec} (h : r.sound) : (ageDie r).sound := ⟨Nat.min_le_left _ _, h.2⟩

theorem clearedDie_sound {r : DieRec} (h : r.sound) : DieRec.sound { r with health := .good, strike := 0 } := ⟨h.1, rfl⟩

theorem loadedDie_sound {h : Health} (hne : h ≠ .suspect) : (loadedDie h).sound := by
  refine ⟨Nat.zero_le _, ?_⟩
  cases h with
  | good => rfl
  | suspect => exact absurd rfl hne
  | failedOpen => exact Nat.zero_le _
  | failedShort => exact Nat.zero_le _

theorem DiesSound.tset {dies : Vector DieRec Config.dieCount} (h : DiesSound dies) (d : Nat) {r : DieRec} (hr : r.sound) :
    DiesSound (tset dies d r) := by
  intro e he
  rw [tget_tset]
  split
  · exact hr
  · exact h e he

theorem DiesSound.aged {dies : Vector DieRec Config.dieCount} (h : DiesSound dies) : DiesSound (tmap ageDie dies) := by
  intro d hd
  rw [tget_tmap _ _ _ DieRec.fresh _ hd]
  exact ageDie_sound (h d hd)

/-! ## The driven die (R56) -/

/-- Fewer FAILED dies leave the law standing. -/
theorem DrivenSound.of_dies {dies dies' : Vector DieRec Config.dieCount} {cells : Vector CellRec Config.cellCount}
    (h : DrivenSound dies cells)
    (hless : ∀ d, (tget dies d DieRec.fresh).health.failed = false → (tget dies' d DieRec.fresh).health.failed = false) :
    DrivenSound dies' cells :=
  fun c hc hforced d hd => hless d (h c hc hforced d hd)

theorem DrivenSound.aged {dies : Vector DieRec Config.dieCount} {cells : Vector CellRec Config.cellCount} (h : DrivenSound dies cells) :
    DrivenSound (tmap ageDie dies) cells := by
  refine h.of_dies fun d hd => ?_
  rw [show DieRec.fresh = DieRec.fresh from rfl] at *
  by_cases hlt : d < Config.dieCount
  · rw [tget_tmap _ _ _ DieRec.fresh _ hlt]; exact hd
  · rw [tget_outside _ _ _ (Nat.not_lt.mp hlt)]; rfl

/-- A record that is forced, or drives no FAILED die, may be written to its cell. -/
theorem DrivenSound.tset {dies : Vector DieRec Config.dieCount} {cells : Vector CellRec Config.cellCount} (h : DrivenSound dies cells)
    (c : Nat) {r : CellRec}
    (hr : r.forced = false → ∀ d, drivenDie c r.state = some d → (tget dies d DieRec.fresh).health.failed = false) :
    DrivenSound dies (tset cells c r) := by
  intro e he hforced d hd
  rw [tget_tset] at hforced hd
  split at hd
  · next heq =>
    obtain ⟨rfl, -⟩ := heq
    exact hr (by simpa [he] using hforced) d hd
  · next hne => exact h e he (by simpa [hne] using hforced) d hd

/-- The automatic transitions leave no cell on a FAILED die (R56). -/
theorem transitions_drive_working (s : State) (c d : Nat) (st : CellState)
    (h : drivenDie c (transition st (dieFailed s (primaryDie c)) (dieFailed s (spareDie c))) = some d) : dieFailed s d = false := by
  obtain ⟨hprimary, hspare⟩ := transition_drives _ _ _ _ _ h
  obtain rfl | rfl := drivenDie_some h
  · exact hprimary rfl
  · exact hspare rfl

/-- The notices of all the dies that an event has moved to FAILED restore the law (R58, R59). -/
theorem takeNotices_driven {dies : Vector DieRec Config.dieCount} {u : State} {ds : List Nat} (h : DrivenSound dies u.map.cells)
    (hnew : ∀ d, d < Config.dieCount → (tget dies d DieRec.fresh).health.failed = false → d ∉ ds → dieFailed u d = false) :
    DrivenSound (takeNotices ds u).health.dies (takeNotices ds u).map.cells := by
  intro c hc hforced d hd
  rw [show tget (takeNotices ds u).map.cells c CellRec.fresh = cellAt (takeNotices ds u) c from rfl, cellAt_takeNotices] at hforced hd
  suffices hgoal : dieFailed u d = false by simpa [dieFailed, dieAt] using hgoal
  split at hd
  · next hnamed =>
    rw [if_pos hnamed, transitioned_forced] at hforced
    simp only [transitioned, hforced] at hd
    exact transitions_drive_working u c d _ hd
  · next hnot =>
    rw [if_neg hnot] at hforced
    refine hnew d (drivenDie_lt hc hd) (h c hc hforced d hd) fun hmem => hnot ⟨⟨d, hmem, cellOfDie_drivenDie hd⟩, hc⟩

/-! ## Probe lists (R43, R44, R46) -/

theorem PlanSound.nil : PlanSound [] := ⟨Nat.zero_le _, List.nodup_nil⟩

theorem PlanSound.filter {plan : List Nat} (h : PlanSound plan) (p : Nat → Bool) : PlanSound (plan.filter p) :=
  ⟨(List.length_filter_le p plan).trans h.1, h.2.filter p⟩

theorem PlanSound.append {plan : List Nat} (h : PlanSound plan) {d : Nat} (hroom : plan.length < Config.probePlanSize) (hnew : d ∉ plan) :
    PlanSound (plan ++ [d]) :=
  ⟨by simpa using hroom, List.nodup_append.mpr ⟨h.2, List.nodup_singleton d, by simpa using fun a ha (hd : a = d) => hnew (hd ▸ ha)⟩⟩

theorem PlanSound.add {plan : List Nat} (h : PlanSound plan) (d : Nat) : PlanSound (addToPlan plan d) := by
  unfold addToPlan
  split
  · next hadd => exact h.append hadd.1 hadd.2
  · exact h

theorem planFromRequests_sound (requests : List ProbeReq) : PlanSound (planFromRequests requests) := by
  unfold planFromRequests
  generalize requests.flatMap wantedDies = ds
  suffices hfold : ∀ plan, PlanSound plan → PlanSound (ds.foldl addToPlan plan) from hfold [] .nil
  induction ds with
  | nil => exact fun _ h => h
  | cons d ds ih => exact fun plan h => ih _ (h.add d)

/-- The sweep adds one die that is not in the plan, and its cursor stays a die index (R45). -/
theorem sweepOne_sound (s : State) {q : List Nat × Nat} (hplan : PlanSound q.1) (hcursor : q.2 < Config.dieCount) :
    PlanSound (sweepOne s q).1 ∧ (sweepOne s q).2 < Config.dieCount := by
  unfold sweepOne
  split
  · next hroom =>
    split
    · exact ⟨hplan, hcursor⟩
    · next d hd =>
      obtain ⟨-, htakes⟩ := findFrom_some _ _ _ _ hd
      have hnew : d ∉ q.1 := by
        simp only [sweepTakes, Bool.and_eq_true, Bool.not_eq_true', List.contains_eq_mem, decide_eq_false_iff_not] at htakes
        exact htakes.1.2
      exact ⟨hplan.append hroom hnew, cursorPast_lt _ _ (by decide)⟩
  · exact ⟨hplan, hcursor⟩

theorem choosePlan_sound (s : State) (hcursor : s.health.cursor < Config.dieCount) :
    PlanSound (choosePlan s).1 ∧ (choosePlan s).2 < Config.dieCount := by
  obtain ⟨hp1, hc1⟩ := sweepOne_sound s (q := (planFromRequests s.health.requests, s.health.cursor))
    (planFromRequests_sound _) hcursor
  obtain ⟨hp2, hc2⟩ := sweepOne_sound s hp1 hc1
  obtain ⟨hp3, hc3⟩ := sweepOne_sound s hp2 hc2
  exact sweepOne_sound s hp3 hc3

/-- An entry with the mark of one of its dies set. -/
def withMark (d : Nat) (q : ProbeReq) : ProbeReq :=
  if q.cell = cellOfDie d then (if isSpareDie d then { q with spareDone := true } else { q with primaryDone := true }) else q

@[simp] theorem withMark_cell (d : Nat) (q : ProbeReq) : (withMark d q).cell = q.cell := by
  unfold withMark
  split
  · split <;> rfl
  · rfl

/-- Both marks of the entry of a probed die are set (R46). -/
def markedBoth (d : Nat) (q : ProbeReq) : Bool := decide (q.cell = cellOfDie d) && q.primaryDone && q.spareDone

theorem markProbed_eq (d : Nat) (requests : List ProbeReq) :
    markProbed d requests = (requests.map (withMark d)).filter (fun q => !markedBoth d q) := rfl

theorem RequestsSound.probed {requests : List ProbeReq} (h : RequestsSound requests) (d : Nat) : RequestsSound (markProbed d requests) := by
  obtain ⟨hlen, hnodup, hall⟩ := h
  rw [markProbed_eq]
  refine ⟨?_, ?_, fun q hq => ?_⟩
  · exact (List.length_filter_le _ _).trans ((List.length_map (withMark d)).le.trans hlen)
  · have hcells : (requests.map (withMark d)).map (fun q => q.cell) = requests.map (fun q => q.cell) := by simp
    exact (hcells ▸ hnodup).sublist (List.filter_sublist.map _)
  · obtain ⟨hmem, hleft⟩ := List.mem_filter.mp hq
    obtain ⟨q', hq', rfl⟩ := List.mem_map.mp hmem
    obtain ⟨hcell, hopen⟩ := hall q' hq'
    refine ⟨by simpa using hcell, ?_⟩
    by_cases hd : q'.cell = cellOfDie d
    · have hopen' : (withMark d q').primaryDone = false ∨ (withMark d q').spareDone = false := by
        simpa [markedBoth, hd] using hleft
      obtain hfree | hfree := hopen' <;> simp [hfree]
    · simpa [withMark, hd] using hopen

theorem RequestsSound.append {requests : List ProbeReq} (h : RequestsSound requests) {c : Nat} (hc : c < Config.cellCount)
    (hnew : requests.any (fun q => q.cell == c) = false) (hroom : requests.length < Config.probeListSize) :
    RequestsSound (requests ++ [⟨c, false, false⟩]) := by
  obtain ⟨-, hnodup, hall⟩ := h
  have hfresh : ∀ q ∈ requests, q.cell ≠ c := by simpa using hnew
  refine ⟨by simpa using hroom, ?_, fun q hq => ?_⟩
  · rw [List.map_append]
    refine List.nodup_append.mpr ⟨hnodup, List.nodup_singleton c, ?_⟩
    simpa using fun q hq => hfresh q hq
  · obtain hq | hq := List.mem_append.mp hq
    · exact hall q hq
    · obtain rfl := List.mem_singleton.mp hq
      exact ⟨hc, rfl⟩

/-! ## The parts -/

theorem healthBoundary_kept (t : Taking) {s : State} (h : HealthKept s) : HealthKept (healthBoundary t s) := by
  obtain ⟨hdies, hdriven, hrequests, -, hcursor⟩ := h
  have hboundary : (healthBoundary t s).health.dies = tmap ageDie s.health.dies ∧ (healthBoundary t s).health.plan = [] := by
    cases t with
    | within =>
      simp only [healthBoundary, takeIf, takeAnomalyNotice]
      split <;> simp
    | apart => exact ⟨rfl, rfl⟩
  unfold HealthKept
  rw [hboundary.1, hboundary.2]
  simpa using ⟨hdies.aged, hdriven.aged, hrequests, PlanSound.nil, hcursor⟩

theorem takeAnomalyNotice_kept {s : State} (h : HealthKept s) : HealthKept (takeAnomalyNotice s) := by
  unfold takeAnomalyNotice
  split
  · simpa using h
  · exact h

theorem takePass_kept (p : Nat) (mP mS : Vector Measure Config.channelCount) {s : State} (h : HealthKept s) :
    HealthKept (takePass p mP mS s) := by
  obtain ⟨hdies, hdriven, hrequests, hplan, hcursor⟩ := h
  unfold takePass
  dsimp only
  refine ⟨?_, takeNotices_driven (dies := s.health.dies) hdriven ?_, by simpa using hrequests, by simpa using hplan,
    by simpa using hcursor⟩
  · intro d hd
    simp only [takeNotices_frame, setHealth_health]
    rw [tget_tmapIdx _ _ _ DieRec.fresh _ hd]
    unfold afterPass
    split
    · exact hdies d hd
    · exact observe_sound _ _ (hdies d hd)
  · intro d hd hold hnot
    rw [mem_newFailures] at hnot
    unfold dieFailed dieAt
    simpa [hd, hold] using hnot

theorem takeProbeResult_kept (d : Nat) (m : Measure) {s : State} (h : HealthKept s) : HealthKept (takeProbeResult d m s) := by
  obtain ⟨hdies, hdriven, hrequests, hplan, hcursor⟩ := id h
  unfold takeProbeResult
  split
  · dsimp only
    refine ⟨?_, takeNotices_driven (dies := s.health.dies) hdriven ?_, by simpa using hrequests.probed d,
      by simpa using hplan.filter _, by simpa using hcursor⟩
    · intro e he
      simp only [takeNotices_frame, setHealth_health]
      rw [tget_tset]
      split
      · next heq => exact observe_sound _ _ (hdies d heq.2)
      · exact hdies e he
    · intro e he hold hnot
      unfold dieFailed dieAt
      rw [setHealth_health, tget_tset]
      split
      · next heq =>
        obtain ⟨rfl, -⟩ := heq
        by_contra hfailed
        exact hnot (by simp [becameFailed, dieAt, hold, Bool.eq_true_of_not_eq_false hfailed])
      · exact hold
  · exact h

theorem chooseDies_kept {s : State} (h : HealthKept s) : HealthKept (chooseDies s) := by
  obtain ⟨hdies, hdriven, hrequests, -, hcursor⟩ := h
  obtain ⟨hplan, hcursor'⟩ := choosePlan_sound s hcursor
  unfold HealthKept
  rw [show (chooseDies s).health = { s.health with plan := (choosePlan s).1, cursor := (choosePlan s).2 } from rfl]
  exact ⟨hdies, hdriven, hrequests, hplan, hcursor'⟩

/-- A change of a cell that leaves no FAILED die driven. -/
theorem changeCell_kept (c : Nat) {r : CellRec} (cause : Cause) {s : State} (h : HealthKept s)
    (hr : r.forced = false → ∀ d, drivenDie c r.state = some d → dieFailed s d = false) : HealthKept (changeCell c r cause s) := by
  obtain ⟨hdies, hdriven, hlists⟩ := h
  unfold HealthKept
  rw [changeCell_cells]
  simpa using ⟨hdies, hdriven.tset c hr, hlists⟩

theorem carryRelease_kept (c : Nat) {s : State} (h : HealthKept s) : HealthKept (carryRelease c s) := by
  unfold carryRelease
  split
  · exact changeCell_kept c .released h fun _ d hd => transitions_drive_working s c d _ hd
  · exact h

theorem carrySetGain_kept (c : Nat) (hc : c < Config.cellCount) (g : Option Nat) {s : State} (h : HealthKept s) :
    HealthKept (carrySetGain c g s) := by
  unfold carrySetGain
  dsimp only
  split
  · exact h
  · exact changeCell_kept c .gainSet h (h.2.1 c hc)

theorem clearTarget_kept (c : Nat) (st : CellState) {s : State} (h : HealthKept s) : HealthKept (clearTarget c st s) := by
  unfold clearTarget
  split
  · exact h
  · next d _ =>
    split
    · obtain ⟨hdies, hdriven, hlists⟩ := h
      by_cases hd : d < Config.dieCount
      · have hcleared : (clearDie d s).health.dies = tset s.health.dies d { dieAt s d with health := .good, strike := 0 } := rfl
        unfold HealthKept
        rw [hcleared]
        refine ⟨hdies.tset d (clearedDie_sound (hdies d hd)), ?_, by simpa using hlists⟩
        simp only [clearDie_frame]
        refine hdriven.of_dies fun e he => ?_
        rw [tget_tset]
        split
        · rfl
        · exact he
      · have hsame : (clearDie d s).health.dies = s.health.dies := tset_outside _ _ _ (Nat.not_lt.mp hd)
        simpa [hsame] using ⟨hdies, hdriven, hlists⟩
    · exact h

theorem carryForce_kept (c : Nat) (st : CellState) {s : State} (h : HealthKept s) : HealthKept (carryForce c st s) := by
  unfold carryForce
  dsimp only
  split
  · exact clearTarget_kept c st h
  · exact changeCell_kept c .forced (clearTarget_kept c st h) nofun

theorem resetValues_kept (s : State) (hdies : s.health = HealthMon.reset) (hcells : s.map = MapCtl.reset) : HealthKept s := by
  have hdie : ∀ d, tget HealthMon.reset.dies d DieRec.fresh = DieRec.fresh := fun d => tget_replicate d _
  unfold HealthKept
  rw [hdies, hcells]
  refine ⟨fun d _ => ?_, fun c _ _ d _ => ?_, ⟨Nat.zero_le _, List.nodup_nil, nofun⟩, .nil, by decide⟩
  · rw [hdie]; exact ⟨Nat.zero_le _, rfl⟩
  · rw [hdie]; rfl

theorem completeLoad_kept {s : State} (h : HealthKept s) : HealthKept (completeLoad s) := by
  obtain ⟨-, -, hrequests, hplan, hcursor⟩ := h
  have hrest : (completeLoad s).health.requests = s.health.requests ∧ (completeLoad s).health.plan = s.health.plan ∧
      (completeLoad s).health.cursor = s.health.cursor := by
    simp [completeLoad]
  unfold HealthKept
  rw [hrest.1, hrest.2.1, hrest.2.2]
  refine ⟨fun d hd => ?_, fun c hc hforced d hd => ?_, hrequests, hplan, hcursor⟩
  · obtain ⟨hprimary, hspare⟩ := dieAt_completeLoad s (cellOfDie_lt hd)
    obtain ⟨hp, hs⟩ := loadAt_ne_suspect s.store (cellOfDie d)
    obtain hdie | hdie := die_cases d
    · rw [hdie, show tget _ _ _ = dieAt (completeLoad s) (primaryDie (cellOfDie d)) from rfl, hprimary]; exact loadedDie_sound hp
    · rw [hdie, show tget _ _ _ = dieAt (completeLoad s) (spareDie (cellOfDie d)) from rfl, hspare]; exact loadedDie_sound hs
  · obtain ⟨hprimary, hspare⟩ := dieAt_completeLoad s hc
    rw [show tget _ _ _ = cellAt (completeLoad s) c from rfl, cellAt_completeLoad s hc] at hforced hd
    unfold loadedRecord at hforced hd
    split at hd
    · next hf => rw [if_pos hf, hf] at hforced; cases hforced
    · obtain ⟨hfreeP, hfreeS⟩ := transition_drives _ _ _ _ _ hd
      obtain rfl | rfl := drivenDie_some hd
      · rw [show tget _ _ _ = dieAt (completeLoad s) (primaryDie c) from rfl, hprimary]; exact hfreeP rfl
      · rw [show tget _ _ _ = dieAt (completeLoad s) (spareDie c) from rfl, hspare]; exact hfreeS rfl

theorem healthKept_boundary : BoundaryKeeps HealthKept where
  health := fun t _ => healthBoundary_kept t

/-- The parts that touch the Health Monitor or the Map Controller. -/
theorem healthKept_parts : StartKeeps HealthKept where
  toBoundaryKeeps := healthKept_boundary
  expire := fun t s _ h => by
    simpa using healthKept_boundary.boundary_keeps (s := expireInterval s) t (by simpa using h)
  anomaly := fun _ => takeAnomalyNotice_kept
  unmade := by
    rintro ds s ⟨hdies, hdriven, hrequests, hplan, hcursor⟩
    exact ⟨hdies, hdriven, hrequests, hplan.filter _, hcursor⟩
  pass := fun p mP mS _ => takePass_kept p mP mS
  choose := fun _ => chooseDies_kept
  probed := fun d m _ => takeProbeResult_kept d m
  release := fun c _ _ => carryRelease_kept c
  gain := fun c g _ hc => carrySetGain_kept c hc g
  list := by
    rintro c s hc hnew hroom ⟨hdies, hdriven, hrequests, hplan, hcursor⟩
    exact ⟨hdies, hdriven, hrequests.append hc hnew hroom, hplan, hcursor⟩
  reset := fun cause s _ => resetValues_kept _ (by simp) (by simp)
  loaded := fun _ _ => completeLoad_kept
  restart := fun _ _ _ => resetValues_kept _ (by simp) (by simp)
  restartWrote := fun _ _ _ _ _ => resetValues_kept _ (by simp) (by simp)
  restartUnwritten := fun _ _ _ _ _ => resetValues_kept _ (by simp) (by simp)
  force := fun c st _ _ => carryForce_kept c st

theorem exec_health {c : Instr} {s t : State} (h : HealthKept s) (he : exec c s = .next t) : HealthKept t := by
  by_cases hstart : ∃ pins, c = .startBegin pins
  · obtain ⟨pins, rfl⟩ := hstart
    obtain ⟨-, hsame⟩ | ⟨-, -, hheld⟩ | ⟨-, -, hbegin⟩ := execStartBegin_cases s pins
    · exact next_inj (hsame.symm.trans he) ▸ h
    · rw [← next_inj (hheld.symm.trans he)]; simpa using h
    · rw [← next_inj (hbegin.symm.trans he)]; simpa using h
  · exact healthKept_parts.exec_keeps c (fun pins hc => hstart ⟨pins, hc⟩) h he

end Sys2Proof.Machine

/-! ## The statement -/

section
open Sys2Proof Sys2Proof.Machine

/-- Settles O56: an observation keeps R34's table, the notices of every die that became FAILED bring each named cell through the automatic
transitions, which leave no FAILED die driven, and the plan is chosen without repetition. -/
theorem healthLawsAreKept : Obligations.HealthLawsAreKept := by
  unfold Obligations.HealthLawsAreKept
  intro s t hdie hdriven hprobe hstep
  have h : HealthKept s := (healthKept_iff s).mpr ⟨hdie, hdriven, hprobe⟩
  refine (healthKept_iff t).mp ?_
  obtain ⟨-, rfl⟩ | ⟨c, rest, -, hexec⟩ := step_cases hstep
  · exact h
  · exact exec_health (s := { s with pending := rest }) h hexec

end
end
section
/-! PROOF. The laws of the blank flag, of the drive values and of the concealment tables (R11, R12, R21, R25, R35, R84 to R87, R92, R95,
R99), each as a predicate on its own fields. -/

namespace Sys2Proof.Machine

/-! ## The blank flag (R11, R12) -/

def BlankSound (runCount : Nat) (blank : Bool) (marker : MarkerStatus) : Prop :=
  runCount ≤ Config.goodRunLimit ∧ (blank = false → runCount = 0) ∧ (marker = .failed → blank = true ∧ runCount = 0)

@[simp] def BlankKept (s : State) : Prop := BlankSound s.scan.runCount s.scan.blank s.scan.marker

theorem markerFailed_blank (s : State) : BlankKept (markerFailed s) := by
  have hscan : (markerFailed s).scan = { s.scan with blank := true, runCount := 0, marker := .failed, seenBlank := true } := by
    unfold markerFailed
    dsimp only
    split <;> simp
  unfold BlankKept
  rw [hscan]
  exact ⟨Nat.zero_le _, nofun, fun _ => ⟨rfl, rfl⟩⟩

theorem markerGood_blank {s : State} (h : BlankKept s) : BlankKept (markerGood s) := by
  unfold markerGood
  split
  · exact h
  · exact ⟨h.1, h.2.1, nofun⟩

/-- A flag that clears leaves the run count at 0; a failed marker is not there then, for it holds the count at 0. -/
theorem takeBlankClear_blank {s : State} (h : BlankKept s) : BlankKept (takeBlankClear s) := by
  unfold takeBlankClear
  split
  · next hdue =>
    obtain ⟨-, -, hmarker⟩ := h
    have hcount : Config.goodRunLimit ≤ s.scan.runCount := by
      simp only [blankClearDue, Bool.and_eq_true, decide_eq_true_eq] at hdue
      exact hdue.2
    simp only [BlankKept, raiseNotice_frame, setScan_scan]
    refine ⟨Nat.zero_le _, fun _ => rfl, fun hfailed => ?_⟩
    rw [(hmarker hfailed).2] at hcount
    exact absurd hcount (by decide)
  · exact h

/-- The period just ended raises the count only while the flag is set (R12). -/
theorem runCountAfter_sound {s : State} (h : BlankKept s) : BlankSound (runCountAfter s) s.scan.blank .none := by
  obtain ⟨hmax, hclear, -⟩ := h
  unfold runCountAfter
  split
  · next hcounts =>
    simp only [Bool.and_eq_true] at hcounts
    exact ⟨Nat.min_le_left _ _, fun hblank => absurd hcounts.1 (by simp [hblank]), nofun⟩
  · exact ⟨hmax, hclear, nofun⟩

theorem judgePeriod_blank (t : Taking) {s : State} (h : BlankKept s) : BlankKept (judgePeriod t s) := by
  have hjudged : BlankKept (s.setScan { s.scan with runCount := runCountAfter s, marker := .none }) := runCountAfter_sound h
  cases t with
  | within => exact takeBlankClear_blank hjudged
  | apart => exact hjudged

theorem BlankSound.reset : BlankSound 0 false .none := ⟨Nat.zero_le _, fun _ => rfl, nofun⟩

theorem blankKept_boundary : BoundaryKeeps BlankKept where
  period := fun t _ => judgePeriod_blank t
  driven := by intro t s h; simpa [driveBoundary] using h

theorem blankKept_parts : StartKeeps BlankKept where
  toBoundaryKeeps := blankKept_boundary
  expire := fun t s _ h => by
    simpa using blankKept_boundary.boundary_keeps (s := expireInterval s) t (by simpa using h)
  badMarker := fun s _ => markerFailed_blank s
  goodMarker := fun _ => markerGood_blank
  blankClear := fun _ => takeBlankClear_blank
  readyWait := by
    rintro b s - ⟨hmax, hclear, -⟩
    exact ⟨hmax, hclear, nofun⟩
  reset := fun _ _ _ => BlankSound.reset
  restart := fun _ _ _ => BlankSound.reset
  restartWrote := fun _ _ _ _ _ => BlankSound.reset
  restartUnwritten := fun _ _ _ _ _ => BlankSound.reset

/-! ## The frame store and the channel values (R21, R35, R84) -/

def ImageSound (store chanP chanS : Vector Nat Config.cellCount) : Prop :=
  (∀ c, tget store c 0 ≤ Config.maxValue) ∧
    ∀ c, tget chanP c 0 ≤ Config.maxValue ∧ tget chanS c 0 ≤ Config.maxValue ∧ (tget chanP c 0 = 0 ∨ tget chanS c 0 = 0)

@[simp] def ImageKept (s : State) : Prop := ImageSound s.rx.frameStore s.scan.chanP s.scan.chanS

/-- A bound on the entries, and on what stands outside, is a bound everywhere. -/
theorem tget_le {n : Nat} (v : Vector Nat n) (m i : Nat) (h : i < n → tget v i 0 ≤ m) : tget v i 0 ≤ m := by
  by_cases hi : i < n
  · exact h hi
  · rw [tget_outside _ _ _ (Nat.not_lt.mp hi)]
    exact Nat.zero_le _

/-- R21 clamps what a record brings. -/
theorem storedFrame_le (f : PixelFrame) (c : Nat) : tget (storedFrame f) c 0 ≤ Config.maxValue := by
  refine tget_le _ _ _ fun hc => ?_
  cases f with
  | blank => rw [storedFrame, tget_replicate]; exact Nat.zero_le _
  | video values =>
    rw [storedFrame, tget_tofList _ _ _ _ hc, List.getD_eq_getElem?_getD, List.getElem?_map]
    cases values[c]? with
    | none => exact Nat.zero_le _
    | some v => exact Nat.min_le_left _ _

theorem routeP_le {o : DriveOut} (h : o.value ≤ Config.maxValue) : routeP o ≤ Config.maxValue := by
  unfold routeP
  split
  · exact h
  · exact Nat.zero_le _

theorem routeS_le {o : DriveOut} (h : o.value ≤ Config.maxValue) : routeS o ≤ Config.maxValue := by
  unfold routeS
  split
  · exact h
  · exact Nat.zero_le _

/-- One die of a cell is driven (R35). -/
theorem route_one (o : DriveOut) : routeP o = 0 ∨ routeS o = 0 := by
  unfold routeP routeS
  cases o.state <;> simp

/-- The drive value of a cell. -/
def driveAt (s : State) (c : Nat) : DriveOut := tget (driveTable s) c ⟨0, .hole, false⟩

theorem tget_chans (s : State) {c : Nat} (hc : c < Config.cellCount) :
    tget (driveBoundary s).scan.chanP c 0 = routeP (driveAt s c) ∧ tget (driveBoundary s).scan.chanS c 0 = routeS (driveAt s c) :=
  ⟨tget_tmap routeP (driveTable s) c _ 0 hc, tget_tmap routeS (driveTable s) c _ 0 hc⟩

theorem driveAt_value_le (s : State) (c : Nat) : (driveAt s c).value ≤ Config.maxValue := by
  by_cases hc : c < Config.cellCount
  · exact driveTable_value_le ((mem_toList_iff_tget _ _ ⟨0, .hole, false⟩).mpr ⟨c, hc, rfl⟩)
  · rw [driveAt, tget_outside _ _ _ (Nat.not_lt.mp hc)]
    exact Nat.zero_le _

theorem driveBoundary_image {s : State} (h : ImageKept s) : ImageKept (driveBoundary s) := by
  refine ⟨by simpa using h.1, fun c => ?_⟩
  by_cases hc : c < Config.cellCount
  · obtain ⟨hP, hS⟩ := tget_chans s hc
    rw [hP, hS]
    exact ⟨routeP_le (driveAt_value_le s c), routeS_le (driveAt_value_le s c), route_one _⟩
  · rw [tget_outside _ _ _ (Nat.not_lt.mp hc), tget_outside _ _ _ (Nat.not_lt.mp hc)]
    exact ⟨Nat.zero_le _, Nat.zero_le _, .inl rfl⟩

theorem ImageSound.reset : ImageSound PixelRx.reset.frameStore Scan.reset.chanP Scan.reset.chanS :=
  ⟨fun c => (tget_replicate c 0).le.trans (Nat.zero_le _),
    fun c => ⟨(tget_replicate c 0).le.trans (Nat.zero_le _), (tget_replicate c 0).le.trans (Nat.zero_le _), .inl (tget_replicate c 0)⟩⟩

theorem imageKept_boundary : BoundaryKeeps ImageKept where
  driven := fun t s h => by simpa using driveBoundary_image h

theorem imageKept_parts : StartKeeps ImageKept where
  toBoundaryKeeps := imageKept_boundary
  accept := fun f s h => by
    have hstore : (acceptFrame f s).rx.frameStore = storedFrame f := by simp [acceptFrame]
    refine ⟨fun c => ?_, by simpa using h.2⟩
    rw [hstore]
    exact storedFrame_le f c
  expire := fun t s _ h => by
    have hexpired : ImageKept (expireInterval s) := by
      have hstore : (expireInterval s).rx.frameStore = s.rx.frameStore := by
        simp only [expireInterval, expireLink, setRx_rx]
        split <;> rfl
      simpa [hstore] using h
    have hdark : ∀ u : State, (takeDark u).rx.frameStore = u.rx.frameStore := by
      intro u
      unfold takeDark
      split <;> simp
    simpa [hdark] using imageKept_boundary.boundary_keeps t hexpired
  dark := fun s h => by
    have hdark : (takeDark s).rx.frameStore = s.rx.frameStore := by
      unfold takeDark
      split <;> simp
    simpa [hdark] using h
  reset := fun _ _ _ => ImageSound.reset
  restart := fun _ _ _ => ImageSound.reset
  restartWrote := fun _ _ _ _ _ => ImageSound.reset
  restartUnwritten := fun _ _ _ _ _ => ImageSound.reset

/-! ## The figures (R85 to R87, R113, R114) -/

def FigureSound (clip load peak : Nat) (carried : Option Nat) : Prop :=
  clip ≤ Config.cellCount ∧ load ≤ Config.maxLoad ∧ peak ≤ Config.maxLoad ∧ ∀ p, carried = some p → p ≤ Config.maxLoad

@[simp] def FigureKept (s : State) : Prop := FigureSound s.drive.clip s.drive.load s.drive.peak s.gov.carried

theorem FigureSound.givenBack {clip load peak : Nat} {carried : Option Nat} (h : FigureSound clip load peak carried) :
    FigureSound clip load (max peak (carried.getD 0)) none := by
  obtain ⟨hclip, hload, hpeak, hcarried⟩ := h
  refine ⟨hclip, hload, max_le hpeak ?_, nofun⟩
  cases carried with
  | none => exact Nat.zero_le _
  | some p => exact hcarried p rfl

theorem giveBackIf_figures (b : Bool) {s : State} (h : FigureKept s) : FigureKept (giveBackIf b s) := by
  unfold giveBackIf
  split
  · exact h.givenBack
  · exact h

theorem afterCompose_figures (it : Item) {s : State} (h : FigureKept s) : FigureKept (afterCompose it s) := by
  cases it with
  | load =>
    obtain ⟨hclip, hload, hpeak, -⟩ := h
    exact ⟨hclip, hload, Nat.zero_le _, by rintro p ⟨⟩; exact hpeak⟩
  | _ => exact h

theorem fillOne_figures {s : State} (h : FigureKept s) : FigureKept (fillOne s) := by
  obtain hsame | ⟨it, -, -, ⟨-, hline⟩ | ⟨-, -, hnext⟩⟩ := fillOne_cases s
  · rwa [hsame]
  · rw [hline]; exact afterCompose_figures it h
  · rw [hnext]; exact afterCompose_figures it h

theorem recompose_figures {s : State} (h : FigureKept s) : FigureKept (recompose s) := by
  unfold recompose
  split
  · exact h
  · exact afterCompose_figures _ (giveBackIf_figures _ h)

theorem enterClash_figures {s : State} (h : FigureKept s) : FigureKept (enterClash s) := by
  unfold enterClash
  split
  · exact h
  · exact giveBackIf_figures (isComposed s .load) h

theorem abortAttempt_figures {s : State} (h : FigureKept s) : FigureKept (abortAttempt s) := by
  unfold abortAttempt
  dsimp only
  split
  · exact recompose_figures h
  · exact enterClash_figures h

theorem breakWork_figures {s : State} (h : FigureKept s) : FigureKept (breakWork s) := by
  unfold breakWork breakAttempt
  split
  · exact recompose_figures (by simpa using h)
  · simpa using h

theorem ownerCompletes_figures (c : Composed) {s : State} (h : FigureKept s) : FigureKept (ownerCompletes c s) := by
  unfold ownerCompletes
  split
  · simpa using h
  · exact ⟨h.1, h.2.1, h.2.2.1, nofun⟩
  · exact h
  · exact h
  · simpa using h
  · simpa using h

theorem driveBoundary_figures {s : State} (h : FigureKept s) : FigureKept (driveBoundary s) := by
  obtain ⟨-, -, hpeak, hcarried⟩ := h
  have hload : frameLoad (driveTable s) ≤ Config.maxLoad := frameLoad_le fun _ => driveTable_value_le
  have hclip : clipCount (driveTable s) ≤ Config.cellCount := List.countP_le_length.trans (Vector.length_toList).le
  exact ⟨hclip, hload, max_le hpeak hload, hcarried⟩

theorem FigureSound.reset : FigureSound 0 0 0 none := ⟨Nat.zero_le _, Nat.zero_le _, Nat.zero_le _, nofun⟩

theorem figureKept_boundary : BoundaryKeeps FigureKept where
  driven := fun t s h => by simpa using driveBoundary_figures h

theorem figureKept_parts : StartKeeps FigureKept where
  toBoundaryKeeps := figureKept_boundary
  expire := fun t s _ h => by
    simpa using figureKept_boundary.boundary_keeps (s := expireInterval s) t (by simpa using h)
  fill := fun _ => fillOne_figures
  lose := fun s _ h => recompose_figures (s := txQuiet s) (by simpa using h)
  abort := fun _ _ => abortAttempt_figures
  broken := fun _ => breakWork_figures
  sent := fun c s _ _ h => ownerCompletes_figures c (s := advanceBanks c s) (by simpa using h)
  clash := fun _ => enterClash_figures
  reset := fun _ _ _ => FigureSound.reset
  restart := fun _ _ _ => FigureSound.reset
  restartWrote := fun _ _ _ _ _ => FigureSound.reset
  restartUnwritten := fun _ _ _ _ _ => FigureSound.reset

/-! ## The holding count (R25) -/

@[simp] def HeldKept (s : State) : Prop := heldSound s.rx

/-- The law of R25 speaks of the link and its count alone. -/
theorem heldSound_congr {b d : PixelRx} (h : heldSound b) (hlink : d.link = b.link) (hcount : d.holding = b.holding) : heldSound d := by
  unfold heldSound at *
  rw [hlink, hcount]
  exact h

/-- The receiver behind the entry into DARK, if it is due (R25). -/
def darkened (b : PixelRx) : PixelRx := if b.link = .holding ∧ Config.holdingLimit ≤ b.holding then { b with link := .dark } else b

/-- The entry into DARK leaves the timer. -/
theorem darkened_timer (b : PixelRx) (t : IntervalTimer) : darkened { b with timer := t } = { darkened b with timer := t } := by
  unfold darkened
  by_cases hdue : b.link = .holding ∧ Config.holdingLimit ≤ b.holding
  · rw [if_pos hdue, if_pos hdue]
  · rw [if_neg hdue, if_neg hdue]

theorem takeDark_rx (s : State) : (takeDark s).rx = darkened s.rx := by
  unfold takeDark darkDue darkened
  simp only [Bool.and_eq_true, decide_eq_true_eq]
  split <;> simp

/-- The link at an expiry: LOCKED turns to HOLDING (R23). -/
theorem expireLink_link (b : PixelRx) : (expireLink b).link = if b.link = .locked then .holding else b.link := by
  unfold expireLink
  split <;> simp_all

/-- The count at an expiry: 1 where HOLDING begins, and one more in HOLDING (R25). -/
theorem expireLink_holding (b : PixelRx) :
    (expireLink b).holding =
      if b.link = .locked then 1
      else if b.link = .holding then min Config.holdingLimit (b.holding + 1) else b.holding := by
  unfold expireLink
  split <;> simp_all

/-- An expiry leaves a count of at most 30 in HOLDING, and the entry into DARK takes a count of 30. -/
theorem darkened_expireLink_held {b : PixelRx} (h : heldSound b) : heldSound (darkened (expireLink b)) := by
  have hlink := expireLink_link b
  have hcount := expireLink_holding b
  unfold heldSound at h
  cases hb : b.link with
  | search =>
    simp only [hb, reduceCtorEq, if_false] at h hlink hcount
    simp [darkened, heldSound, hlink, hcount, h]
  | locked =>
    simp only [hb, if_true] at hlink hcount
    simp [darkened, heldSound, hlink, hcount, Config.holdingLimit]
  | holding =>
    simp only [hb, reduceCtorEq, if_false, if_true] at h hlink hcount
    unfold darkened
    simp only [hlink, hcount, true_and]
    split
    · simp only [heldSound]; omega
    · simp only [heldSound, hlink, hcount]; omega
  | dark =>
    simp only [hb, reduceCtorEq, if_false] at h hlink hcount
    simp [darkened, heldSound, hlink, hcount, h]

theorem takeDark_held {s : State} (h : HeldKept s) : HeldKept (takeDark s) := by
  simp only [HeldKept, takeDark_rx]
  unfold darkened
  split
  · next hdue =>
    simp only [HeldKept, heldSound, hdue.1] at h
    omega
  · exact h

/-- A count that the expiry brings to 30 takes the link to DARK in the same event (R25). -/
theorem expiry_held (t : Taking) {s : State} (h : HeldKept s) : HeldKept (takeDark (boundary t (expireInterval s))) := by
  simp only [HeldKept, takeDark_rx, boundary_frame]
  rw [show (expireInterval s).rx = { expireLink s.rx with timer := .oneT } by rfl, darkened_timer]
  exact darkened_expireLink_held h

theorem heldKept_parts : StartKeeps HeldKept where
  arrive := fun _ _ s h => heldSound_congr h rfl rfl
  accept := fun f s _ => by simp [acceptFrame, heldSound]
  expire := fun t s _ h => expiry_held t h
  dark := fun _ => takeDark_held
  reset := fun _ _ _ => rfl
  restart := fun _ _ _ => rfl
  restartWrote := fun _ _ _ _ _ => rfl
  restartUnwritten := fun _ _ _ _ _ => rfl

end Sys2Proof.Machine
end
section
/-! PROOF. The laws of the concealment tables and of the far-edge records (R92, R95, R99), and with them the display's laws as a whole. -/

namespace Sys2Proof.Machine

/-! ## The tables and their strength (R92, R94, R95) -/

/-- Every entry of a table is in its range (R92). -/
structure TableSound (v : Vector Entry Config.cellCount) : Prop where
  entry : ∀ c, (tget v c (.lit 0)).sound

def TablesSound (active shadow : Vector Entry Config.cellCount) (k : Nat) (rebuild : Rebuild) : Prop :=
  TableSound active ∧ TableSound shadow ∧ k ≤ 255 ∧ ∀ n, rebuild = .running n → n.k ≤ 255

@[simp] def TablesKept (s : State) : Prop :=
  TablesSound s.conceal.active s.conceal.shadow s.conceal.k s.conceal.rebuild

/-- A rebuild starts from the strength in force. -/
theorem trigger_tables {s : State} (h : TablesKept s) : TablesKept (trigger s) := by
  unfold TablesKept at h ⊢
  obtain ⟨hactive, hshadow, hk, hrun⟩ := h
  obtain ⟨-, hconceal⟩ | ⟨-, hconceal⟩ := trigger_cases s
  · rw [hconceal]
    refine ⟨hactive, hshadow, hk, ?_⟩
    rintro n ⟨⟩
    exact hk
  · rw [hconceal]
    exact ⟨hactive, hshadow, hk, hrun⟩

theorem triggerIf_tables (b : Bool) {s : State} (h : TablesKept s) : TablesKept (triggerIf b s) := by
  unfold triggerIf
  split
  · exact trigger_tables h
  · exact h

theorem takeNotices_tables (ds : List Nat) {s : State} (h : TablesKept s) : TablesKept (takeNotices ds s) :=
  triggerIf_tables _ (by simpa using h)

theorem changeCell_tables (c : Nat) (r : CellRec) (cause : Cause) {s : State} (h : TablesKept s) : TablesKept (changeCell c r cause s) :=
  triggerIf_tables _ (by simpa using h)

theorem takePass_tables (p : Nat) (mP mS : Vector Measure Config.channelCount) {s : State} (h : TablesKept s) :
    TablesKept (takePass p mP mS s) :=
  takeNotices_tables _ (by simpa using h)

theorem takeProbeResult_tables (d : Nat) (m : Measure) {s : State} (h : TablesKept s) : TablesKept (takeProbeResult d m s) := by
  unfold takeProbeResult
  split
  · exact takeNotices_tables _ (by simpa using h)
  · exact h

theorem carryForce_tables (c : Nat) (st : CellState) {s : State} (h : TablesKept s) : TablesKept (carryForce c st s) := by
  have hcleared : TablesKept (clearTarget c st s) := by simpa using h
  unfold carryForce
  dsimp only
  split
  · exact hcleared
  · exact changeCell_tables _ _ _ hcleared

theorem carryRelease_tables (c : Nat) {s : State} (h : TablesKept s) : TablesKept (carryRelease c s) := by
  unfold carryRelease
  split
  · exact changeCell_tables _ _ _ h
  · exact h

theorem carrySetGain_tables (c : Nat) (g : Option Nat) {s : State} (h : TablesKept s) : TablesKept (carrySetGain c g s) := by
  unfold carrySetGain
  dsimp only
  split
  · exact h
  · exact changeCell_tables _ _ _ h

/-- A completed rebuild is installed, and a marked rerun starts from the strength in force (R98). -/
theorem install_tables {s : State} (h : TablesKept s) : TablesKept (install s) := by
  obtain ⟨hactive, hshadow, hk, -⟩ := id h
  unfold install
  split
  · unfold TablesKept startRerun
    split
    · refine ⟨by simpa [swapTables] using hshadow, by simpa [swapTables] using hactive, by simpa [swapTables] using hk, ?_⟩
      rintro n hn
      cases hn
      simpa [takeSnapshot, swapTables] using hk
    · exact ⟨by simpa [swapTables] using hshadow, by simpa [swapTables] using hactive, by simpa [swapTables] using hk,
        by simp [swapTables]⟩
  · exact h

theorem takeFarExpiry_tables {s : State} (h : TablesKept s) : TablesKept (takeFarExpiry s) := triggerIf_tables _ h

theorem farBoundary_tables (t : Taking) {s : State} (h : TablesKept s) : TablesKept (farBoundary t s) := by
  cases t with
  | within => exact takeFarExpiry_tables h
  | apart => exact h

/-- A share is a part of K, and a boost sum is capped (R94, R95). -/
theorem rebuiltEntry_sound {n : Snapshot} (h : n.k ≤ 255) (c : Nat) : (rebuiltEntry n c).sound := by
  unfold rebuiltEntry
  split
  · unfold Entry.sound shareOf
    dsimp only
    split
    · exact Nat.zero_le _
    · exact (Nat.div_le_self _ _).trans h
  · exact Nat.min_le_left _ _

/-- Sound entries make a sound table: what stands outside it is sound too. -/
theorem TableSound.of_entries {v : Vector Entry Config.cellCount} {f : Nat → Entry}
    (hv : ∀ c, c < Config.cellCount → tget v c (.lit 0) = f c) (hf : ∀ c, (f c).sound) : TableSound v := by
  refine ⟨fun c => ?_⟩
  rcases Nat.lt_or_ge c Config.cellCount with hc | hc
  · rw [hv c hc]
    exact hf c
  · rw [tget_outside v c _ hc]
    exact Nat.zero_le _

theorem rebuiltTable_sound {n : Snapshot} (h : n.k ≤ 255) : TableSound (rebuiltTable n) :=
  TableSound.of_entries (fun _ hc => tget_rebuiltTable n hc _) (rebuiltEntry_sound h)

theorem rebuilt_tables {s : State} {n : Snapshot} (hn : s.conceal.rebuild = .running n) (h : TablesKept s) :
    TablesKept (s.setConceal { s.conceal with shadow := rebuiltTable n, rebuild := .complete }) := by
  obtain ⟨hactive, -, hk, hrun⟩ := h
  have hidle : ∀ m, Rebuild.complete = .running m → m.k ≤ 255 := fun _ hm => Rebuild.noConfusion hm
  have htable : TableSound (rebuiltTable n) := rebuiltTable_sound (hrun n hn)
  simp only [TablesKept, setConceal_conceal]
  exact ⟨hactive, htable, hk, hidle⟩

theorem takeEdge_tables (source : Nat) (body : List Byte) {s : State} (h : TablesKept s) : TablesKept (takeEdge source body s) := by
  unfold takeEdge
  split
  · exact h
  · split
    · exact triggerIf_tables _ h
    · simpa using h

theorem breakWork_tables {s : State} (h : TablesKept s) : TablesKept (breakWork s) := by
  have hconceal : ∀ u, TablesKept u → TablesKept (breakConceal u) := by
    intro u hu
    have htriggered := triggerIf_tables (allEdges.any (fun e => (u.conceal.far.get e).valid))
      (s := u.setConceal { u.conceal with far := PerEdge.build (fun e => invalidate (u.conceal.far.get e)) }) hu
    unfold breakConceal
    dsimp only
    split
    · simpa using htriggered
    · exact htriggered
  have hwork : TablesKept (breakConceal (breakGovernor (breakSeam s))) := hconceal _ (by simpa using h)
  unfold breakWork breakAttempt
  split
  · simpa using hwork
  · exact hwork

/-- A written settings record carries a byte and a field. -/
theorem settingsCondition_written {st : Stored SettingsBytes} {p : Nat × Nat} (h : settingsCondition st = .written p) :
    ∃ b, st = .bytes b ∧ p = (b.k.toNat, be16 b.limitHi b.limitLo) ∧ be16 b.limitHi b.limitLo ≤ Config.maxLimit := by
  cases st with
  | cut => cases h
  | bytes b =>
    unfold settingsCondition at h
    dsimp only at h
    by_cases hblank : b = SettingsBytes.blank
    · rw [if_pos hblank] at h; cases h
    by_cases hcheck : be16 b.checkHi b.checkLo ≠ settingsCheck b
    · rw [if_neg hblank, if_pos hcheck] at h; cases h
    by_cases hlimit : Config.maxLimit < be16 b.limitHi b.limitLo
    · rw [if_neg hblank, if_neg hcheck, if_pos hlimit] at h; cases h
    · rw [if_neg hblank, if_neg hcheck, if_neg hlimit] at h
      exact ⟨b, rfl, (Condition.written.inj h).symm, Nat.not_lt.mp hlimit⟩

theorem loadedSettings_strength (st : Store) : (loadedSettings st).1 ≤ 255 := by
  unfold loadedSettings
  split
  · next p hp =>
    obtain ⟨b, -, rfl, -⟩ := settingsCondition_written hp
    exact Nat.le_of_lt_succ b.k.isLt
  · decide

theorem completeLoad_tables {s : State} (h : TablesKept s) : TablesKept (completeLoad s) := by
  obtain ⟨hactive, hshadow, -, hrun⟩ := h
  exact trigger_tables ⟨hactive, hshadow, loadedSettings_strength s.store, hrun⟩

theorem TablesSound.reset :
    TablesSound Conceal.reset.active Conceal.reset.shadow Conceal.reset.k Conceal.reset.rebuild := by
  have hplain : TableSound (Vector.replicate Config.cellCount (.lit 0)) := by
    refine ⟨fun c => ?_⟩
    rw [tget_replicate]
    exact Nat.zero_le _
  exact ⟨hplain, hplain, by decide, fun _ hm => Rebuild.noConfusion hm⟩

theorem tablesKept_boundary : BoundaryKeeps TablesKept where
  installed := fun _ => install_tables
  farAged := fun t _ => farBoundary_tables t

theorem tablesKept_parts : StartKeeps TablesKept where
  toBoundaryKeeps := tablesKept_boundary
  expire := fun t s _ h => by simpa using tablesKept_boundary.boundary_keeps (s := expireInterval s) t (by simpa using h)
  farExpire := fun _ => takeFarExpiry_tables
  rebuilt := by
    intro n s hn h
    exact rebuilt_tables hn h
  pass := fun p mP mS _ => takePass_tables p mP mS
  probed := fun d m _ => takeProbeResult_tables d m
  release := fun c _ _ => carryRelease_tables c
  gain := fun c g _ _ => carrySetGain_tables c g
  force := fun c st _ _ => carryForce_tables c st
  strength := fun k s hk h => trigger_tables ⟨h.1, h.2.1, hk, h.2.2.2⟩
  edgeFrame := fun source body _ => takeEdge_tables source body
  broken := fun _ => breakWork_tables
  loaded := fun _ _ => completeLoad_tables
  reset := fun _ _ _ => TablesSound.reset
  restart := fun _ _ _ => TablesSound.reset
  restartWrote := fun _ _ _ _ _ => TablesSound.reset
  restartUnwritten := fun _ _ _ _ _ => TablesSound.reset

/-! ## The far-edge records (R99) -/

def FarSound (far : PerEdge FarEdge) : Prop :=
  ∀ e, (far.get e).present = false → (far.get e).valid = false ∧ (far.get e).source = none

@[simp] def FarKept (s : State) : Prop := FarSound s.conceal.far

/-- Records that change in their age, entries or VALID mark alone, and become VALID only on a PRESENT edge, stay sound. -/
theorem FarSound.of_records {far far' : PerEdge FarEdge} (h : FarSound far)
    (hsame : ∀ e, (far'.get e).present = (far.get e).present ∧ (far'.get e).source = (far.get e).source ∧
      ((far.get e).present = false → (far.get e).valid = false → (far'.get e).valid = false)) : FarSound far' := by
  intro e hpresent
  obtain ⟨hp, hs, hv⟩ := hsame e
  rw [hp] at hpresent
  obtain ⟨hvalid, hsource⟩ := h e hpresent
  exact ⟨hv hpresent hvalid, hs.trans hsource⟩

theorem takeFarExpiry_far {s : State} (h : FarKept s) : FarKept (takeFarExpiry s) := by
  simp only [FarKept, takeFarExpiry, triggerIf_frame, setConceal_conceal]
  refine FarSound.of_records h fun e => ?_
  rw [get_build]
  split <;> simp

theorem farBoundary_far (t : Taking) {s : State} (h : FarKept s) : FarKept (farBoundary t s) := by
  have haged : FarSound (PerEdge.build (fun e => ageFar (s.conceal.far.get e))) := by
    refine FarSound.of_records h fun e => ?_
    rw [get_build]
    unfold ageFar
    split <;> simp
  cases t with
  | within => exact takeFarExpiry_far (s := s.setConceal _) haged
  | apart => exact haged

/-- A record becomes VALID only on a PRESENT edge (R105). -/
theorem takeEdge_far (source : Nat) (body : List Byte) {s : State} (h : FarKept s) : FarKept (takeEdge source body s) := by
  unfold takeEdge
  split
  · exact h
  · next sending content _ =>
    split
    · next haccepts =>
      simp only [edgeAccepts, Bool.and_eq_true] at haccepts
      simp only [FarKept, renewFar, triggerIf_frame, setConceal_conceal]
      refine FarSound.of_records h fun e => ?_
      rw [get_put]
      split
      · next he => subst he; simp [haccepts.1]
      · simp
    · simpa using h

theorem breakWork_far {s : State} (h : FarKept s) : FarKept (breakWork s) := by
  have hinvalid : ∀ u, FarKept u → FarKept (breakConceal u) := by
    intro u hu
    have hfar : (breakConceal u).conceal.far = PerEdge.build (fun e => invalidate (u.conceal.far.get e)) := by
      unfold breakConceal
      dsimp only
      split <;> simp
    unfold FarKept
    rw [hfar]
    exact FarSound.of_records hu fun e => by simp [invalidate]
  have hwork : FarKept (breakConceal (breakGovernor (breakSeam s))) := hinvalid _ (by simpa using h)
  unfold breakWork breakAttempt
  split
  · simpa using hwork
  · exact hwork

theorem strappedEdges_sound (p : Straps) (far : PerEdge FarEdge) : FarSound (strappedEdges p far) := by
  intro e hpresent
  simp only [strappedEdges, get_build] at hpresent ⊢
  simp [hpresent]

theorem FarSound.reset : FarSound Conceal.reset.far := fun e _ => by cases e <;> exact ⟨rfl, rfl⟩

theorem farKept_boundary : BoundaryKeeps FarKept where
  farAged := fun t _ => farBoundary_far t

theorem farKept_parts : StartKeeps FarKept where
  toBoundaryKeeps := farKept_boundary
  expire := fun t s _ h => by simpa using farKept_boundary.boundary_keeps (s := expireInterval s) t (by simpa using h)
  farExpire := fun _ => takeFarExpiry_far
  edgeFrame := fun source body _ => takeEdge_far source body
  broken := fun _ => breakWork_far
  reset := fun _ _ _ => FarSound.reset
  restart := fun _ _ _ => strappedEdges_sound _ _
  restartWrote := fun _ _ _ _ _ => strappedEdges_sound _ _
  restartUnwritten := fun _ _ _ _ _ => strappedEdges_sound _ _

/-! ## All of them -/

/-- The display's laws, each on its own fields. -/
def DisplayKept (s : State) : Prop :=
  BlankKept s ∧ ImageKept s ∧ FigureKept s ∧ HeldKept s ∧ TablesKept s ∧ FarKept s

theorem displayKept_iff (s : State) : (BlankLaw s ∧ DriveLaw s ∧ ConcealLaw s) ↔ DisplayKept s := by
  constructor
  · rintro ⟨hblank, ⟨hstore, hchans, hclip, hload, hpeak, hcarried, hheld⟩, ⟨hactive, hshadow, hk, hrun, hfar⟩⟩
    exact ⟨hblank, ⟨hstore, hchans⟩, ⟨hclip, hload, hpeak, hcarried⟩, hheld, ⟨⟨hactive⟩, ⟨hshadow⟩, hk, hrun⟩, hfar⟩
  · rintro ⟨hblank, ⟨hstore, hchans⟩, ⟨hclip, hload, hpeak, hcarried⟩, hheld, ⟨hactive, hshadow, hk, hrun⟩, hfar⟩
    exact ⟨hblank, ⟨hstore, hchans, hclip, hload, hpeak, hcarried, hheld⟩, ⟨hactive.entry, hshadow.entry, hk, hrun, hfar⟩⟩

/-- The begin of a start touches none of their fields but the far-edge records. -/
theorem startBegin_display {s t : State} (pins : Pins) (h : DisplayKept s) (he : exec (.startBegin pins) s = .next t) :
    DisplayKept t := by
  obtain ⟨-, hsame⟩ | ⟨-, -, hheld⟩ | ⟨-, -, hbegin⟩ := execStartBegin_cases s pins
  · exact next_inj (hsame.symm.trans he) ▸ h
  · rw [← next_inj (hheld.symm.trans he)]
    simpa [DisplayKept] using h
  · rw [← next_inj (hbegin.symm.trans he)]
    obtain ⟨hblank, himage, hfigures, hcount, htables, -⟩ := h
    exact ⟨hblank, himage, hfigures, hcount, htables, strappedEdges_sound _ _⟩

theorem exec_display {c : Instr} {s t : State} (h : DisplayKept s) (he : exec c s = .next t) : DisplayKept t := by
  by_cases hstart : ∃ pins, c = .startBegin pins
  · obtain ⟨pins, rfl⟩ := hstart
    exact startBegin_display pins h he
  · have hc : ∀ pins, c ≠ .startBegin pins := fun pins hc => hstart ⟨pins, hc⟩
    obtain ⟨hblank, himage, hfigures, hcount, htables, hfar⟩ := h
    exact ⟨blankKept_parts.exec_keeps c hc hblank he, imageKept_parts.exec_keeps c hc himage he,
      figureKept_parts.exec_keeps c hc hfigures he, heldKept_parts.exec_keeps c hc hcount he,
      tablesKept_parts.exec_keeps c hc htables he, farKept_parts.exec_keeps c hc hfar he⟩

end Sys2Proof.Machine

/-! ## The statement -/

section
open Sys2Proof Sys2Proof.Machine

/-- Settles O57: the three laws are six on separate fields, each kept by every part of a command; START_BEGIN's part apart. -/
theorem displayLawsAreKept : Obligations.DisplayLawsAreKept := by
  unfold Obligations.DisplayLawsAreKept
  intro s t hblank hdrive hconceal hstep
  obtain ⟨-, rfl⟩ | ⟨c, rest, -, hexec⟩ := step_cases hstep
  · exact ⟨hblank, hdrive, hconceal⟩
  · have h : DisplayKept { s with pending := rest } := (displayKept_iff s).mp ⟨hblank, hdrive, hconceal⟩
    exact (displayKept_iff t).mpr (exec_display h hexec)

end
end
section
/-! PROOF. The law of the peer load list and of the governor (R112, R115 to R120). -/

namespace Sys2Proof.Machine

/-! ## The peer load list (R115, R116) -/

/-- The list is in ascending station order. -/
def Ascending (l : List Peer) : Prop := l.Pairwise (fun p q => p.station < q.station)

/-- An entry of the list of a tile with this station. -/
def Peer.sound (own : Nat) (p : Peer) : Prop :=
  p.station < 16 ∧ p.station ≠ own ∧ p.load ≤ Config.maxLoad ∧ p.age ≤ Config.peerAgeLimit

def PeersSound (peers : List Peer) (own : Nat) (fault : Bool) : Prop :=
  Ascending peers ∧ (∀ p ∈ peers, p.sound own) ∧ (fault = true → peers = []) ∧ own < 16

theorem PeersSound.empty {own : Nat} (h : own < 16) (fault : Bool) : PeersSound [] own fault :=
  ⟨List.Pairwise.nil, nofun, fun _ => rfl, h⟩

theorem PeersSound.filter {peers : List Peer} {own : Nat} {fault : Bool} (h : PeersSound peers own fault) (q : Peer → Bool) :
    PeersSound (peers.filter q) own fault := by
  obtain ⟨hsorted, hentries, hfault, hown⟩ := h
  exact ⟨List.Pairwise.filter q hsorted, fun p hp => hentries p (List.mem_filter.mp hp).1, fun hf => by rw [hfault hf]; rfl, hown⟩

theorem PeersSound.aged {peers : List Peer} {own : Nat} {fault : Bool} (h : PeersSound peers own fault) :
    PeersSound (peers.map agePeer) own fault := by
  obtain ⟨hsorted, hentries, hfault, hown⟩ := h
  refine ⟨List.pairwise_map.mpr hsorted, ?_, fun hf => by rw [hfault hf]; rfl, hown⟩
  intro p hp
  obtain ⟨q, hq, rfl⟩ := List.mem_map.mp hp
  obtain ⟨hstation, hne, hload, -⟩ := hentries q hq
  exact ⟨hstation, hne, hload, Nat.min_le_left _ _⟩

theorem mem_insertPeer {station load : Nat} {p : Peer} {l : List Peer} (h : p ∈ insertPeer station load l) :
    p = ⟨station, load, 0⟩ ∨ p ∈ l := by
  induction l with
  | nil => simpa [insertPeer] using h
  | cons q qs ih =>
    unfold insertPeer at h
    split at h
    · simpa using h
    · split at h
      · rcases List.mem_cons.mp h with hp | hp
        · exact .inl hp
        · exact .inr (List.mem_cons_of_mem q hp)
      · rcases List.mem_cons.mp h with hp | hp
        · exact .inr (hp ▸ List.mem_cons_self)
        · exact (ih hp).imp_right (List.mem_cons_of_mem q)

/-- The entry keeps the order of the list (R115). -/
theorem Ascending.insertPeer {l : List Peer} (h : Ascending l) (station load : Nat) : Ascending (insertPeer station load l) := by
  unfold Ascending at *
  induction l with
  | nil => exact List.pairwise_singleton _ _
  | cons q qs ih =>
    obtain ⟨hhead, htail⟩ := List.pairwise_cons.mp h
    unfold Machine.insertPeer
    split
    · next hlt =>
      refine List.pairwise_cons.mpr ⟨fun p hp => ?_, h⟩
      rcases List.mem_cons.mp hp with rfl | hp
      · exact hlt
      · exact hlt.trans (hhead p hp)
    · next hge =>
      split
      · next heq => exact List.pairwise_cons.mpr ⟨fun p hp => heq ▸ hhead p hp, htail⟩
      · next hne =>
        refine List.pairwise_cons.mpr ⟨fun p hp => ?_, ih htail⟩
        rcases mem_insertPeer hp with rfl | hp
        · exact Nat.lt_of_le_of_ne (Nat.not_lt.mp hge) (Ne.symm hne)
        · exact hhead p hp

/-- A cabinet has 16 stations, and the own one is not in the list. -/
theorem PeersSound.length_le {peers : List Peer} {own : Nat} {fault : Bool} (h : PeersSound peers own fault) : peers.length ≤ 15 := by
  obtain ⟨hsorted, hentries, -, hown⟩ := h
  have hnodup : (peers.map Peer.station).Nodup :=
    List.pairwise_map.mpr (hsorted.imp fun hlt => Nat.ne_of_lt hlt)
  have hsub : peers.map Peer.station ⊆ (List.range 16).erase own := by
    intro n hn
    obtain ⟨p, hp, rfl⟩ := List.mem_map.mp hn
    obtain ⟨hlt, hne, -, -⟩ := hentries p hp
    exact (List.mem_erase_of_ne hne).mpr (List.mem_range.mpr hlt)
  have hlen := (hnodup.subperm hsub).length_le
  rw [List.length_map, List.length_erase_of_mem (List.mem_range.mpr hown), List.length_range] at hlen
  exact hlen

/-- E is at most the sum of 16 loads (R117). -/
theorem estimateOf_le {load : Nat} {peers : List Peer} {own : Nat} {fault : Bool} (hload : load ≤ Config.maxLoad)
    (h : PeersSound peers own fault) : estimateOf load peers ≤ Config.maxLimit := by
  have hlen : (peers.filter peerLive).length ≤ 15 := (h.filter peerLive).length_le
  have hsum : ((peers.filter peerLive).map (fun p => p.load)).sum ≤ (peers.filter peerLive).length * Config.maxLoad := by
    have := List.sum_le_card_nsmul ((peers.filter peerLive).map (fun p => p.load)) Config.maxLoad ?_
    · simpa using this
    · intro n hn
      obtain ⟨p, hp, rfl⟩ := List.mem_map.mp hn
      exact (h.2.1 p (List.mem_filter.mp hp).1).2.2.1
  unfold estimateOf
  simp only [Config.maxLoad, Config.maxLimit] at *
  omega

/-! ## The governor's ranges -/

def GovernorSound (peers : List Peer) (own : Nat) (fault : Bool) (factor estimate limit counter : Nat) : Prop :=
  PeersSound peers own fault ∧ factor ≤ Config.fullFactor ∧ estimate ≤ Config.maxLimit ∧ limit ≤ Config.maxLimit ∧
    counter ≤ Config.announcePeriod

@[simp] def GovernorKept (s : State) : Prop :=
  GovernorSound s.gov.peers s.seam.own s.sup.findings.strapFault s.gov.factor s.gov.estimate s.gov.limit s.gov.counter

theorem governorKept_iff (s : State) : GovernorLaw s ↔ GovernorKept s := by
  constructor
  · rintro ⟨hsorted, hentries, -, hfault, hown, hranges⟩
    exact ⟨⟨hsorted, hentries, hfault, hown⟩, hranges⟩
  · rintro ⟨hpeers, hranges⟩
    obtain ⟨hsorted, hentries, hfault, hown⟩ := id hpeers
    exact ⟨hsorted, hentries, hpeers.length_le, hfault, hown, hranges⟩

theorem factorAfter_le {factor : Nat} (h : factor ≤ Config.fullFactor) (limit estimate : Nat) :
    factorAfter limit estimate factor ≤ Config.fullFactor := by
  unfold factorAfter
  split
  · exact le_rfl
  · split
    · exact (Nat.sub_le _ _).trans h
    · split
      · exact Nat.min_le_left _ _
      · exact h

theorem takePeerExpiry_governor {s : State} (h : GovernorKept s) : GovernorKept (takePeerExpiry s) :=
  ⟨h.1.filter peerLive, h.2⟩

theorem agePeers_governor (t : Taking) {s : State} (h : GovernorKept s) : GovernorKept (agePeers t s) := by
  have haged : GovernorKept (s.setGov { s.gov with peers := s.gov.peers.map agePeer }) := ⟨h.1.aged, h.2⟩
  cases t with
  | within => exact takePeerExpiry_governor haged
  | apart => exact haged

theorem governorStep_governor {s : State} (hload : s.drive.load ≤ Config.maxLoad) (h : GovernorKept s) :
    GovernorKept (governorStep s) := by
  obtain ⟨hpeers, hfactor, -, hlimit, hcounter⟩ := h
  simp only [GovernorKept, governorStep_frame, governorStep_gov]
  exact ⟨hpeers, factorAfter_le hfactor _ _, estimateOf_le hload hpeers, hlimit, hcounter⟩

theorem driveBoundary_governor (t : Taking) {s : State} (h : GovernorKept s) :
    GovernorKept (governorStep (agePeers t (driveBoundary s))) := by
  refine governorStep_governor ?_ (agePeers_governor t (by simpa using h))
  rw [(agePeers_frame (driveBoundary s) t).2.2.2.2.2.1, driveBoundary_load]
  exact frameLoad_le fun _ => driveTable_value_le

theorem takeAnnouncement_governor {s : State} (h : GovernorKept s) : GovernorKept (takeAnnouncement s) := by
  unfold takeAnnouncement
  split
  · simpa using (show GovernorKept (s.setGov { s.gov with counter := 0 }) from ⟨h.1, h.2.1, h.2.2.1, h.2.2.2.1, Nat.zero_le _⟩)
  · exact h

theorem announceBoundary_governor (t : Taking) {s : State} (h : GovernorKept s) : GovernorKept (announceBoundary t s) := by
  have hcounted : GovernorKept (s.setGov { s.gov with counter := min Config.announcePeriod (s.gov.counter + 1) }) :=
    ⟨h.1, h.2.1, h.2.2.1, h.2.2.2.1, Nat.min_le_left _ _⟩
  unfold announceBoundary
  split
  · cases t with
    | within => exact takeAnnouncement_governor hcounted
    | apart => exact hcounted
  · exact h

theorem takeLoad_governor (source : Nat) (body : List Byte) {s : State} (h : GovernorKept s) : GovernorKept (takeLoad source body s) := by
  unfold takeLoad
  split
  · exact h
  · next hok =>
    simp only [Bool.or_eq_true, decide_eq_true_eq, not_or, Bool.not_eq_true, Nat.not_le, Nat.not_lt] at hok
    obtain ⟨⟨⟨hfault, hsource⟩, hother⟩, hfigure⟩ := hok
    obtain ⟨⟨hsorted, hentries, -, hown⟩, hranges⟩ := h
    refine ⟨⟨hsorted.insertPeer _ _, fun p hp => ?_, fun hf => ?_, hown⟩, hranges⟩
    · rcases mem_insertPeer hp with rfl | hp
      · exact ⟨hsource, hother, hfigure, Nat.zero_le _⟩
      · exact hentries p hp
    · simp [hfault] at hf

theorem breakWork_governor {s : State} (h : GovernorKept s) : GovernorKept (breakWork s) := by
  have hpeers : (breakGovernor (breakSeam s)).gov = { s.gov with peers := [] } := by
    unfold breakGovernor
    dsimp only
    split <;> simp
  have hempty : GovernorKept (breakGovernor (breakSeam s)) := by
    simp only [GovernorKept, hpeers, breakGovernor_frame, breakSeam_frame]
    exact ⟨PeersSound.empty h.1.2.2.2 _, h.2⟩
  unfold breakWork breakAttempt
  split <;> simpa using hempty

theorem loadedSettings_limit (st : Store) : (loadedSettings st).2 ≤ Config.maxLimit := by
  unfold loadedSettings
  split
  · next p hp =>
    obtain ⟨b, -, rfl, hlimit⟩ := settingsCondition_written hp
    exact hlimit
  · exact Nat.zero_le _

theorem completeLoad_governor {s : State} (h : GovernorKept s) : GovernorKept (completeLoad s) := by
  obtain ⟨hpeers, hfactor, hestimate, -, hcounter⟩ := h
  have hloaded : GovernorSound s.gov.peers s.seam.own s.sup.findings.strapFault s.gov.factor s.gov.estimate
      (loadedSettings s.store).2 s.gov.counter :=
    ⟨hpeers, hfactor, hestimate, loadedSettings_limit s.store, hcounter⟩
  simpa [completeLoad] using hloaded

theorem strapStation_lt (p : Straps) : strapStation p < 16 := by
  have hx := p.x.isLt
  have hy := p.y.isLt
  unfold strapStation
  omega

/-- A tile without peers is sound at the values of R123, whatever its station. -/
theorem GovernorSound.reset {own : Nat} (h : own < 16) (fault : Bool) :
    GovernorSound Governor.reset.peers own fault Governor.reset.factor Governor.reset.estimate Governor.reset.limit
      Governor.reset.counter :=
  ⟨PeersSound.empty h fault, by decide, by decide, by decide, by decide⟩

theorem governorKept_boundary : BoundaryKeeps GovernorKept where
  driven := fun t _ => driveBoundary_governor t
  announced := fun t _ => announceBoundary_governor t

theorem governorKept_parts : StartKeeps GovernorKept where
  toBoundaryKeeps := governorKept_boundary
  expire := fun t s _ h => by simpa using governorKept_boundary.boundary_keeps (s := expireInterval s) t (by simpa using h)
  announce := fun _ => takeAnnouncement_governor
  peersExpire := fun _ => takePeerExpiry_governor
  loadFrame := fun source body _ => takeLoad_governor source body
  broken := fun _ => breakWork_governor
  limit := fun v s h => ⟨h.1, h.2.1, h.2.2.1, Nat.min_le_left _ _, h.2.2.2.2⟩
  run := fun b s _ h => ⟨h.1, h.2.1, h.2.2.1, h.2.2.2.1, Nat.zero_le _⟩
  loaded := fun _ _ => completeLoad_governor
  reset := fun _ _ _ => GovernorSound.reset (own := 0) (by decide) _
  restart := fun _ _ _ => GovernorSound.reset (strapStation_lt _) _
  restartWrote := fun _ _ _ _ _ => GovernorSound.reset (strapStation_lt _) _
  restartUnwritten := fun _ _ _ _ _ => GovernorSound.reset (strapStation_lt _) _

/-- A start begins from RESET, where the list is empty. -/
theorem startBegin_governor {s t : State} (pins : Pins) (hreset : ResetLaw s) (h : GovernorKept s)
    (he : exec (.startBegin pins) s = .next t) : GovernorKept t := by
  obtain ⟨-, hsame⟩ | ⟨-, -, hheld⟩ | ⟨hstate, -, hbegin⟩ := execStartBegin_cases s pins
  · exact next_inj (hsame.symm.trans he) ▸ h
  · rw [← next_inj (hheld.symm.trans he)]
    simpa using h
  · rw [← next_inj (hbegin.symm.trans he), hreset.1 hstate]
    exact GovernorSound.reset (strapStation_lt _) _

theorem exec_governor {c : Instr} {s t : State} (hreset : ResetLaw s) (h : GovernorKept s) (he : exec c s = .next t) :
    GovernorKept t := by
  by_cases hstart : ∃ pins, c = .startBegin pins
  · obtain ⟨pins, rfl⟩ := hstart
    exact startBegin_governor pins hreset h he
  · exact governorKept_parts.exec_keeps c (fun pins hc => hstart ⟨pins, hc⟩) h he

/-- The law of RESET does not speak of the waiting commands. -/
theorem resetLaw_of_queue {s : State} (h : ResetLaw s) (rest : List Instr) : ResetLaw { s with pending := rest } := by
  refine ⟨fun hstate => ?_, h.2⟩
  have hs := h.1 hstate
  calc { s with pending := rest } = { pristine s with pending := rest } := by rw [← hs]
    _ = pristine { s with pending := rest } := rfl

end Sys2Proof.Machine

/-! ## The statement -/

section
open Sys2Proof Sys2Proof.Machine

/-- Settles O58: every part of a command keeps the law but for its bound of 15, which follows from the rest, for the 16 stations leave
the own one out; START_BEGIN finds the list empty, by the law of RESET. -/
theorem governorLawIsKept : Obligations.GovernorLawIsKept := by
  unfold Obligations.GovernorLawIsKept
  intro s t hreset h hstep
  obtain ⟨-, rfl⟩ | ⟨c, rest, -, hexec⟩ := step_cases hstep
  · exact h
  · have hkept : GovernorKept { s with pending := rest } := (governorKept_iff s).mp h
    exact (governorKept_iff t).mpr (exec_governor (resetLaw_of_queue hreset rest) hkept hexec)

end
end
section
/-! PROOF. The law of the report queue (R163, R164). -/

namespace Sys2Proof.Machine

def ReportSound (queue : List Report) (marks : Vector Bool Config.cellCount) : Prop :=
  queue.length ≤ Config.reportQueueSize ∧ (queue.map (fun r => r.cell)).Nodup ∧ (∀ r ∈ queue, tget marks r.cell false = false) ∧
    (queue.length < Config.reportQueueSize → ∀ c, tget marks c false = false)

@[simp] def ReportKept (s : State) : Prop := ReportSound s.port.queue s.port.marks

theorem reportKept_iff (s : State) : ReportLaw s ↔ ReportKept s := Iff.rfl

/-- The law reads the cells of the queue alone. -/
theorem ReportSound.of_cells {q q' : List Report} {marks : Vector Bool Config.cellCount} (h : ReportSound q marks)
    (hcells : q'.map (fun r => r.cell) = q.map (fun r => r.cell)) : ReportSound q' marks := by
  obtain ⟨hlen, hnodup, hmarks, hroom⟩ := h
  have hlength : q'.length = q.length := by simpa using congrArg List.length hcells
  refine ⟨hlength ▸ hlen, hcells ▸ hnodup, fun r hr => ?_, fun hlt => hroom (hlength ▸ hlt)⟩
  have hcell : r.cell ∈ q.map (fun r => r.cell) := hcells ▸ List.mem_map_of_mem hr
  obtain ⟨x, hx, heq⟩ := List.mem_map.mp hcell
  exact heq ▸ hmarks x hx

/-- An entry of a cell that is not in the queue enters a queue with room, and takes the cell's mark with it. -/
theorem ReportSound.append {q : List Report} {marks : Vector Bool Config.cellCount} {r : Report} (h : ReportSound q marks)
    (hroom : q.length < Config.reportQueueSize) (hnew : ∀ x ∈ q, x.cell ≠ r.cell) : ReportSound (q ++ [r]) marks := by
  obtain ⟨-, hnodup, -, hclear⟩ := h
  have hclear := hclear hroom
  refine ⟨by simpa using hroom, ?_, fun _ _ => hclear _, fun _ => hclear⟩
  rw [List.map_append, List.nodup_append]
  refine ⟨hnodup, List.nodup_singleton _, ?_⟩
  rintro a ha b hb
  obtain ⟨x, hx, rfl⟩ := List.mem_map.mp ha
  rw [List.mem_singleton.mp hb]
  exact hnew x hx

theorem ReportSound.marked {q : List Report} {marks : Vector Bool Config.cellCount} {c : Nat} (h : ReportSound q marks)
    (hfull : Config.reportQueueSize ≤ q.length) (hnew : ∀ x ∈ q, x.cell ≠ c) : ReportSound q (tset marks c true) := by
  obtain ⟨hlen, hnodup, hmarks, -⟩ := h
  refine ⟨hlen, hnodup, fun r hr => ?_, fun hlt => absurd hlt (Nat.not_lt.mpr hfull)⟩
  rw [tget_tset_ne _ _ _ _ _ (hnew r hr).symm]
  exact hmarks r hr

/-! ## Events and completions -/

theorem queued_false_iff (s : State) (c : Nat) : queued s c = false ↔ ∀ x ∈ s.port.queue, x.cell ≠ c := by
  simp [queued]

theorem postEvent_reports (c : Nat) (cause : Cause) {s : State} (h : ReportKept s) : ReportKept (postEvent c cause s) := by
  unfold postEvent
  split
  · refine ReportSound.of_cells h ?_
    simp only [setPort_port, List.map_map]
    refine List.map_congr_left fun r _ => ?_
    dsimp only [Function.comp_apply]
    split
    · next hc => exact hc.symm
    · rfl
  · next hnew =>
    have hnew := (queued_false_iff s c).mp (by simpa using hnew)
    split
    · next hroom =>
      have happended : ReportSound (s.port.queue ++ [reportOf s c cause false]) s.port.marks := ReportSound.append h hroom hnew
      dsimp only
      split <;> simpa using happended
    · next hfull => exact ReportSound.marked h (Nat.not_lt.mp hfull) hnew

theorem changeEffects_reports (c : Nat) (cause : Cause) {s : State} (h : ReportKept s) : ReportKept (changeEffects c cause s) :=
  postEvent_reports c cause (by simpa using h)

theorem takeNotices_reports (ds : List Nat) {s : State} (h : ReportKept s) : ReportKept (takeNotices ds s) := by
  have hfold : ReportKept (ds.foldl (fun u d => takeNotice d u) s) := by
    induction ds generalizing s with
    | nil => exact h
    | cons d ds ih => exact ih (changeEffects_reports _ _ (by simpa using h))
  simpa [takeNotices] using hfold

theorem changeCell_reports (c : Nat) (r : CellRec) (cause : Cause) {s : State} (h : ReportKept s) :
    ReportKept (changeCell c r cause s) := by
  have heffects : ReportKept (changeEffects c cause (setCell c r s)) := changeEffects_reports _ _ (by simpa using h)
  simpa [changeCell] using heffects

theorem clearUpdated_cells (q : List Report) : (clearUpdated q).map (fun r => r.cell) = q.map (fun r => r.cell) := by
  cases q <;> rfl

theorem afterCompose_reports (it : Item) {s : State} (h : ReportKept s) : ReportKept (afterCompose it s) := by
  cases it with
  | reportHead => exact ReportSound.of_cells h (clearUpdated_cells _)
  | _ => simpa [afterCompose] using h

theorem fillOne_reports {s : State} (h : ReportKept s) : ReportKept (fillOne s) := by
  obtain hsame | ⟨it, -, -, ⟨-, hline⟩ | ⟨-, -, hnext⟩⟩ := fillOne_cases s
  · rwa [hsame]
  · rw [hline]; exact afterCompose_reports it h
  · rw [hnext]; exact afterCompose_reports it h

theorem recompose_reports {s : State} (h : ReportKept s) : ReportKept (recompose s) := by
  unfold recompose
  split
  · exact h
  · exact afterCompose_reports _ (by simpa using h)

theorem abortAttempt_reports {s : State} (h : ReportKept s) : ReportKept (abortAttempt s) := by
  unfold abortAttempt
  dsimp only
  split
  · exact recompose_reports h
  · simpa using h

theorem breakWork_reports {s : State} (h : ReportKept s) : ReportKept (breakWork s) := by
  unfold breakWork breakAttempt
  split
  · exact recompose_reports (by simpa using h)
  · simpa using h

/-- The refill takes the first marked cell into the freed place, and its mark away (R164). -/
theorem refill_reports {s : State} {r : Report} {rest : List Report} (hq : s.port.queue = r :: rest) (h : ReportKept s) :
    ReportKept (refill (s.setPort { s.port with queue := rest })) := by
  simp only [ReportKept, hq] at h
  obtain ⟨hlen, hnodup, hmarks, hclear⟩ := h
  have hroom : rest.length < Config.reportQueueSize := hlen
  have hrestNodup : (rest.map (fun r => r.cell)).Nodup := (List.nodup_cons.mp hnodup).2
  have hrest : ∀ x ∈ rest, tget s.port.marks x.cell false = false := fun x hx => hmarks x (List.mem_cons_of_mem r hx)
  unfold refill
  split
  · next hnone =>
    have hnone : findFrom Config.cellCount s.port.refillCursor (fun c => tget s.port.marks c false) = none := hnone
    refine ⟨hroom.le, hrestNodup, hrest, fun _ c => ?_⟩
    rcases Nat.lt_or_ge c Config.cellCount with hc | hc
    · exact findFrom_none _ _ _ hnone c hc
    · exact tget_outside _ _ _ hc
  · next c hsome =>
    have hsome : findFrom Config.cellCount s.port.refillCursor (fun c => tget s.port.marks c false) = some c := hsome
    obtain ⟨hc, hmark⟩ := findFrom_some _ _ _ _ hsome
    have hnew : ∀ x ∈ rest, x.cell ≠ c := by
      rintro x hx rfl
      exact absurd hmark (by simp [hrest x hx])
    have hfull : ¬(r :: rest).length < Config.reportQueueSize := fun hlt => absurd hmark (by simp [hclear hlt c])
    refine ⟨by simpa using hroom, ?_, fun x hx => ?_, fun hlt => absurd (by simpa using hlt) hfull⟩
    · show ((rest ++ [reportOf _ c .refill false]).map (fun r => r.cell)).Nodup
      rw [List.map_append, List.nodup_append]
      refine ⟨hrestNodup, List.nodup_singleton _, ?_⟩
      rintro a ha b hb
      obtain ⟨x, hx, rfl⟩ := List.mem_map.mp ha
      rw [List.mem_singleton.mp hb]
      exact hnew x hx
    · show tget (tset s.port.marks c false) x.cell false = false
      rw [tget_tset]
      split
      · rfl
      · rcases List.mem_append.mp hx with hx | hx
        · exact hrest x hx
        · next hother => exact absurd ⟨by rw [List.mem_singleton.mp hx]; rfl, hc⟩ hother

theorem completeHead_reports {s : State} (h : ReportKept s) : ReportKept (completeHead s) := by
  unfold completeHead
  split
  · exact h
  · next r rest hq =>
    split
    · refine ReportSound.of_cells h ?_
      simp [hq]
    · simpa using refill_reports hq h

theorem ownerCompletes_reports (c : Composed) {s : State} (h : ReportKept s) : ReportKept (ownerCompletes c s) := by
  unfold ownerCompletes
  split
  · simpa using h
  · exact h
  · exact h
  · exact h
  · simpa using h
  · exact completeHead_reports h

theorem ReportSound.reset : ReportSound Port.reset.queue Port.reset.marks :=
  ⟨Nat.zero_le _, List.nodup_nil, nofun, fun _ c => tget_replicate c false⟩

theorem reportKept_parts : StartKeeps ReportKept where
  fill := fun _ => fillOne_reports
  pass := fun p mP mS s h => takeNotices_reports _ (by simpa using h)
  probed := fun d m s h => by
    unfold takeProbeResult
    split
    · exact takeNotices_reports _ (by simpa using h)
    · exact h
  release := fun c s _ h => by
    unfold carryRelease
    split
    · exact changeCell_reports _ _ _ h
    · exact h
  gain := fun c g s _ h => by
    unfold carrySetGain
    dsimp only
    split
    · exact h
    · exact changeCell_reports _ _ _ h
  force := fun c st s _ h => by
    have hcleared : ReportKept (clearTarget c st s) := by simpa using h
    unfold carryForce
    dsimp only
    split
    · exact hcleared
    · exact changeCell_reports _ _ _ hcleared
  lose := fun s _ h => recompose_reports (s := txQuiet s) (by simpa using h)
  abort := fun _ _ => abortAttempt_reports
  broken := fun _ => breakWork_reports
  sent := fun c s _ _ h => ownerCompletes_reports c (s := advanceBanks c s) (by simpa using h)
  reset := fun _ _ _ => ReportSound.reset
  restart := fun _ _ _ => ReportSound.reset
  restartWrote := fun _ _ _ _ _ => ReportSound.reset
  restartUnwritten := fun _ _ _ _ _ => ReportSound.reset

theorem exec_reports {c : Instr} {s t : State} (h : ReportKept s) (he : exec c s = .next t) : ReportKept t := by
  by_cases hstart : ∃ pins, c = .startBegin pins
  · obtain ⟨pins, rfl⟩ := hstart
    obtain ⟨-, hsame⟩ | ⟨-, -, hheld⟩ | ⟨-, -, hbegin⟩ := execStartBegin_cases s pins
    · exact next_inj (hsame.symm.trans he) ▸ h
    · rw [← next_inj (hheld.symm.trans he)]; simpa using h
    · rw [← next_inj (hbegin.symm.trans he)]; simpa using h
  · exact reportKept_parts.exec_keeps c (fun pins hc => hstart ⟨pins, hc⟩) h he

end Sys2Proof.Machine
end
section
/-! PROOF. The law of the banks, the transmit state, CLASH and the carried peak (R114, R128, R130, R132, R134). -/

namespace Sys2Proof.Machine

/-- The two banks hold frames of two items (R134). -/
def BanksDiffer (line next : Option Composed) : Prop := ∀ c d, line = some c → next = some d → c.item ≠ d.item

theorem BanksDiffer.of_line_none (next : Option Composed) : BanksDiffer none next := nofun

theorem BanksDiffer.of_next_none (line : Option Composed) : BanksDiffer line none := nofun

def BankSound (line next : Option Composed) (tx : TxState) (mismatches : Nat) (clash : Bool) (carried : Option Nat) : Prop :=
  BanksDiffer line next ∧ (next.isSome = true → line.isSome = true) ∧ (clash = true → line = none) ∧
    (tx ≠ .quiet → line.isSome = true) ∧ mismatches ≤ Config.mismatchLimit ∧ (clash = false → mismatches < Config.mismatchLimit) ∧
    carried.isSome = (holds line .load || holds next .load)

@[simp] def BankKept (s : State) : Prop :=
  BankSound s.seam.lineBank s.seam.nextBank s.seam.tx s.seam.mismatches s.seam.clash s.gov.carried

/-- What composition does to the carried peak (R113). -/
theorem afterCompose_carried (it : Item) (s : State) :
    (afterCompose it s).gov.carried.isSome = (decide (it = .load) || s.gov.carried.isSome) := by
  cases it <;> simp [afterCompose]

theorem composeLine_carried (it : Item) (s : State) :
    (composeLine it s).gov.carried.isSome = (decide (it = .load) || s.gov.carried.isSome) := by
  simp [composeLine, afterCompose_carried]

theorem composeNext_carried (it : Item) (s : State) :
    (composeNext it s).gov.carried.isSome = (decide (it = .load) || s.gov.carried.isSome) := by
  simp [composeNext, afterCompose_carried]

@[simp] theorem holds_none (it : Item) : holds none it = false := rfl

@[simp] theorem holds_some (c : Composed) (it : Item) : holds (some c) it = decide (c.item = it) := rfl

@[simp] theorem holds_frameOf (s : State) (it i : Item) : holds (some (frameOf s it)) i = decide (it = i) := by simp

/-- A composed item is not waiting (R133). -/
theorem nextItem_not_held {s : State} {it : Item} (h : nextItem s = some it) :
    (∀ c, s.seam.lineBank = some c → c.item ≠ it) ∧ ∀ c, s.seam.nextBank = some c → c.item ≠ it := by
  have hcomposed := (nextItem_some s it h).2.2.1
  simp only [isComposed, Bool.or_eq_false_iff] at hcomposed
  obtain ⟨hline, hnext⟩ := hcomposed
  exact ⟨fun c hc => by simpa [hc] using hline, fun c hc => by simpa [hc] using hnext⟩

/-- The filling of a bank keeps the banks' items apart. -/
theorem fillOne_differ {s : State} (h : BanksDiffer s.seam.lineBank s.seam.nextBank) :
    BanksDiffer (fillOne s).seam.lineBank (fillOne s).seam.nextBank := by
  obtain hsame | ⟨it, hit, -, ⟨-, hline⟩ | ⟨-, -, hnext⟩⟩ := fillOne_cases s
  · rwa [hsame]
  · rw [hline]
    simp only [composeLine_lineBank, composeLine_frame]
    rintro c d ⟨⟩ hd
    rw [frameOf_item]
    exact ((nextItem_not_held hit).2 d hd).symm
  · rw [hnext]
    simp only [composeNext_nextBank, composeNext_frame]
    rintro c d hc ⟨⟩
    rw [frameOf_item]
    exact (nextItem_not_held hit).1 c hc

theorem fillOne_banks {s : State} (h : BankKept s) : BankKept (fillOne s) := by
  have hdiffer := fillOne_differ h.1
  obtain ⟨-, horder, hclash, htx, hmax, hcount, hcarried⟩ := id h
  obtain hsame | ⟨it, -, hclear, ⟨hempty, hline⟩ | ⟨hfull, hempty, hnext⟩⟩ := fillOne_cases s
  · rwa [hsame]
  · have hnone : s.seam.nextBank = none := by
      cases hn : s.seam.nextBank with
      | none => rfl
      | some d => simp [hn, hempty] at horder
    rw [hline] at hdiffer ⊢
    simp only [BankKept, composeLine_lineBank, composeLine_frame] at hdiffer ⊢
    refine ⟨hdiffer, fun _ => rfl, fun hc => absurd hc (by simp [hclear]), fun _ => rfl, hmax, hcount, ?_⟩
    rw [composeLine_carried, hcarried, hempty, hnone]
    simp
  · rw [hnext] at hdiffer ⊢
    simp only [BankKept, composeNext_nextBank, composeNext_frame] at hdiffer ⊢
    refine ⟨hdiffer, fun _ => hfull, hclash, htx, hmax, hcount, ?_⟩
    rw [composeNext_carried, hcarried, hempty]
    simp [Bool.or_comm]

theorem giveBackIf_carried (b : Bool) (s : State) : (giveBackIf b s).gov.carried = if b then none else s.gov.carried := by
  cases b <;> rfl

/-- The bank holds the frame of the same item behind a recomposition (R136). -/
theorem recompose_line {s : State} {c : Composed} (hc : s.seam.lineBank = some c) :
    ∃ d, (recompose s).seam.lineBank = some d ∧ d.item = c.item := by
  unfold recompose
  rw [hc]
  exact ⟨_, composeLine_lineBank _ _, frameOf_item _ _⟩

theorem recompose_carried {s : State} {c : Composed} (hc : s.seam.lineBank = some c) :
    (recompose s).gov.carried.isSome = (decide (c.item = .load) || s.gov.carried.isSome) := by
  unfold recompose
  rw [hc]
  dsimp only
  rw [composeLine_carried, giveBackIf_carried]
  by_cases hload : c.item = .load <;> simp [hload]

theorem recompose_of_none {s : State} (h : s.seam.lineBank = none) : recompose s = s := by
  unfold recompose
  rw [h]

theorem recompose_differ {s : State} (h : BanksDiffer s.seam.lineBank s.seam.nextBank) :
    BanksDiffer (recompose s).seam.lineBank (recompose s).seam.nextBank := by
  cases hc : s.seam.lineBank with
  | none => rwa [recompose_of_none hc]
  | some c =>
    obtain ⟨d, hd, hitem⟩ := recompose_line hc
    rw [hd, show (recompose s).seam.nextBank = s.seam.nextBank by simp]
    rintro x y ⟨⟩ hy
    rw [hitem]
    exact h c y hc hy

theorem recompose_banks {s : State} (h : BankKept s) : BankKept (recompose s) := by
  have hdiffer := recompose_differ h.1
  cases hc : s.seam.lineBank with
  | none => rwa [recompose_of_none hc]
  | some c =>
    obtain ⟨-, -, hclash, -, hmax, hcount, hcarried⟩ := h
    obtain ⟨d, hd, hitem⟩ := recompose_line hc
    have hnext : (recompose s).seam.nextBank = s.seam.nextBank := by simp
    simp only [BankKept, hd, hnext, recompose_frame] at hdiffer ⊢
    refine ⟨hdiffer, fun _ => rfl, fun hset => ?_, fun _ => rfl, hmax, hcount, ?_⟩
    · rw [hclash hset] at hc; cases hc
    · rw [recompose_carried hc, hcarried, hc, holds_some, holds_some, hitem]
      cases decide (c.item = .load) <;> simp

/-- CLASH empties the banks and gives the carried peak back (R132, R114). -/
theorem enterClash_banks_of_clear {s : State} (hclear : s.seam.clash = false) (hmax : s.seam.mismatches ≤ Config.mismatchLimit)
    (hcarried : s.gov.carried.isSome = isComposed s .load) : BankKept (enterClash s) := by
  unfold enterClash
  rw [if_neg (by simp [hclear])]
  simp only [BankKept, setSeam_seam, setSeam_gov, giveBackIf_carried, giveBackIf_frame]
  refine ⟨BanksDiffer.of_line_none _, nofun, fun _ => rfl, fun htx => absurd rfl htx, hmax, nofun, ?_⟩
  cases hload : isComposed s .load with
  | true => rfl
  | false => exact hcarried.trans hload

theorem enterClash_banks {s : State} (h : BankKept s) : BankKept (enterClash s) := by
  cases hclash : s.seam.clash with
  | true => rwa [show enterClash s = s from if_pos hclash]
  | false =>
    obtain ⟨-, -, -, -, hmax, -, hcarried⟩ := h
    exact enterClash_banks_of_clear hclash hmax hcarried

/-- An attempt has a frame, so CLASH is clear and the count below its limit when it aborts (R128, R130). -/
theorem abortAttempt_banks {s : State} (htx : s.seam.tx ≠ .quiet) (h : BankKept s) : BankKept (abortAttempt s) := by
  obtain ⟨hdiffer, horder, hclash, hattempt, -, hcount, hcarried⟩ := h
  have hclear : s.seam.clash = false := by
    cases hset : s.seam.clash with
    | false => rfl
    | true =>
      have hfull := hattempt htx
      simp [hclash hset] at hfull
  have hbelow := hcount hclear
  unfold abortAttempt
  dsimp only
  split
  · next hlt => exact recompose_banks ⟨hdiffer, horder, hclash, fun hquiet => absurd rfl hquiet, hlt.le, fun _ => hlt, hcarried⟩
  · exact enterClash_banks_of_clear (by simpa using hclear) hbelow hcarried

theorem breakWork_banks {s : State} (h : BankKept s) : BankKept (breakWork s) := by
  obtain ⟨hdiffer, horder, -, -, -, -, hcarried⟩ := h
  have hquiet : BankKept (breakConceal (breakGovernor (breakSeam s))) := by
    simp only [BankKept, breakConceal_frame, breakGovernor_frame, breakSeam, setSeam_seam, setSeam_gov, waitIdle_frame]
    exact ⟨hdiffer, horder, nofun, fun htx => absurd rfl htx, Nat.zero_le _, fun _ => by decide, hcarried⟩
  unfold breakWork breakAttempt
  split
  · exact recompose_banks hquiet
  · exact hquiet

theorem ownerCompletes_carried (c : Composed) (s : State) :
    (ownerCompletes c s).gov.carried = if c.item = .load then none else s.gov.carried := by
  unfold ownerCompletes
  split <;> simp_all

/-- The next bank's frame moves up, and the sent LOAD's peak is dropped (R131, R114). -/
theorem sent_banks {c : Composed} {s : State} (hc : s.seam.lineBank = some c) (h : BankKept s) :
    BankKept (ownerCompletes c (advanceBanks c s)) := by
  obtain ⟨hdiffer, -, hclash, -, -, -, hcarried⟩ := h
  simp only [BankKept, ownerCompletes_frame, ownerCompletes_carried]
  refine ⟨BanksDiffer.of_next_none _, nofun, fun hset => ?_, fun htx => absurd rfl htx, Nat.zero_le _, fun _ => ?_, ?_⟩
  · have hset : s.seam.clash = true := by simpa using hset
    rw [hclash hset] at hc
    cases hc
  · exact (by decide : 0 < Config.mismatchLimit)
  · show _ = (holds s.seam.nextBank .load || holds none .load)
    rw [hc, holds_some] at hcarried
    split
    · next hload =>
      cases hn : s.seam.nextBank with
      | none => rfl
      | some d => simpa [hload] using (hdiffer c d hc hn).symm
    · next hload => simpa [hload] using hcarried

theorem contend_banks {s : State} (h : BankKept s) : BankKept (contend s) := by
  obtain ⟨hdiffer, horder, hclash, htx, hrest⟩ := h
  refine ⟨hdiffer, horder, hclash, fun hcontends => ?_, hrest⟩
  have hcontends : (if joins s then TxState.contending else s.seam.tx) ≠ .quiet := hcontends
  split at hcontends
  · next hjoins =>
    simp only [joins, Bool.and_eq_true] at hjoins
    exact hjoins.1
  · exact htx hcontends

theorem BankSound.reset :
    BankSound Seam.reset.lineBank Seam.reset.nextBank Seam.reset.tx Seam.reset.mismatches Seam.reset.clash Governor.reset.carried :=
  ⟨BanksDiffer.of_line_none _, nofun, nofun, fun htx => absurd rfl htx, Nat.zero_le _, fun _ => by decide, rfl⟩

theorem bankKept_parts : StartKeeps BankKept where
  fill := fun _ => fillOne_banks
  join := fun _ => contend_banks
  win := fun s htx h => ⟨h.1, h.2.1, h.2.2.1, fun _ => h.2.2.2.1 (by rw [htx]; exact nofun), h.2.2.2.2⟩
  lose := fun s htx h =>
    recompose_banks (s := txQuiet s) ⟨h.1, h.2.1, h.2.2.1, fun hquiet => absurd rfl hquiet, h.2.2.2.2⟩
  abort := fun _ => abortAttempt_banks
  broken := fun _ => breakWork_banks
  sent := fun _ _ _ => sent_banks
  clash := fun _ => enterClash_banks
  reset := fun _ _ _ => BankSound.reset
  restart := fun _ _ _ => BankSound.reset
  restartWrote := fun _ _ _ _ _ => BankSound.reset
  restartUnwritten := fun _ _ _ _ _ => BankSound.reset

theorem exec_banks {c : Instr} {s t : State} (h : BankKept s) (he : exec c s = .next t) : BankKept t := by
  by_cases hstart : ∃ pins, c = .startBegin pins
  · obtain ⟨pins, rfl⟩ := hstart
    obtain ⟨-, hsame⟩ | ⟨-, -, hheld⟩ | ⟨-, -, hbegin⟩ := execStartBegin_cases s pins
    · exact next_inj (hsame.symm.trans he) ▸ h
    · rw [← next_inj (hheld.symm.trans he)]; simpa using h
    · rw [← next_inj (hbegin.symm.trans he)]; exact h
  · exact bankKept_parts.exec_keeps c (fun pins hc => hstart ⟨pins, hc⟩) h he

end Sys2Proof.Machine
end
section
/-! PROOF. The law of the pending set (R133, R156, R163, R165), and with it the bus's laws as a whole. -/

namespace Sys2Proof.Machine

/-! ## The pending set and what its items stand for -/

/-- The banks' frames are those of pending items (R133, R134). -/
def BanksPending (items : PendingSet) (line next : Option Composed) : Prop :=
  (∀ c, line = some c → items.has c.item = true) ∧ ∀ c, next = some c → items.has c.item = true

/-- An EDGE item is there for a PRESENT edge alone, and the port's items mirror its slots, its flag and its queue. -/
def ItemsMirror (items : PendingSet) (far : PerEdge FarEdge) (long immediate : Option Reply) (notice : Bool) (queue : List Report) : Prop :=
  (∀ e, items.has (.edge e) = true → (far.get e).present = true) ∧ items.has .longReply = long.isSome ∧
    items.has .immediateReply = immediate.isSome ∧ items.has .tileNotice = notice ∧ items.has .reportHead = !queue.isEmpty

@[simp] def ItemsKept (s : State) : Prop :=
  BanksDiffer s.seam.lineBank s.seam.nextBank ∧ BanksPending s.seam.items s.seam.lineBank s.seam.nextBank ∧
    ItemsMirror s.seam.items s.conceal.far s.port.long s.port.immediate s.port.notice s.port.queue

theorem has_put_true (items : PendingSet) (it i : Item) : (items.put it true).has i = (decide (it = i) || items.has i) := by
  rw [has_put]
  split
  · next h => simp [h]
  · next h => simp [Ne.symm h]

theorem BanksPending.put {items : PendingSet} {line next : Option Composed} (h : BanksPending items line next) (it : Item) :
    BanksPending (items.put it true) line next := by
  obtain ⟨hline, hnext⟩ := h
  exact ⟨fun c hc => by rw [has_put_true, hline c hc, Bool.or_true], fun c hc => by rw [has_put_true, hnext c hc, Bool.or_true]⟩

/-- An item that becomes pending together with what it stands for (R133). -/
theorem ItemsMirror.put {items : PendingSet} {far : PerEdge FarEdge} {long immediate long' immediate' : Option Reply}
    {notice notice' : Bool} {queue queue' : List Report} (h : ItemsMirror items far long immediate notice queue) (it : Item)
    (hedge : ∀ e, it = .edge e → (far.get e).present = true) (hlong : long'.isSome = (decide (it = .longReply) || long.isSome))
    (himmediate : immediate'.isSome = (decide (it = .immediateReply) || immediate.isSome))
    (hnotice : notice' = (decide (it = .tileNotice) || notice))
    (hqueue : (!queue'.isEmpty) = (decide (it = .reportHead) || !queue.isEmpty)) :
    ItemsMirror (items.put it true) far long' immediate' notice' queue' := by
  obtain ⟨hedges, hl, hi, hn, hq⟩ := h
  refine ⟨fun e he => ?_, ?_, ?_, ?_, ?_⟩
  · rw [has_put_true, Bool.or_eq_true, decide_eq_true_eq] at he
    exact he.elim (hedge e) (hedges e)
  · rw [has_put_true, hl, hlong]
  · rw [has_put_true, hi, himmediate]
  · rw [has_put_true, hn, hnotice]
  · rw [has_put_true, hq, hqueue]

/-- The law reads the slots, the queue and the records by what is there, not by what it is. -/
theorem ItemsMirror.congr {items : PendingSet} {far far' : PerEdge FarEdge} {long immediate long' immediate' : Option Reply}
    {notice : Bool} {queue queue' : List Report} (h : ItemsMirror items far long immediate notice queue)
    (hfar : ∀ e, (far'.get e).present = (far.get e).present) (hlong : long'.isSome = long.isSome)
    (himmediate : immediate'.isSome = immediate.isSome) (hqueue : queue'.isEmpty = queue.isEmpty) :
    ItemsMirror items far' long' immediate' notice queue' := by
  obtain ⟨hedges, hl, hi, hn, hq⟩ := h
  exact ⟨fun e he => (hfar e).trans (hedges e he), hl.trans hlong.symm, hi.trans himmediate.symm, hn, hq.trans (by rw [hqueue])⟩

/-! ## Items that become pending -/

theorem raiseNotice_items {s : State} (h : ItemsKept s) : ItemsKept (raiseNotice s) := by
  obtain ⟨hdiffer, hbanks, hmirror⟩ := id h
  unfold raiseNotice
  split
  · split
    · exact h
    · exact h
  · next hnotice =>
    have hclear : s.port.notice = false := by simpa using hnotice
    exact ⟨hdiffer, hbanks.put _, hmirror.put .tileNotice nofun rfl rfl rfl rfl⟩

theorem markerFailed_items {s : State} (h : ItemsKept s) : ItemsKept (markerFailed s) := by
  unfold markerFailed
  dsimp only
  split
  · exact h
  · exact raiseNotice_items h

theorem pendLoad_items {s : State} (h : ItemsKept s) : ItemsKept (pendLoad s) := by
  unfold pendLoad
  split
  · exact h
  · exact ⟨h.1, h.2.1.put _, h.2.2.put .load nofun rfl rfl rfl rfl⟩

/-- EDGE items become pending on PRESENT edges alone (R101). -/
theorem pendEdges_items (p : Edge → Bool) {s : State} (h : ItemsKept s) : ItemsKept (pendEdges p s) := by
  obtain ⟨hdiffer, ⟨hline, hnext⟩, hedges, hport⟩ := h
  have hgrow : ∀ it, s.seam.items.has it = true → (pendEdges p s).seam.items.has it = true := by
    intro it hit
    cases it with
    | edge e =>
      have he : s.seam.items.edges.get e = true := hit
      simp [pendEdges, PendingSet.has, he]
    | _ => exact hit
  refine ⟨by simpa using hdiffer, ⟨fun c hc => hgrow _ (hline c (by simpa using hc)), fun c hc => hgrow _ (hnext c (by simpa using hc))⟩,
    fun e he => ?_, hport⟩
  simp only [pendEdges, PendingSet.has, setSeam_seam, get_build, Bool.or_eq_true, Bool.and_eq_true] at he
  exact he.elim (hedges e) And.left

theorem postEvent_items (c : Nat) (cause : Cause) {s : State} (h : ItemsKept s) : ItemsKept (postEvent c cause s) := by
  obtain ⟨hdiffer, hbanks, hmirror⟩ := id h
  unfold postEvent
  split
  · exact ⟨hdiffer, hbanks, hmirror.congr (fun _ => rfl) rfl rfl List.isEmpty_map⟩
  · split
    · dsimp only
      split
      · exact ⟨hdiffer, hbanks.put _, hmirror.put .reportHead nofun rfl rfl rfl (by simp)⟩
      · next hfilled => exact ⟨hdiffer, hbanks, hmirror.congr (fun _ => rfl) rfl rfl (by simp [Bool.not_eq_true _ ▸ hfilled])⟩
    · exact h

theorem changeEffects_items (c : Nat) (cause : Cause) {s : State} (h : ItemsKept s) : ItemsKept (changeEffects c cause s) :=
  postEvent_items c cause (by simpa using h)

theorem takeNotices_items (ds : List Nat) {s : State} (h : ItemsKept s) : ItemsKept (takeNotices ds s) := by
  have hfold : ItemsKept (ds.foldl (fun u d => takeNotice d u) s) := by
    induction ds generalizing s with
    | nil => exact h
    | cons d ds ih => exact ih (changeEffects_items _ _ (by simpa using h))
  simpa [takeNotices] using hfold

theorem changeCell_items (c : Nat) (r : CellRec) (cause : Cause) {s : State} (h : ItemsKept s) : ItemsKept (changeCell c r cause s) := by
  have heffects : ItemsKept (changeEffects c cause (setCell c r s)) := changeEffects_items _ _ (by simpa using h)
  simpa [changeCell] using heffects

theorem answer_items (source : Nat) (r : Request) (result : ReplyResult) (body : ReplyBody) {s : State} (h : ItemsKept s) :
    ItemsKept (answer source r result body s) :=
  ⟨h.1, h.2.1.put _, h.2.2.put .immediateReply nofun rfl rfl rfl rfl⟩

theorem judgeLong_items {s : State} (h : ItemsKept s) : ItemsKept (judgeLong s) := by
  unfold judgeLong
  split
  · exact h
  · split
    · exact ⟨h.1, h.2.1.put _, h.2.2.put .longReply nofun rfl rfl rfl rfl⟩
    · exact h

/-! ## Boundaries and due events -/

theorem takeBlankClear_items {s : State} (h : ItemsKept s) : ItemsKept (takeBlankClear s) := by
  unfold takeBlankClear
  split
  · exact raiseNotice_items h
  · exact h

theorem takeAnomalyNotice_items {s : State} (h : ItemsKept s) : ItemsKept (takeAnomalyNotice s) := by
  unfold takeAnomalyNotice
  split
  · exact raiseNotice_items h
  · exact h

theorem takeDark_items {s : State} (h : ItemsKept s) : ItemsKept (takeDark s) := by
  unfold takeDark
  split
  · exact raiseNotice_items h
  · exact h

theorem takeEdgeRefresh_items {s : State} (h : ItemsKept s) : ItemsKept (takeEdgeRefresh s) := by
  unfold takeEdgeRefresh
  split
  · exact pendEdges_items _ h
  · exact h

theorem takeAnnouncement_items {s : State} (h : ItemsKept s) : ItemsKept (takeAnnouncement s) := by
  unfold takeAnnouncement
  split
  · exact pendLoad_items h
  · exact h

/-- A follow-on event keeps what it keeps, within the boundary and apart. -/
theorem takeIf_keeps {P : State → Prop} (t : Taking) {f : State → State} (hf : ∀ s, P s → P (f s)) {s : State} (h : P s) :
    P (takeIf t f s) := by
  cases t with
  | within => exact hf s h
  | apart => exact h

theorem install_items {s : State} (h : ItemsKept s) : ItemsKept (install s) := by
  unfold install
  split
  · have hcompared : ItemsKept (compareEdges (swapTables s)) := by
      unfold compareEdges
      split
      · exact pendEdges_items _ h
      · exact h
    unfold startRerun
    split
    · exact hcompared
    · exact hcompared
  · exact h

theorem refreshBoundary_items (t : Taking) {s : State} (h : ItemsKept s) : ItemsKept (refreshBoundary t s) := by
  unfold refreshBoundary
  split
  · exact takeIf_keeps t (f := takeEdgeRefresh) (fun _ hu => takeEdgeRefresh_items hu) h
  · exact h

theorem governorStep_items {s : State} (h : ItemsKept s) : ItemsKept (governorStep s) := by
  by_cases hover : (governorAfter s).overFlag = s.gov.overFlag
  · rw [governorStep_of_over_kept hover]
    exact h
  · rw [governorStep_of_over_changed hover]
    exact raiseNotice_items h

theorem announceBoundary_items (t : Taking) {s : State} (h : ItemsKept s) : ItemsKept (announceBoundary t s) := by
  unfold announceBoundary
  split
  · exact takeIf_keeps t (f := takeAnnouncement) (fun _ hu => takeAnnouncement_items hu) h
  · exact h

/-! ## PRESENT edges stay PRESENT -/

theorem takeFarExpiry_present (s : State) (e : Edge) :
    ((takeFarExpiry s).conceal.far.get e).present = (s.conceal.far.get e).present := by
  simp only [takeFarExpiry, triggerIf_frame, setConceal_conceal, get_build]
  split <;> rfl

theorem ageFar_present (r : FarEdge) : (ageFar r).present = r.present := by
  unfold ageFar
  split <;> rfl

theorem farBoundary_present (t : Taking) (s : State) (e : Edge) :
    ((farBoundary t s).conceal.far.get e).present = (s.conceal.far.get e).present := by
  have haged : ((PerEdge.build (fun e => ageFar (s.conceal.far.get e))).get e).present = (s.conceal.far.get e).present := by
    rw [get_build, ageFar_present]
  cases t with
  | within => exact (takeFarExpiry_present _ e).trans haged
  | apart => exact haged

theorem renewFar_present (edge : Edge) (content : EdgeContent) (s : State) (e : Edge) :
    ((renewFar edge content s).conceal.far.get e).present = (s.conceal.far.get e).present := by
  simp only [renewFar, triggerIf_frame, setConceal_conceal, get_put]
  split
  · next he => rw [he]
  · rfl

theorem breakConceal_far (s : State) : (breakConceal s).conceal.far = PerEdge.build (fun e => invalidate (s.conceal.far.get e)) := by
  unfold breakConceal
  dsimp only
  split <;> simp

/-- Far-edge records that stay PRESENT keep the law. -/
theorem itemsKept_of_far {s t : State} (h : ItemsKept s) (hseam : t.seam = s.seam) (hport : t.port = s.port)
    (hfar : ∀ e, (t.conceal.far.get e).present = (s.conceal.far.get e).present) : ItemsKept t := by
  unfold ItemsKept
  rw [hseam, hport]
  exact ⟨h.1, h.2.1, h.2.2.congr hfar rfl rfl rfl⟩

theorem takeEdge_items (source : Nat) (body : List Byte) {s : State} (h : ItemsKept s) : ItemsKept (takeEdge source body s) := by
  unfold takeEdge
  split
  · exact h
  · split
    · exact itemsKept_of_far h (by simp) (by simp) (renewFar_present _ _ _)
    · unfold setMismatch
      split
      · exact h
      · exact raiseNotice_items h

/-! ## Composition and completion -/

theorem afterCompose_mirror (it : Item) {s : State}
    (h : ItemsMirror s.seam.items s.conceal.far s.port.long s.port.immediate s.port.notice s.port.queue) :
    ItemsMirror s.seam.items s.conceal.far (afterCompose it s).port.long (afterCompose it s).port.immediate s.port.notice
      (afterCompose it s).port.queue := by
  refine h.congr (fun _ => rfl) ?_ ?_ ?_
  · cases it <;> simp [afterCompose]
  · cases it <;> simp [afterCompose]
  · cases it with
    | reportHead => cases hq : s.port.queue <;> simp [afterCompose, hq, clearUpdated]
    | _ => simp [afterCompose]

/-- A pending item is composed into the line bank, whose frame is none or of the same item, beside a next bank of another item. -/
theorem composeLine_items {it : Item} {s : State} (hit : s.seam.items.has it = true)
    (hnext : ∀ c, s.seam.nextBank = some c → c.item ≠ it) (h : ItemsKept s) : ItemsKept (composeLine it s) := by
  obtain ⟨-, ⟨-, hbank⟩, hmirror⟩ := h
  have hported := afterCompose_mirror it hmirror
  simp only [ItemsKept, composeLine_lineBank, composeLine_frame]
  refine ⟨?_, ⟨?_, hbank⟩, hported⟩
  · rintro c d ⟨⟩ hd
    rw [frameOf_item]
    exact (hnext d hd).symm
  · rintro c ⟨⟩
    rw [frameOf_item]
    exact hit

theorem fillOne_items {s : State} (h : ItemsKept s) : ItemsKept (fillOne s) := by
  have hdiffer := fillOne_differ h.1
  obtain hsame | ⟨it, hit, -, ⟨-, hline⟩ | ⟨-, -, hnext⟩⟩ := fillOne_cases s
  · rwa [hsame]
  · rw [hline]
    exact composeLine_items (nextItem_some s it hit).2.1 (nextItem_not_held hit).2 h
  · obtain ⟨-, ⟨hbank, -⟩, hmirror⟩ := h
    have hported := afterCompose_mirror it hmirror
    rw [hnext] at hdiffer ⊢
    simp only [ItemsKept, composeNext_nextBank, composeNext_frame] at hdiffer ⊢
    refine ⟨hdiffer, ⟨hbank, ?_⟩, hported⟩
    rintro c ⟨⟩
    rw [frameOf_item]
    exact (nextItem_some s it hit).2.1

theorem giveBackIf_items (b : Bool) {s : State} (h : ItemsKept s) : ItemsKept (giveBackIf b s) := by simpa using h

theorem recompose_items {s : State} (h : ItemsKept s) : ItemsKept (recompose s) := by
  cases hc : s.seam.lineBank with
  | none => rwa [recompose_of_none hc]
  | some c =>
    unfold recompose
    rw [hc]
    have hgiven := giveBackIf_items (decide (c.item = .load)) h
    refine composeLine_items ?_ ?_ hgiven
    · simpa using h.2.1.1 c hc
    · intro d hd
      exact (h.1 c d hc (by simpa using hd)).symm

theorem enterClash_items {s : State} (h : ItemsKept s) : ItemsKept (enterClash s) := by
  unfold enterClash
  split
  · exact h
  · have hgiven := giveBackIf_items (isComposed s .load) h
    exact ⟨BanksDiffer.of_line_none _, ⟨nofun, nofun⟩, hgiven.2.2⟩

theorem abortAttempt_items {s : State} (h : ItemsKept s) : ItemsKept (abortAttempt s) := by
  unfold abortAttempt
  dsimp only
  split
  · exact recompose_items h
  · exact enterClash_items h

theorem breakWork_items {s : State} (h : ItemsKept s) : ItemsKept (breakWork s) := by
  have hgovernor : ItemsKept (breakGovernor (breakSeam s)) := by
    have hseam : ItemsKept ((breakSeam s).setGov { (breakSeam s).gov with peers := [] }) := by
      simpa [breakSeam] using h
    unfold breakGovernor
    dsimp only
    split
    · exact pendLoad_items hseam
    · exact hseam
  have hconceal : ItemsKept (breakConceal (breakGovernor (breakSeam s))) := by
    have hinvalid : ∀ b u, ItemsKept u → ItemsKept
        (triggerIf b (u.setConceal { u.conceal with far := PerEdge.build (fun e => invalidate (u.conceal.far.get e)) })) :=
      fun b u hu => itemsKept_of_far hu (by simp) (by simp) (fun e => by simp [invalidate])
    unfold breakConceal
    dsimp only
    split
    · exact pendEdges_items _ (hinvalid _ _ hgovernor)
    · exact hinvalid _ _ hgovernor
  unfold breakWork breakAttempt
  split
  · exact recompose_items hconceal
  · exact hconceal

/-- What the pending set says between the leaving of an item and its owner's part: the item is gone, the rest stands (R131). -/
theorem has_put_false (items : PendingSet) (it i : Item) : (items.put it false).has i = (!decide (it = i) && items.has i) := by
  rw [has_put]
  split
  · next h => simp [h]
  · next h => simp [Ne.symm h]

theorem ItemsMirror.removed {items : PendingSet} {far : PerEdge FarEdge} {long immediate long' immediate' : Option Reply}
    {notice notice' : Bool} {queue queue' : List Report} (h : ItemsMirror items far long immediate notice queue) (it : Item)
    (hlong : long'.isSome = (!decide (it = .longReply) && long.isSome))
    (himmediate : immediate'.isSome = (!decide (it = .immediateReply) && immediate.isSome))
    (hnotice : notice' = (!decide (it = .tileNotice) && notice))
    (hqueue : (!queue'.isEmpty) = (!decide (it = .reportHead) && !queue.isEmpty)) :
    ItemsMirror (items.put it false) far long' immediate' notice' queue' := by
  obtain ⟨hedges, hl, hi, hn, hq⟩ := h
  refine ⟨fun e he => hedges e ?_, ?_, ?_, ?_, ?_⟩
  · rw [has_put_false, Bool.and_eq_true] at he
    exact he.2
  · rw [has_put_false, hl, hlong]
  · rw [has_put_false, hi, himmediate]
  · rw [has_put_false, hn, hnotice]
  · rw [has_put_false, hq, hqueue]

/-- An item taken out and put back. -/
theorem ItemsMirror.replaced {items : PendingSet} {far : PerEdge FarEdge} {long immediate : Option Reply} {notice : Bool}
    {queue queue' : List Report} (h : ItemsMirror items far long immediate notice queue) {it : Item} (hit : items.has it = true)
    (hqueue : queue'.isEmpty = queue.isEmpty) : ItemsMirror ((items.put it false).put it true) far long immediate notice queue' := by
  have hsame : ∀ i, ((items.put it false).put it true).has i = items.has i := by
    intro i
    rw [has_put_true, has_put_false]
    by_cases hi : it = i
    · simp [← hi, hit]
    · simp [hi]
  obtain ⟨hedges, hl, hi, hn, hq⟩ := h
  exact ⟨fun e he => hedges e (by rwa [hsame] at he), (hsame _).trans hl, (hsame _).trans hi, (hsame _).trans hn,
    (hsame _).trans (hq.trans (by rw [hqueue]))⟩

/-- The banks behind a completed frame: the next bank's frame is of another item, which stays pending (R131). -/
theorem advanced_pending {c : Composed} {s : State} (hc : s.seam.lineBank = some c) (h : ItemsKept s) :
    BanksPending (s.seam.items.put c.item false) s.seam.nextBank none := by
  obtain ⟨hdiffer, ⟨-, hnext⟩, -⟩ := h
  refine ⟨fun d hd => ?_, nofun⟩
  have hne : c.item ≠ d.item := hdiffer c d hc hd
  rw [has_put_false, hnext d hd, decide_eq_false hne]
  rfl

/-- The report head leaves the queue, or stays with its item back in the set (R164). -/
theorem completeHead_items {c : Composed} {s : State} (he : c.item = .reportHead) (hdiffer : BanksDiffer s.seam.nextBank none)
    (hbanks : BanksPending (s.seam.items.put c.item false) s.seam.nextBank none) (hit : s.seam.items.has c.item = true)
    (hmirror : ItemsMirror s.seam.items s.conceal.far s.port.long s.port.immediate s.port.notice s.port.queue) :
    ItemsKept (completeHead (advanceBanks c s)) := by
  rw [he] at hbanks hit
  unfold completeHead
  split
  · next hq =>
    have hempty : s.port.queue = [] := hq
    obtain ⟨-, -, -, -, hhead⟩ := hmirror
    rw [hit, hempty] at hhead
    cases hhead
  · next r rest hq =>
    have hfull : s.port.queue.isEmpty = false := by rw [show s.port.queue = r :: rest from hq]; rfl
    split
    · refine ⟨hdiffer, ?_, ?_⟩
      · simpa [advanceBanks, pend, he] using hbanks.put .reportHead
      · simpa [advanceBanks, pend, he] using hmirror.replaced (queue' := { r with updated := false } :: rest) hit hfull.symm
    · generalize hu : refill ((advanceBanks c s).setPort { (advanceBanks c s).port with queue := rest }) = u
      have hseam : u.seam = (advanceBanks c s).seam := by rw [← hu]; simp
      have hfar : u.conceal.far = s.conceal.far := by rw [← hu]; simp
      have hlong : u.port.long = s.port.long := by rw [← hu]; simp
      have himmediate : u.port.immediate = s.port.immediate := by rw [← hu]; simp
      have hnotice : u.port.notice = s.port.notice := by rw [← hu]; simp
      unfold pendHead
      split
      · next hempty =>
        unfold ItemsKept
        rw [hseam, hfar, hlong, himmediate, hnotice]
        refine ⟨hdiffer, by simpa [advanceBanks, he] using hbanks, ?_⟩
        simpa [advanceBanks, he] using hmirror.removed .reportHead (queue' := u.port.queue) rfl rfl rfl (by simp [hempty])
      · next hleft =>
        have hleft : u.port.queue.isEmpty = s.port.queue.isEmpty := by rw [hfull]; simpa using hleft
        unfold ItemsKept pend
        rw [setSeam_seam, setSeam_conceal, setSeam_port, hseam, hfar, hlong, himmediate, hnotice]
        refine ⟨hdiffer, ?_, ?_⟩
        · simpa [advanceBanks, he] using hbanks.put .reportHead
        · simpa [advanceBanks, he] using hmirror.replaced hit hleft

/-- The owner's part of a completion restores the mirror, and may put the item back (R102, R164, R165). -/
theorem sent_items {c : Composed} {s : State} (hc : s.seam.lineBank = some c) (h : ItemsKept s) :
    ItemsKept (ownerCompletes c (advanceBanks c s)) := by
  have hbanks := advanced_pending hc h
  have hit : s.seam.items.has c.item = true := h.2.1.1 c hc
  obtain ⟨-, -, hmirror⟩ := h
  have hdiffer : BanksDiffer s.seam.nextBank none := BanksDiffer.of_next_none _
  unfold ownerCompletes
  split
  · next e he =>
    rw [he] at hbanks hit
    unfold completeEdge
    dsimp only
    split
    · refine ⟨hdiffer, ?_, ?_⟩
      · simpa [advanceBanks, pend, he] using hbanks.put (.edge e)
      · simpa [advanceBanks, pend, he] using hmirror.replaced hit rfl
    · refine ⟨hdiffer, by simpa [advanceBanks, he] using hbanks, ?_⟩
      simpa [advanceBanks, he] using hmirror.removed (.edge e) rfl rfl rfl rfl
  · next he =>
    refine ⟨hdiffer, hbanks, ?_⟩
    simpa [advanceBanks, he] using hmirror.removed .load rfl rfl rfl rfl
  · next he =>
    refine ⟨hdiffer, hbanks, ?_⟩
    simpa [advanceBanks, he] using hmirror.removed .longReply (long' := none) rfl rfl rfl rfl
  · next he =>
    refine ⟨hdiffer, hbanks, ?_⟩
    simpa [advanceBanks, he] using hmirror.removed .immediateReply (immediate' := none) rfl rfl rfl rfl
  · next he =>
    rw [he] at hbanks hit
    unfold completeNotice
    split
    · refine ⟨hdiffer, ?_, ?_⟩
      · simpa [advanceBanks, pend, he] using hbanks.put .tileNotice
      · simpa [advanceBanks, pend, he] using hmirror.replaced hit rfl
    · refine ⟨hdiffer, by simpa [advanceBanks, he] using hbanks, ?_⟩
      simpa [advanceBanks, he] using hmirror.removed .tileNotice (notice' := false) rfl rfl rfl rfl
  · next he => exact completeHead_items he hdiffer hbanks hit hmirror

theorem ItemsKept.reset (far : PerEdge FarEdge) :
    BanksDiffer Seam.reset.lineBank Seam.reset.nextBank ∧
      BanksPending Seam.reset.items Seam.reset.lineBank Seam.reset.nextBank ∧
      ItemsMirror Seam.reset.items far Port.reset.long Port.reset.immediate Port.reset.notice Port.reset.queue :=
  ⟨BanksDiffer.of_line_none _, ⟨nofun, nofun⟩, ⟨fun e he => (by cases e <;> cases he), rfl, rfl, rfl, rfl⟩⟩

theorem itemsKept_boundary : BoundaryKeeps ItemsKept where
  period := fun t _ h => takeIf_keeps t (f := takeBlankClear) (fun _ hu => takeBlankClear_items hu) h
  health := fun t _ h => takeIf_keeps t (f := takeAnomalyNotice) (fun _ hu => takeAnomalyNotice_items hu) h
  installed := fun _ => install_items
  farAged := fun t s h => itemsKept_of_far h (by simp) (by simp) (farBoundary_present t s)
  refreshed := fun t _ => refreshBoundary_items t
  driven := fun t s h => governorStep_items (by simpa using h)
  announced := fun t _ => announceBoundary_items t

theorem itemsKept_parts : StartKeeps ItemsKept where
  toBoundaryKeeps := itemsKept_boundary
  notice := fun _ => raiseNotice_items
  badMarker := fun _ => markerFailed_items
  fill := fun _ => fillOne_items
  edgeItems := fun p _ => pendEdges_items p
  loadItem := fun _ => pendLoad_items
  judge := fun _ => judgeLong_items
  accept := fun f s h => by
    have hnoticed : ItemsKept (noticeLeavingDark s) := by
      unfold noticeLeavingDark
      split
      · exact raiseNotice_items h
      · exact h
    exact hnoticed
  expire := fun t s _ h => takeDark_items (itemsKept_boundary.boundary_keeps (s := expireInterval s) t h)
  dark := fun _ => takeDark_items
  blankClear := fun _ => takeBlankClear_items
  anomaly := fun _ => takeAnomalyNotice_items
  announce := fun _ => takeAnnouncement_items
  farExpire := fun s h => itemsKept_of_far h (by simp) (by simp) (takeFarExpiry_present s)
  refresh := fun _ => takeEdgeRefresh_items
  pass := fun p mP mS s h => takeNotices_items _ h
  probed := fun d m s h => by
    unfold takeProbeResult
    split
    · exact takeNotices_items _ h
    · exact h
  lose := fun s _ h => recompose_items (s := txQuiet s) h
  abort := fun _ _ => abortAttempt_items
  broken := fun _ => breakWork_items
  sent := fun _ _ _ => sent_items
  clash := fun _ => enterClash_items
  edgeFrame := fun source body _ => takeEdge_items source body
  reply := fun source r result body _ => answer_items source r result body
  release := fun c s _ h => by
    unfold carryRelease
    split
    · exact changeCell_items _ _ _ h
    · exact h
  gain := fun c g s _ h => by
    unfold carrySetGain
    dsimp only
    split
    · exact h
    · exact changeCell_items _ _ _ h
  force := fun c st s _ h => by
    have hcleared : ItemsKept (clearTarget c st s) := by simpa using h
    unfold carryForce
    dsimp only
    split
    · exact hcleared
    · exact changeCell_items _ _ _ hcleared
  long := fun source k s h => judgeLong_items (s := s.setPort { s.port with request := some ⟨k, source, .executing⟩ }) h
  reset := fun _ _ _ => ItemsKept.reset _
  restart := fun _ _ _ => ItemsKept.reset _
  restartWrote := fun _ _ _ _ _ => ItemsKept.reset _
  restartUnwritten := fun _ _ _ _ _ => ItemsKept.reset _

/-- A start begins from RESET, where nothing is pending. -/
theorem exec_items {c : Instr} {s t : State} (hreset : ResetLaw s) (h : ItemsKept s) (he : exec c s = .next t) : ItemsKept t := by
  by_cases hstart : ∃ pins, c = .startBegin pins
  · obtain ⟨pins, rfl⟩ := hstart
    obtain ⟨-, hsame⟩ | ⟨-, -, hheld⟩ | ⟨hstate, -, hbegin⟩ := execStartBegin_cases s pins
    · exact next_inj (hsame.symm.trans he) ▸ h
    · rw [← next_inj (hheld.symm.trans he)]; simpa using h
    · rw [← next_inj (hbegin.symm.trans he), hreset.1 hstate]
      exact ItemsKept.reset _
  · exact itemsKept_parts.exec_keeps c (fun pins hc => hstart ⟨pins, hc⟩) h he

/-! ## The bus's laws -/

theorem busLaws_iff (s : State) : (BankLaw s ∧ ReportLaw s ∧ ItemLaw s) ↔ (BankKept s ∧ ReportKept s ∧ ItemsKept s) := by
  constructor
  · rintro ⟨⟨hline, hnext, hdiffer, hclash, htx, hmax, hcount, hcarried, hedges⟩, hreports, hlong, himmediate, hnotice, hhead⟩
    refine ⟨⟨hdiffer, ?_, hclash, htx, hmax, hcount, hcarried⟩, hreports, hdiffer, ⟨hline, fun c hc => (hnext c hc).1⟩, hedges,
      hlong, himmediate, hnotice, hhead⟩
    intro hsome
    obtain ⟨c, hc⟩ := Option.isSome_iff_exists.mp hsome
    exact (hnext c hc).2
  · rintro ⟨⟨hdiffer, horder, hclash, htx, hmax, hcount, hcarried⟩, hreports, -, ⟨hline, hnext⟩, hedges, hlong, himmediate, hnotice,
      hhead⟩
    exact ⟨⟨hline, fun c hc => ⟨hnext c hc, horder (by rw [hc]; rfl)⟩, hdiffer, hclash, htx, hmax, hcount, hcarried, hedges⟩, hreports,
      hlong, himmediate, hnotice, hhead⟩

end Sys2Proof.Machine

/-! ## The statement -/

section
open Sys2Proof Sys2Proof.Machine

/-- Settles O59: the three laws are one on the banks, one on the report queue and one on the pending set, each kept by every part of a
command; START_BEGIN finds nothing pending, by the law of RESET. -/
theorem busLawsAreKept : Obligations.BusLawsAreKept := by
  unfold Obligations.BusLawsAreKept
  intro s t hreset hbanks hreports hitems hstep
  obtain ⟨-, rfl⟩ | ⟨c, rest, -, hexec⟩ := step_cases hstep
  · exact ⟨hbanks, hreports, hitems⟩
  · obtain ⟨hb, hr, hi⟩ := (busLaws_iff s).mp ⟨hbanks, hreports, hitems⟩
    exact (busLaws_iff t).mpr
      ⟨exec_banks (s := { s with pending := rest }) hb hexec, exec_reports (s := { s with pending := rest }) hr hexec,
        exec_items (s := { s with pending := rest }) (resetLaw_of_queue hreset rest) hi hexec⟩

end
end
section
/-! PROOF. RESET does no work (R167): what each command does to a tile that stands as its reset left it, and what the commands outside
RESET leave of the Supervisor and of the link. -/

namespace Sys2Proof.Machine

/-! ## A tile in RESET -/

/-- What a tile that stands as its reset left it holds. -/
theorem pristine_blocks {u : State} (h : u = pristine u) :
    u.sup.state = .reset ∧ u.rx = PixelRx.reset ∧ u.scan = Scan.reset ∧ u.health = HealthMon.reset ∧ u.conceal = Conceal.reset ∧
      u.gov = Governor.reset ∧ u.seam = Seam.reset ∧ u.port = Port.reset ∧ u.store.state = .idle ∧ u.store.inFlight = none := by
  rw [h]
  exact ⟨rfl, rfl, rfl, rfl, rfl, rfl, rfl, rfl, rfl, rfl⟩

/-- A receiver that does not hear takes no frame (R125). -/
theorem hearFrame_deaf (ok : Bool) (source : Nat) (target : Byte) (hand : State → State) {s : State} (h : hearing s = false) :
    hearFrame ok source target hand s = s := by
  unfold hearFrame
  rw [if_neg (by simp [h])]

theorem frameBroken_deaf {s : State} (h : hearing s = false) : frameBroken s = s := by
  unfold frameBroken
  rw [if_neg (by simp [h])]

theorem seamFrameEnd_deaf (line : List LineRun) {s : State} (h : hearing s = false) : execSeamFrameEnd line s = .next s := by
  obtain ⟨-, hown⟩ | ⟨-, -, hbroken⟩ | ⟨bytes, -, -, hheard⟩ := execSeamFrameEnd_cases s line
  · rw [hown, hearFrame_deaf _ _ _ _ h]
  · rw [hbroken, frameBroken_deaf h]
  · rw [hheard]
    unfold endHeard
    split <;> rw [hearFrame_deaf _ _ _ _ h]

/-- Nothing is composed where nothing is pending (R133). -/
theorem fillOne_of_empty {s : State} (h : s.seam.items = PendingSet.empty) : fillOne s = s := by
  obtain hsame | ⟨it, hit, -, -⟩ := fillOne_cases s
  · exact hsame
  · have hnone : PendingSet.empty.has it = false := by cases it with
      | edge e => cases e <;> rfl
      | _ => rfl
    have hpending := (nextItem_some s it hit).2.1
    rw [h, hnone] at hpending
    cases hpending

theorem fillBanks_of_empty {s : State} (h : s.seam.items = PendingSet.empty) : fillBanks s = s := by
  unfold fillBanks
  rw [fillOne_of_empty h, fillOne_of_empty h]

theorem judgeLong_of_none {s : State} (h : s.port.request = none) : judgeLong s = s := by
  unfold judgeLong
  rw [h]

theorem beginWrite_of_not_running {s : State} (h : s.sup.state ≠ .running) : beginWrite s = s := by
  unfold beginWrite
  rw [if_neg]
  simp [writeMayBegin, isRunning, h]

/-- A supply event in RESET changes the supply's own state alone (R173). -/
theorem supplyLow_in_reset {u t : State} (h : u = pristine u) (he : execSupplyLow u = .next t) :
    ∃ supply held, t = u.setSup { u.sup with supply := supply, supplyHeld := held } := by
  obtain ⟨-, -, -, -, -, -, hseam, hport, -, -⟩ := pristine_blocks h
  unfold execSupplyLow at he
  split at he
  · rw [judgeLong_of_none (by simp [hport, Port.reset]), fillBanks_of_empty (by simp [hseam, Seam.reset])] at he
    exact ⟨.low, u.sup.supplyHeld, (next_inj he).symm⟩
  · exact ⟨u.sup.supply, u.sup.supplyHeld, (next_inj he).symm⟩

theorem supplyOk_in_reset {u t : State} (h : u = pristine u) (he : execSupplyOk u = .next t) :
    ∃ supply held, t = u.setSup { u.sup with supply := supply, supplyHeld := held } := by
  obtain ⟨hstate, -, -, -, -, -, hseam, -, -, -⟩ := pristine_blocks h
  unfold execSupplyOk at he
  split at he
  · unfold settle at he
    rw [beginWrite_of_not_running (by simp [hstate]), fillBanks_of_empty (by simp [hseam, Seam.reset])] at he
    exact ⟨.ok, false, (next_inj he).symm⟩
  · exact ⟨u.sup.supply, u.sup.supplyHeld, (next_inj he).symm⟩

/-- Where no record has expired, FAR_EDGE_EXPIRY does nothing. -/
theorem takeFarExpiry_of_none {s : State} (hnone : ∀ e, farExpired (s.conceal.far.get e) = false) : takeFarExpiry s = s := by
  have hfar : PerEdge.build (fun e => if farExpired (s.conceal.far.get e) then { s.conceal.far.get e with valid := false }
      else s.conceal.far.get e) = s.conceal.far := by
    simp only [hnone, Bool.false_eq_true, if_false]
    rfl
  unfold takeFarExpiry
  dsimp only
  rw [hfar, show allEdges.any (fun e => farExpired (s.conceal.far.get e)) = false by simp [hnone]]
  rfl

theorem takeFarExpiry_of_invalid {s : State} (h : ∀ e, (s.conceal.far.get e).valid = false) : takeFarExpiry s = s :=
  takeFarExpiry_of_none fun e => by simp [farExpired, h e]

theorem takePeerExpiry_of_empty {s : State} (h : s.gov.peers = []) : takePeerExpiry s = s := by
  unfold takePeerExpiry
  rw [h, List.filter_nil, ← h]
  rfl

/-- The resets of the tile but for the RESTART's (R167). -/
def ResetEvent (c : Instr) : Prop := c = .powerOn ∨ c = .supplyFail ∨ ∃ us, c = .pinReset us ∧ 10 ≤ us

/-- What a command can do to a tile that stands as its reset left it. -/
theorem exec_in_reset {c : Instr} {u t : State} (h : u = pristine u) (he : exec c u = .next t) :
    t = u ∨ (∃ supply held, t = u.setSup { u.sup with supply := supply, supplyHeld := held }) ∨
      (ResetEvent c ∧ ∃ cause, t = resetTile cause u) ∨
      ∃ pins, c = .startBegin pins ∧
        (t = seePins pins u ∨ (heldInReset (seePins pins u) = false ∧ t = beginStart pins (seePins pins u))) := by
  obtain ⟨hstate, hrx, hscan, hhealth, hconceal, hgov, hseam, hport, hstore, hjob⟩ := pristine_blocks h
  have hdeaf : hearing u = false := by simp [hearing, hseam, Seam.reset]
  have hframe : ∀ ok source target hand, hearFrame ok source target hand u = u := fun ok source target hand =>
    hearFrame_deaf ok source target hand hdeaf
  have hpos : u.scan.position = .idle := by rw [hscan]; rfl
  have htx : u.seam.tx = .quiet := by rw [hseam]; rfl
  have hsame : ∀ a : Answer, a = .next u → a = .next t → t = u := fun a h1 h2 => (next_inj (h1.symm.trans h2)).symm
  cases c with
  | powerOn => exact .inr (.inr (.inl ⟨.inl rfl, .powerOn, (next_inj he).symm⟩))
  | supplyFail => exact .inr (.inr (.inl ⟨.inr (.inl rfl), .supply, (next_inj he).symm⟩))
  | pinReset us =>
    have he : execPinReset us u = .next t := he
    unfold execPinReset at he
    split at he
    · exact .inl (next_inj he).symm
    · next hlong => exact .inr (.inr (.inl ⟨.inr (.inr ⟨us, rfl, Nat.not_lt.mp hlong⟩), .pin, (next_inj he).symm⟩))
  | startBegin pins =>
    obtain ⟨hne, -⟩ | ⟨-, -, hheld⟩ | ⟨-, hfree, hbegin⟩ := execStartBegin_cases u pins
    · exact absurd hstate hne
    · exact .inr (.inr (.inr ⟨pins, rfl, .inl (next_inj (hheld.symm.trans he)).symm⟩))
    · exact .inr (.inr (.inr ⟨pins, rfl, .inr ⟨hfree, (next_inj (hbegin.symm.trans he)).symm⟩⟩))
  | supplyLow => exact .inr (.inl (supplyLow_in_reset h he))
  | supplyOk => exact .inr (.inl (supplyOk_in_reset h he))
  | peerEntryExpiry =>
    exact .inl ((next_inj he).symm.trans (takePeerExpiry_of_empty (by rw [hgov]; rfl)))
  | farEdgeExpiry =>
    exact .inl ((next_inj he).symm.trans (takeFarExpiry_of_invalid (by rw [hconceal]; intro e; cases e <;> rfl)))
  | seamFrameEnd line => exact .inl (hsame _ (seamFrameEnd_deaf line hdeaf) he)
  | framingError => exact .inl (hsame _ (congrArg _ (frameBroken_deaf hdeaf)) he)
  | edgeNotice source target body => exact .inl (hsame _ (congrArg _ (hframe _ _ _ _)) he)
  | loadFrame source target body => exact .inl (hsame _ (congrArg _ (hframe _ _ _ _)) he)
  | status source target => exact .inl (hsame _ (congrArg _ (hframe _ _ _ _)) he)
  | readCell source target cell => exact .inl (hsame _ (congrArg _ (hframe _ _ _ _)) he)
  | listFaults source target start => exact .inl (hsame _ (congrArg _ (hframe _ _ _ _)) he)
  | force source target cell code clear => exact .inl (hsame _ (congrArg _ (hframe _ _ _ _)) he)
  | release source target cell => exact .inl (hsame _ (congrArg _ (hframe _ _ _ _)) he)
  | setGain source target cell mode code => exact .inl (hsame _ (congrArg _ (hframe _ _ _ _)) he)
  | probe source target cell => exact .inl (hsame _ (congrArg _ (hframe _ _ _ _)) he)
  | setConceal source target k => exact .inl (hsame _ (congrArg _ (hframe _ _ _ _)) he)
  | setLimit source target limit => exact .inl (hsame _ (congrArg _ (hframe _ _ _ _)) he)
  | commit source target => exact .inl (hsame _ (congrArg _ (hframe _ _ _ _)) he)
  | restart source target => exact .inl (hsame _ (congrArg _ (hframe _ _ _ _)) he)
  | loadComplete => exact .inl (hsame _ (by simp [exec, execLoadComplete, hstate]) he)
  | chainCheckComplete p q => exact .inl (hsame _ (by simp [exec, execChainCheckComplete, hstate]) he)
  | readyLineHigh us => exact .inl (hsame _ (by simp [exec, execReadyLineHigh, hstate]) he)
  | readyTimeout => exact .inl (hsame _ (by simp [exec, execReadyTimeout, hstate]) he)
  | recordEnd link tk => exact .inl (hsame _ (by simp [exec, execRecordEnd, hrx, PixelRx.reset]) he)
  | intervalTimerExpiry tk => exact .inl (hsame _ (by simp [exec, execIntervalTimerExpiry, hrx, PixelRx.reset]) he)
  | darkEntry => exact .inl (hsame _ (by simp [exec, execDarkEntry, darkDue, hrx, PixelRx.reset]) he)
  | shiftComplete p q => exact .inl (hsame _ (by simp [exec, execShiftComplete, hpos]) he)
  | blankFlagClear => exact .inl (hsame _ (by simp [exec, execBlankFlagClear, blankClearDue, hscan, Scan.reset]) he)
  | observeEnd mP mS => exact .inl (hsame _ (by simp [exec, execObserveEnd, hpos]) he)
  | refreshPositionEnd => exact .inl (hsame _ (by simp [exec, execRefreshPositionEnd, hpos]) he)
  | probeEnd m => exact .inl (hsame _ (by simp [exec, execProbeEnd, hpos]) he)
  | anomalyRunNotice => exact .inl (hsame _ (by simp [exec, execAnomalyRunNotice, hhealth, HealthMon.reset]) he)
  | rebuildComplete => exact .inl (hsame _ (by simp [exec, execRebuildComplete, hconceal, Conceal.reset]) he)
  | announcementDue => exact .inl (hsame _ (by simp [exec, execAnnouncementDue, announcementDue, isRunning, hstate]) he)
  | edgeRefresh => exact .inl (hsame _ (by simp [exec, execEdgeRefresh, refreshDue, isRunning, hstate]) he)
  | lineIdle us => exact .inl (hsame _ (by simp [exec, execLineIdle, hseam, Seam.reset]) he)
  | breakSeen us => exact .inl (hsame _ (by simp [exec, execBreakSeen, hseam, Seam.reset]) he)
  | contentionStart ns => exact .inl (hsame _ (by simp [exec, execContentionStart, edgeSeen, hseam, Seam.reset]) he)
  | arbitrationLoss => exact .inl (hsame _ (by simp [exec, execArbitrationLoss, htx]) he)
  | arbitrationWon => exact .inl (hsame _ (by simp [exec, execArbitrationWon, htx]) he)
  | readbackAbort => exact .inl (hsame _ (by simp [exec, execReadbackAbort, htx]) he)
  | frameComplete pins => exact .inl (hsame _ (by simp [exec, execFrameComplete, htx]) he)
  | restartWaitExpiry pins => exact .inl (hsame _ (by simp [exec, execRestartWaitExpiry, restartReplying, hport, Port.reset]) he)
  | writeComplete pins => exact .inl (hsame _ (by simp [exec, execWriteComplete, hstore]) he)
  | writeTimeout pins => exact .inl (hsame _ (by simp [exec, execWriteTimeout, hstore]) he)

/-! ## A tile outside RESET -/

/-- What a command can do outside RESET: it keeps what the parts of the work, the Supervisor's moves, the load and FORCE keep, or it
resets the tile. -/
theorem exec_outside_reset {c : Instr} {u t : State} (hstate : u.sup.state ≠ .reset) (he : exec c u = .next t) :
    (∀ P : State → Prop, LoadKeeps P → P u → P t) ∨ (ResetEvent c ∧ ∃ cause, t = resetTile cause u) ∨
      ∃ pins v, (c = .frameComplete pins ∨ c = .restartWaitExpiry pins ∨ c = .writeComplete pins ∨ c = .writeTimeout pins) ∧
        v.sup = u.sup ∧ t = beginStart pins (resetTile .restart v) := by
  have hor : ∀ (pins : Pins),
      (c = .frameComplete pins ∨ c = .restartWaitExpiry pins ∨ c = .writeComplete pins ∨ c = .writeTimeout pins) →
      (∀ P : State → Prop, LoadKeeps P → P u → P t ∨ ∃ v, v.sup = u.sup ∧ t = beginStart pins (resetTile .restart v)) →
      (∀ P : State → Prop, LoadKeeps P → P u → P t) ∨ (ResetEvent c ∧ ∃ cause, t = resetTile cause u) ∨
        ∃ pins v, (c = .frameComplete pins ∨ c = .restartWaitExpiry pins ∨ c = .writeComplete pins ∨ c = .writeTimeout pins) ∧
          v.sup = u.sup ∧ t = beginStart pins (resetTile .restart v) := by
    intro pins hc hkeeps
    by_cases hrestarts : ∃ v, v.sup = u.sup ∧ t = beginStart pins (resetTile .restart v)
    · obtain ⟨v, hv, ht⟩ := hrestarts
      exact .inr (.inr ⟨pins, v, hc, hv, ht⟩)
    · exact .inl fun P k hP => (hkeeps P k hP).resolve_right hrestarts
  cases c with
  | powerOn => exact .inr (.inl ⟨.inl rfl, .powerOn, (next_inj he).symm⟩)
  | supplyFail => exact .inr (.inl ⟨.inr (.inl rfl), .supply, (next_inj he).symm⟩)
  | pinReset us =>
    have he : execPinReset us u = .next t := he
    unfold execPinReset at he
    split at he
    · exact .inl fun P _ hP => next_inj he ▸ hP
    · next hlong => exact .inr (.inl ⟨.inr (.inr ⟨us, rfl, Nat.not_lt.mp hlong⟩), .pin, (next_inj he).symm⟩)
  | startBegin pins =>
    obtain ⟨-, hsame⟩ | ⟨hreset, -, -⟩ | ⟨hreset, -, -⟩ := execStartBegin_cases u pins
    · exact .inl fun P _ hP => next_inj (hsame.symm.trans he) ▸ hP
    · exact absurd hreset hstate
    · exact absurd hreset hstate
  | frameComplete pins => exact hor pins (.inl rfl) fun P k hP => k.frameComplete_keeps_or_restarts pins hP he
  | restartWaitExpiry pins => exact hor pins (.inr (.inl rfl)) fun P k hP => k.restartWaitExpiry_keeps_or_restarts pins hP he
  | writeComplete pins => exact hor pins (.inr (.inr (.inl rfl))) fun P k hP => k.writeComplete_keeps_or_restarts pins hP he
  | writeTimeout pins => exact hor pins (.inr (.inr (.inr rfl))) fun P k hP => k.writeTimeout_keeps_or_restarts pins hP he
  | loadComplete => exact .inl fun P k hP => k.loadComplete_keeps hP he
  | seamFrameEnd line => exact .inl fun P k hP => k.seamFrameEnd_keeps line hP he
  | force source target f code clear => exact .inl fun P k hP => k.force_keeps source target f code clear hP he
  | _ => exact .inl fun P k hP => k.toMoveKeeps.exec_keeps _ rfl (fun _ hc => by cases hc) hP he

/-! ## What stays -/

/-- Neither condition of R167 stands, and the tile is not in RESET. -/
@[simp] def Released (s : State) : Prop := s.sup.state ≠ .reset ∧ s.sup.pinAsserted = false ∧ s.sup.supplyHeld = false

theorem released_parts : LoadKeeps Released where
  readyWait := fun _ _ _ h => ⟨nofun, h.2⟩
  run := fun _ _ _ h => ⟨nofun, h.2⟩
  low := fun _ h => h
  ok := fun _ h => ⟨h.1, h.2.1, rfl⟩
  loaded := fun _ _ h => by simpa [completeLoad] using h.2

@[simp] def Works (f : Findings) (s : State) : Prop := s.sup.state = .running ∧ s.sup.findings = f

theorem works_parts (f : Findings) : LoadKeeps (Works f) where
  readyWait := by
    rintro b s hstate ⟨hrunning, -⟩
    rw [hstate] at hrunning
    cases hrunning
  run := by
    rintro b s hstate ⟨hrunning, -⟩
    rw [hstate] at hrunning
    cases hrunning
  loaded := by
    rintro s hstate ⟨hrunning, -⟩
    rw [hstate] at hrunning
    cases hrunning

@[simp] def HasCause (cause : ResetCause) (straps : Straps) (s : State) : Prop := s.sup.cause = cause ∧ s.sup.straps = straps

theorem hasCause_parts (cause : ResetCause) (straps : Straps) : LoadKeeps (HasCause cause straps) where

@[simp] def LinkFound (s : State) : Prop := s.rx.link ≠ .search

theorem linkFound_parts : LoadKeeps LinkFound where
  accept := fun f s _ => by simp [acceptFrame]
  expire := fun t s _ h => by
    simp only [LinkFound, takeDark_rx, boundary_frame] at h ⊢
    have hexpired : (expireInterval s).rx.link ≠ .search := by
      rw [show (expireInterval s).rx.link = (expireLink s.rx).link from rfl, expireLink_link]
      split
      · exact nofun
      · exact h
    unfold darkened
    split
    · exact nofun
    · exact hexpired
  dark := fun s h => by
    simp only [LinkFound, takeDark_rx] at h ⊢
    unfold darkened
    split
    · exact nofun
    · exact h

/-! ## The law of RESET -/

theorem resetLaw_of_released {s : State} (h : Released s) : ResetLaw s := ⟨fun hstate => absurd hstate h.1, fun _ => h.2⟩

theorem resetLaw_of_pristine {s : State} (h : s = pristine s) : ResetLaw s :=
  ⟨fun _ => h, fun hstate => absurd (pristine_blocks h).1 hstate⟩

theorem resetTile_pristine (cause : ResetCause) (s : State) : resetTile cause s = pristine (resetTile cause s) := rfl

/-- A start that begins, begins released. -/
theorem beginStart_released (pins : Pins) {s : State} (hpin : s.sup.pinAsserted = false) (hheld : s.sup.supplyHeld = false) :
    Released (beginStart pins s) :=
  ⟨nofun, hpin, hheld⟩

theorem setSup_pristine {u : State} (h : u = pristine u) (supply : SupplyState) (pin held : Bool) :
    u.setSup { u.sup with supply := supply, pinAsserted := pin, supplyHeld := held } =
      pristine (u.setSup { u.sup with supply := supply, pinAsserted := pin, supplyHeld := held }) := by
  rw [h]
  rfl

/-- The clauses on a command: what it may change of the Supervisor and of the link, and by which event. -/
def SupKept (c : Instr) (s t : State) : Prop :=
  (s.sup.state = .reset → t.sup.state ≠ .reset → ∃ pins, c = .startBegin pins) ∧
    (s.sup.state = .running → t.sup.state = .running ∨ ResetTaken c t) ∧
    (t.rx.link = .search → s.rx.link = .search ∨ ResetTaken c t) ∧ (t.sup.cause = s.sup.cause ∨ ResetTaken c t) ∧
    (t.sup.straps = s.sup.straps ∨ ResetTaken c t ∨ (s.sup.state = .reset ∧ ∃ pins, c = .startBegin pins)) ∧
    (s.sup.state = .running → t.sup.findings = s.sup.findings ∨ ResetTaken c t)

theorem SupKept.of_reset {c : Instr} {s t : State} (hs : s.sup.state = .reset → t.sup.state = .reset) (h : ResetTaken c t) :
    SupKept c s t :=
  ⟨fun hstate hne => absurd (hs hstate) hne, fun _ => .inr h, fun _ => .inr h, .inr h, .inr (.inl h), fun _ => .inr h⟩

theorem exec_reset_in_reset {c : Instr} {u t : State} (h : u = pristine u) (he : exec c u = .next t) : ResetLaw t ∧ SupKept c u t := by
  have hstate := (pristine_blocks h).1
  have hrunning : u.sup.state = .running → False := fun hr => by rw [hstate] at hr; cases hr
  obtain rfl | ⟨supply, held, rfl⟩ | ⟨hevent, cause, rfl⟩ | ⟨pins, rfl, rfl | ⟨hfree, rfl⟩⟩ := exec_in_reset h he
  · exact ⟨resetLaw_of_pristine h, fun hs hne => absurd hs hne, fun hr => (hrunning hr).elim, .inl, .inl rfl, .inl rfl,
      fun hr => (hrunning hr).elim⟩
  · exact ⟨resetLaw_of_pristine (setSup_pristine h supply u.sup.pinAsserted held), fun hs hne => absurd hs hne,
      fun hr => (hrunning hr).elim, .inl, .inl rfl, .inl rfl, fun hr => (hrunning hr).elim⟩
  · exact ⟨resetLaw_of_pristine (resetTile_pristine cause u), SupKept.of_reset (fun _ => rfl) (.inl ⟨rfl, hevent⟩)⟩
  · exact ⟨resetLaw_of_pristine (setSup_pristine h u.sup.supply pins.resetPin _), fun hs hne => absurd hs hne,
      fun hr => (hrunning hr).elim, .inl, .inl rfl, .inl rfl, fun hr => (hrunning hr).elim⟩
  · simp only [heldInReset, Bool.or_eq_false_iff] at hfree
    exact ⟨resetLaw_of_released (beginStart_released pins hfree.1 hfree.2), fun _ _ => ⟨pins, rfl⟩, fun hr => (hrunning hr).elim, .inl,
      .inl rfl, .inr (.inr ⟨hstate, pins, rfl⟩), fun hr => (hrunning hr).elim⟩

theorem exec_reset_outside {c : Instr} {u t : State} (h : Released u) (he : exec c u = .next t) : ResetLaw t ∧ SupKept c u t := by
  obtain hkeeps | ⟨hevent, cause, rfl⟩ | ⟨pins, v, hc, hv, rfl⟩ := exec_outside_reset h.1 he
  · have hworks : u.sup.state = .running → Works u.sup.findings t := fun hr => hkeeps _ (works_parts _) ⟨hr, rfl⟩
    have hcause : HasCause u.sup.cause u.sup.straps t := hkeeps _ (hasCause_parts _ _) ⟨rfl, rfl⟩
    refine ⟨resetLaw_of_released (hkeeps _ released_parts h), fun hs => absurd hs h.1, fun hr => .inl (hworks hr).1, fun hsearch => .inl ?_,
      .inl hcause.1, .inl hcause.2, fun hr => .inl (hworks hr).2⟩
    by_contra hfound
    exact hkeeps _ linkFound_parts hfound hsearch
  · exact ⟨resetLaw_of_pristine (resetTile_pristine cause u), SupKept.of_reset (fun _ => rfl) (.inl ⟨rfl, hevent⟩)⟩
  · have hpin : (resetTile .restart v).sup.pinAsserted = false := (congrArg Supervisor.pinAsserted hv).trans h.2.1
    have hheld : (resetTile .restart v).sup.supplyHeld = false := (congrArg Supervisor.supplyHeld hv).trans h.2.2
    exact ⟨resetLaw_of_released (beginStart_released pins hpin hheld),
      SupKept.of_reset (fun hs => absurd hs h.1) (.inr ⟨rfl, rfl, pins, hc⟩)⟩

end Sys2Proof.Machine

/-! ## The statement -/

section
open Sys2Proof Sys2Proof.Machine

/-- Settles O55: in RESET the state is known but for what the pins and the store say, and each command is run on it; outside RESET a
command resets the tile, or keeps the Supervisor's fields and the link by its parts. -/
theorem resetTileDoesNoWork : Obligations.ResetTileDoesNoWork := by
  unfold Obligations.ResetTileDoesNoWork
  intro s t hlaw hstep
  obtain ⟨hnil, rfl⟩ | ⟨c, rest, hcons, hexec⟩ := step_cases hstep
  · refine ⟨hlaw, fun c rest hcons => ?_⟩
    rw [hnil] at hcons
    cases hcons
  · have hlaw' : ResetLaw { s with pending := rest } := resetLaw_of_queue hlaw rest
    have hall : ResetLaw t ∧ SupKept c { s with pending := rest } t := by
      by_cases hstate : s.sup.state = .reset
      · exact exec_reset_in_reset (hlaw'.1 hstate) hexec
      · exact exec_reset_outside ⟨hstate, hlaw'.2 hstate⟩ hexec
    refine ⟨hall.1, fun c' rest' hcons' => ?_⟩
    rw [hcons] at hcons'
    cases hcons'
    exact hall.2

end
end
section
/-! PROOF. Laws of every command: it answers a next state, keeps the queue and the factory region, and takes no cell back (R57, R139). -/

namespace Sys2Proof.Machine

/-! ## Every command answers a next state -/

/-- No arm stops the tile. -/
theorem exec_next (c : Instr) (s : State) : ∃ t, exec c s = .next t := by
  have hstop : ∀ a : Answer, (∀ r, a ≠ .refused r) → ∃ t, a = .next t := by
    intro a ha
    cases a with
    | next t => exact ⟨t, rfl⟩
    | fault f => cases f
    | refused r => exact absurd rfl (ha r)
  refine hstop _ fun r => ?_
  cases c with
  | pinReset us => exact (by unfold execPinReset; split <;> exact nofun : execPinReset us s ≠ .refused r)
  | startBegin pins =>
    obtain ⟨-, h⟩ | ⟨-, -, h⟩ | ⟨-, -, h⟩ := execStartBegin_cases s pins <;> exact fun he => nomatch h.symm.trans he
  | loadComplete => exact (by unfold execLoadComplete; split <;> exact nofun : execLoadComplete s ≠ .refused r)
  | chainCheckComplete p q =>
    exact (by unfold execChainCheckComplete; (repeat' split) <;> exact nofun : execChainCheckComplete p q s ≠ .refused r)
  | readyLineHigh us => exact (by unfold execReadyLineHigh; (repeat' split) <;> exact nofun : execReadyLineHigh us s ≠ .refused r)
  | readyTimeout => exact (by unfold execReadyTimeout; (repeat' split) <;> exact nofun : execReadyTimeout s ≠ .refused r)
  | supplyLow => exact (by unfold execSupplyLow; split <;> exact nofun : execSupplyLow s ≠ .refused r)
  | supplyOk => exact (by unfold execSupplyOk; split <;> exact nofun : execSupplyOk s ≠ .refused r)
  | recordEnd link tk => exact (by unfold execRecordEnd; split <;> exact nofun : execRecordEnd link tk s ≠ .refused r)
  | intervalTimerExpiry tk =>
    exact (by unfold execIntervalTimerExpiry; split <;> exact nofun : execIntervalTimerExpiry tk s ≠ .refused r)
  | darkEntry => exact (by unfold execDarkEntry; split <;> exact nofun : execDarkEntry s ≠ .refused r)
  | shiftComplete p q => exact (by unfold execShiftComplete; (repeat' split) <;> exact nofun : execShiftComplete p q s ≠ .refused r)
  | blankFlagClear => exact (by unfold execBlankFlagClear; split <;> exact nofun : execBlankFlagClear s ≠ .refused r)
  | observeEnd mP mS => exact (by unfold execObserveEnd; (repeat' split) <;> exact nofun : execObserveEnd mP mS s ≠ .refused r)
  | refreshPositionEnd => exact (by unfold execRefreshPositionEnd; split <;> exact nofun : execRefreshPositionEnd s ≠ .refused r)
  | probeEnd m => exact (by unfold execProbeEnd; (repeat' split) <;> exact nofun : execProbeEnd m s ≠ .refused r)
  | anomalyRunNotice => exact (by unfold execAnomalyRunNotice; split <;> exact nofun : execAnomalyRunNotice s ≠ .refused r)
  | rebuildComplete => exact (by unfold execRebuildComplete; split <;> exact nofun : execRebuildComplete s ≠ .refused r)
  | announcementDue => exact (by unfold execAnnouncementDue; split <;> exact nofun : execAnnouncementDue s ≠ .refused r)
  | edgeRefresh => exact (by unfold execEdgeRefresh; split <;> exact nofun : execEdgeRefresh s ≠ .refused r)
  | lineIdle us => exact (by unfold execLineIdle; (repeat' split) <;> exact nofun : execLineIdle us s ≠ .refused r)
  | seamFrameEnd line =>
    obtain ⟨-, h⟩ | ⟨-, -, h⟩ | ⟨_, -, -, h⟩ := execSeamFrameEnd_cases s line <;> exact fun he => nomatch h.symm.trans he
  | breakSeen us => exact (by unfold execBreakSeen; split <;> exact nofun : execBreakSeen us s ≠ .refused r)
  | contentionStart ns => exact (by unfold execContentionStart; split <;> exact nofun : execContentionStart s ns ≠ .refused r)
  | arbitrationLoss => exact (by unfold execArbitrationLoss; split <;> exact nofun : execArbitrationLoss s ≠ .refused r)
  | arbitrationWon => exact (by unfold execArbitrationWon; split <;> exact nofun : execArbitrationWon s ≠ .refused r)
  | readbackAbort => exact (by unfold execReadbackAbort; split <;> exact nofun : execReadbackAbort s ≠ .refused r)
  | frameComplete pins =>
    exact (by unfold execFrameComplete; (repeat' split) <;> exact nofun : execFrameComplete pins s ≠ .refused r)
  | restartWaitExpiry pins =>
    exact (by unfold execRestartWaitExpiry; split <;> exact nofun : execRestartWaitExpiry pins s ≠ .refused r)
  | writeComplete pins =>
    exact (by unfold execWriteComplete; dsimp only; (repeat' split) <;> exact nofun : execWriteComplete pins s ≠ .refused r)
  | writeTimeout pins =>
    exact (by unfold execWriteTimeout; dsimp only; (repeat' split) <;> exact nofun : execWriteTimeout pins s ≠ .refused r)
  | _ => exact nofun

/-! ## The queue and the factory region (R139) -/

/-- The queue and the factory region are those of `s`. -/
@[simp] def KeepsFactory (s t : State) : Prop :=
  t.pending = s.pending ∧ t.store.factory = s.store.factory ∧ t.store.factoryCheckHi = s.store.factoryCheckHi ∧
    t.store.factoryCheckLo = s.store.factoryCheckLo

theorem cutWrite_factory (st : Store) :
    (cutWrite st).factory = st.factory ∧ (cutWrite st).factoryCheckHi = st.factoryCheckHi ∧
      (cutWrite st).factoryCheckLo = st.factoryCheckLo := by
  unfold cutWrite
  split <;> exact ⟨rfl, rfl, rfl⟩

/-- A reset keeps the factory region (R154). -/
@[simp] theorem resetStore_factory (cause : ResetCause) (st : Store) :
    (resetStore cause st).factory = st.factory ∧ (resetStore cause st).factoryCheckHi = st.factoryCheckHi ∧
      (resetStore cause st).factoryCheckLo = st.factoryCheckLo := by
  unfold resetStore
  dsimp only
  split
  · exact ⟨rfl, rfl, rfl⟩
  · exact cutWrite_factory st

theorem keepsFactory_parts (s : State) : StartKeeps (KeepsFactory s) where

theorem exec_keepsFactory {c : Instr} {s t : State} (he : exec c s = .next t) : KeepsFactory s t := by
  by_cases hstart : ∃ pins, c = .startBegin pins
  · obtain ⟨pins, rfl⟩ := hstart
    obtain ⟨-, hsame⟩ | ⟨-, -, hheld⟩ | ⟨-, -, hbegin⟩ := execStartBegin_cases s pins
    · rw [← next_inj (hsame.symm.trans he)]; exact ⟨rfl, rfl, rfl, rfl⟩
    · rw [← next_inj (hheld.symm.trans he)]; simp
    · rw [← next_inj (hbegin.symm.trans he)]; simp
  · exact (keepsFactory_parts s).exec_keeps c (fun pins hc => hstart ⟨pins, hc⟩) ⟨rfl, rfl, rfl, rfl⟩ he

/-! ## The one-way map (R57) -/

theorem rank_eq_code (st : CellState) : st.rank = st.code := by cases st <;> rfl

theorem rank_transition (st : CellState) (p q : Bool) : st.rank ≤ (transition st p q).rank := by
  rw [rank_eq_code, rank_eq_code]
  exact transition_forward st p q

/-- No cell of `t` stands earlier in the order than in `m`. -/
structure NoneReturned (m cells : Vector CellRec Config.cellCount) : Prop where
  rank : ∀ x, (tget m x CellRec.fresh).state.rank ≤ (tget cells x CellRec.fresh).state.rank

/-- A cell that moves on by itself, and no other, keeps the order. -/
theorem NoneReturned.cell {m : Vector CellRec Config.cellCount} {s t : State} (h : NoneReturned m s.map.cells)
    (hcell : ∀ x, (cellAt s x).state.rank ≤ (cellAt t x).state.rank) : NoneReturned m t.map.cells :=
  ⟨fun x => (h.rank x).trans (hcell x)⟩

theorem rank_transitioned (s : State) (c : Nat) : (cellAt s c).state.rank ≤ (transitioned s c).state.rank := by
  unfold transitioned
  dsimp only
  split
  · exact le_rfl
  · exact rank_transition _ _ _

theorem takeNotices_rank (ds : List Nat) {s t : State} (hcells : t.map.cells = s.map.cells) (x : Nat) :
    (cellAt s x).state.rank ≤ (cellAt (takeNotices ds t) x).state.rank := by
  have hsame : cellAt s x = cellAt t x := by rw [cellAt, cellAt, hcells]
  rw [hsame, cellAt_takeNotices]
  split
  · exact rank_transitioned t x
  · exact Nat.le_refl _

theorem cellAt_changeCell (s : State) (c : Nat) (r : CellRec) (cause : Cause) (x : Nat) :
    cellAt (changeCell c r cause s) x = if c = x ∧ c < Config.cellCount then r else cellAt s x := by
  rw [cellAt, changeCell_cells, tget_tset, cellAt]

theorem changeCell_rank {s : State} {c : Nat} {r : CellRec} (cause : Cause) (hr : (cellAt s c).state.rank ≤ r.state.rank) (x : Nat) :
    (cellAt s x).state.rank ≤ (cellAt (changeCell c r cause s) x).state.rank := by
  rw [cellAt_changeCell]
  split
  · next hx => rw [← hx.1]; exact hr
  · exact Nat.le_refl _

theorem takePass_rank (p : Nat) (mP mS : Vector Measure Config.channelCount) (s : State) (x : Nat) :
    (cellAt s x).state.rank ≤ (cellAt (takePass p mP mS s) x).state.rank := by
  unfold takePass
  refine takeNotices_rank (s := s) _ ?_ x
  rfl

theorem takeProbeResult_rank (d : Nat) (m : Measure) (s : State) (x : Nat) :
    (cellAt s x).state.rank ≤ (cellAt (takeProbeResult d m s) x).state.rank := by
  unfold takeProbeResult
  split
  · refine takeNotices_rank (s := s) _ ?_ x
    rfl
  · exact Nat.le_refl _

theorem carryRelease_rank (c : Nat) (s : State) (x : Nat) :
    (cellAt s x).state.rank ≤ (cellAt (carryRelease c s) x).state.rank := by
  unfold carryRelease
  split
  · exact changeCell_rank .released (rank_transition _ _ _) x
  · exact Nat.le_refl _

theorem carrySetGain_rank (c : Nat) (g : Option Nat) (s : State) (x : Nat) :
    (cellAt s x).state.rank ≤ (cellAt (carrySetGain c g s) x).state.rank := by
  unfold carrySetGain
  dsimp only
  split
  · exact Nat.le_refl _
  · refine changeCell_rank .gainSet ?_ x
    exact Nat.le_refl _

theorem noneReturned_parts (m : Vector CellRec Config.cellCount) : MoveKeeps (fun t => NoneReturned m t.map.cells) where
  pass := fun p mP mS s h => h.cell (takePass_rank p mP mS s)
  probed := fun d mr s h => h.cell (takeProbeResult_rank d mr s)
  release := fun c s _ h => h.cell (carryRelease_rank c s)
  gain := fun c g s _ h => h.cell (carrySetGain_rank c g s)

theorem exec_rank {c : Instr} {s t : State} (hc : mayReturnCell c = false) (he : exec c s = .next t) :
    NoneReturned s.map.cells t.map.cells := by
  by_cases hstart : ∃ pins, c = .startBegin pins
  · obtain ⟨pins, rfl⟩ := hstart
    obtain ⟨-, hsame⟩ | ⟨-, -, hheld⟩ | ⟨-, -, hbegin⟩ := execStartBegin_cases s pins
    · rw [← next_inj (hsame.symm.trans he)]; exact ⟨fun _ => le_rfl⟩
    · rw [← next_inj (hheld.symm.trans he)]; exact ⟨fun _ => le_rfl⟩
    · rw [← next_inj (hbegin.symm.trans he)]; exact ⟨fun _ => le_rfl⟩
  · exact (noneReturned_parts _).exec_keeps c hc (fun pins hc => hstart ⟨pins, hc⟩) ⟨fun _ => le_rfl⟩ he

end Sys2Proof.Machine

/-! ## The statements -/

section
open Sys2Proof Sys2Proof.Machine

/-- Settles O1, by the two cases of the queue. -/
theorem stepRunsTheFrontCommand : Obligations.StepRunsTheFrontCommand := by
  unfold Obligations.StepRunsTheFrontCommand
  refine fun s => ⟨fun c rest hcons => ?_, fun hnil => ?_⟩
  · simp only [step, hcons]
  · simp only [step, hnil]

/-- Settles O2: no arm stops the tile, and no part of a command touches the queue or the factory region. -/
theorem everyCommandCompletes : Obligations.EveryCommandCompletes := by
  unfold Obligations.EveryCommandCompletes
  intro c s
  obtain ⟨t, he⟩ := exec_next c s
  exact ⟨t, he, exec_keepsFactory he⟩

/-- Settles O3: a cell moves by the automatic transitions alone in these commands, and they move forward. -/
theorem cellsOnlyGiveUpTheirDies : Obligations.CellsOnlyGiveUpTheirDies := by
  unfold Obligations.CellsOnlyGiveUpTheirDies
  intro c s t hc he
  exact (exec_rank hc he).rank

/-- Settles O54: a reset tile stands as its reset left it, and its blocks' values are sound. -/
theorem lawsHoldAtReset : Obligations.LawsHoldAtReset := by
  unfold Obligations.LawsHoldAtReset
  have hdie : ∀ d, dieAt State.reset d = DieRec.fresh := fun d => tget_replicate d _
  have hcell : ∀ c, cellAt State.reset c = CellRec.fresh := fun c => tget_replicate c _
  have hdisplay : DisplayKept State.reset :=
    ⟨BlankSound.reset, ImageSound.reset, ⟨Nat.zero_le _, Nat.zero_le _, Nat.zero_le _, nofun⟩, rfl, TablesSound.reset, FarSound.reset⟩
  obtain ⟨hblank, hdrive, hconceal⟩ := (displayKept_iff _).mpr hdisplay
  obtain ⟨hbanks, hreports, hitems⟩ := (busLaws_iff State.reset).mpr ⟨BankSound.reset, ReportSound.reset, ItemsKept.reset _⟩
  have hgovernor : GovernorLaw State.reset := (governorKept_iff _).mpr (GovernorSound.reset (own := 0) (by decide) _)
  refine ⟨resetLaw_of_pristine rfl, fun d _ => ?_, fun c _ _ d _ => ?_, ?_, hblank, hdrive, hconceal, hgovernor, hbanks, hreports,
    hitems, StoreSound.of_idle (cursor := 0) (by decide) _ _ _⟩
  · rw [hdie]
    exact ⟨Nat.zero_le _, rfl⟩
  · rw [dieFailed, hdie]
    rfl
  · exact ⟨Nat.zero_le _, List.nodup_nil, nofun, Nat.zero_le _, List.nodup_nil, by decide⟩

end
end
section
/-! PROOF. The resets and the begin of a start (R151, R152, R167 to R169). -/

namespace Sys2Proof.Machine

/-! ## What a reset leaves -/

/-- A collection at its reset value reads it at each of its places. -/
theorem tget_replicate_of_lt {α : Type} {n i : Nat} (a d : α) (h : i < n) : tget (Vector.replicate n a) i d = a := by
  rw [tget_eq_getElem _ _ _ h, Vector.getElem_replicate]

/-- A reset gives every block the values of the chapters. -/
theorem resetTile_values (cause : ResetCause) (s : State) : ResetValues (resetTile cause s) := by
  refine ⟨⟨rfl, rfl, rfl, rfl⟩, ⟨rfl, rfl, fun c hc => tget_replicate_of_lt _ _ hc, rfl, rfl, rfl⟩,
    ⟨rfl, fun c hc => ⟨tget_replicate_of_lt _ _ hc, tget_replicate_of_lt _ _ hc⟩, rfl, rfl, rfl⟩, ⟨rfl, rfl, rfl, rfl, rfl⟩,
    ⟨rfl, rfl, rfl⟩, ⟨fun c hc => ⟨tget_replicate_of_lt _ _ hc, tget_replicate_of_lt _ _ hc⟩, rfl, rfl, rfl, fun e => ?_, rfl, rfl⟩,
    ⟨rfl, rfl, rfl, rfl, rfl, rfl, rfl⟩, ⟨rfl, rfl, fun it => ?_, rfl, rfl, rfl, rfl, rfl⟩,
    ⟨fun c hc => tget_replicate_of_lt _ _ hc, rfl, rfl, rfl, rfl, rfl⟩,
    ⟨rfl, rfl, rfl, rfl, fun c hc => tget_replicate_of_lt _ _ hc, rfl, rfl, rfl⟩⟩
  · cases e <;> exact ⟨rfl, rfl⟩
  · rcases it with ⟨e⟩ | _
    · cases e <;> rfl
    all_goals rfl

theorem cutWrite_of_none {st : Store} (h : st.inFlight = none) : cutWrite st = st := by
  cases st
  cases h
  rfl

theorem cutWrite_of_settings {st : Store} {b : SettingsBytes} (h : st.inFlight = some (.settings b)) :
    cutWrite st = { st with settings := .cut } := by
  cases st
  cases h
  rfl

theorem cutWrite_of_cell {st : Store} {i : Nat} {b : SlotBytes} (h : st.inFlight = some (.cell i b)) :
    cutWrite st = { st with slots := tset st.slots i .cut } := by
  cases st
  cases h
  rfl

/-- A reset that is no RESTART leaves the record of a write in flight torn, and the regions else as they were (R151, R154). -/
theorem resetTile_cutRegions {cause : ResetCause} (hcause : cause ≠ .restart) (s : State) : CutRegions s (resetTile cause s) := by
  have hstore : (resetTile cause s).store = resetStore cause s.store := rfl
  simp only [CutRegions, hstore, resetStore, if_neg hcause]
  cases hjob : s.store.inFlight with
  | none =>
    rw [cutWrite_of_none hjob]
    exact ⟨rfl, rfl, rfl, rfl, rfl⟩
  | some job =>
    cases job with
    | settings b =>
      rw [cutWrite_of_settings hjob]
      exact ⟨rfl, rfl, rfl, rfl, rfl⟩
    | cell i b =>
      rw [cutWrite_of_cell hjob]
      exact ⟨rfl, rfl, rfl, rfl, rfl⟩

/-! ## The begin of a start (R169) -/

/-- The pins that show neither condition of R167. -/
theorem seePins_of_released {pins : Pins} {s : State} (hpin : pins.resetPin = false)
    (hsupply : s.sup.supplyHeld = false ∨ 4100 < pins.supplyMv) :
    seePins pins s = { s with sup := { s.sup with pinAsserted := false, supplyHeld := false } } := by
  have hheld : (s.sup.supplyHeld && decide (pins.supplyMv ≤ Config.releaseMv)) = false := by
    obtain h | h := hsupply
    · rw [h]; rfl
    · rw [decide_eq_false (p := pins.supplyMv ≤ Config.releaseMv) (Nat.not_le.mpr h), Bool.and_false]
  simp only [seePins, State.setSup, hpin, hheld]

theorem strapFault_eq (p : Straps) :
    strapFault p = decide (p.widthLess1.val + 1 ≤ p.x.val ∨ p.heightLess1.val + 1 ≤ p.y.val) := by
  simp [strapFault, strapWidth, strapHeight]

/-- The edge beyond which a neighbour stands is PRESENT, with the neighbour as its source (R99). -/
theorem far_strappedEdges (p : Straps) (far : PerEdge FarEdge) (e : Edge) :
    (strappedEdges p far).get e =
      { far.get e with
        present := edgePresent p e
        source := if edgePresent p e then some (neighbourStation p e) else none
        valid := false } :=
  get_build _ e

theorem beginStart_begun (pins : Pins) (r : State) : StartBegun pins r (beginStart pins r) := by
  have hfar : ∀ e, (beginStart pins r).conceal.far.get e = _ := far_strappedEdges pins.straps r.conceal.far
  have hfault := strapFault_eq pins.straps
  have hside : ∀ e, ((beginStart pins r).conceal.far.get e).present = edgePresent pins.straps e ∧
      (((beginStart pins r).conceal.far.get e).present = true →
        ((beginStart pins r).conceal.far.get e).source = some (neighbourStation pins.straps e)) := fun e => by
    rw [hfar e]
    exact ⟨rfl, fun hpresent => if_pos hpresent⟩
  refine ⟨by rw [← hfault]; rfl, rfl, rfl, fun e => by rw [hfar e]; exact ⟨rfl, rfl, rfl⟩, ?_, ?_, ?_, ?_, fun e hpresent => ?_, rfl,
    rfl⟩
  · rw [← hfault]
    exact hside .left
  · rw [← hfault]
    refine ⟨(hside .right).1.trans ?_, (hside .right).2⟩
    simp only [edgePresent, strapWidth, Nat.add_sub_cancel, Nat.add_lt_add_iff_right]
  · rw [← hfault]
    exact hside .top
  · rw [← hfault]
    refine ⟨(hside .bottom).1.trans ?_, (hside .bottom).2⟩
    simp only [edgePresent, strapHeight, Nat.add_sub_cancel, Nat.add_lt_add_iff_right]
  · rw [hfar e] at hpresent ⊢
    exact if_neg (by simpa using hpresent)

end Sys2Proof.Machine

/-! ## The statements -/

section
open Sys2Proof Sys2Proof.Machine

/-- Settles O4: the three commands are `resetTile` with their causes. -/
theorem resetsClearTheTile : Obligations.ResetsClearTheTile := by
  unfold Obligations.ResetsClearTheTile
  refine ⟨fun s => ⟨_, rfl, resetTile_values _ s, resetTile_cutRegions (cause := .powerOn) nofun s, rfl, rfl, rfl⟩,
    fun s us hus => ?_, fun s us hus => ?_,
    fun s => ⟨_, rfl, resetTile_values _ s, resetTile_cutRegions (cause := .supply) nofun s, rfl, rfl, rfl⟩⟩
  · exact ⟨_, if_neg (Nat.not_lt.mpr hus), resetTile_values _ s, resetTile_cutRegions (cause := .pin) nofun s, rfl, rfl, rfl, rfl⟩
  · exact if_pos hus

/-- Settles O5, by the three ends of START_BEGIN. -/
theorem startReadsTheStraps : Obligations.StartReadsTheStraps := by
  unfold Obligations.StartReadsTheStraps
  refine ⟨fun s pins hreset hpin hsupply => ?_, fun s pins hreset hheld => ?_, fun s pins houtside => ?_⟩
  · have hseen := seePins_of_released hpin hsupply
    obtain ⟨hno, -⟩ | ⟨-, hheld, -⟩ | ⟨-, -, hbegin⟩ := execStartBegin_cases s pins
    · exact absurd hreset hno
    · rw [hseen] at hheld
      cases hheld
    · rw [hseen] at hbegin
      exact ⟨_, hbegin, beginStart_begun pins _⟩
  · obtain ⟨hno, -⟩ | ⟨-, -, hstays⟩ | ⟨-, hfree, -⟩ := execStartBegin_cases s pins
    · exact absurd hreset hno
    · exact hstays
    · rw [heldInReset_seePins] at hfree
      obtain h | ⟨h, hlow⟩ := hheld
      · rw [h] at hfree
        cases hfree
      · rw [h, Bool.true_and, Bool.or_eq_false_iff] at hfree
        exact absurd hlow (of_decide_eq_false hfree.2)
  · obtain ⟨-, hsame⟩ | ⟨hreset, -⟩ | ⟨hreset, -⟩ := execStartBegin_cases s pins
    · exact hsame
    · exact absurd hreset houtside
    · exact absurd hreset houtside

end
end
section
/-! PROOF. The load at start: what each cell becomes, and what is handed over (R75, R142, R143, R170). -/

namespace Sys2Proof.Machine

/-! ## A cell of the load -/

theorem factoryGainAt_completeLoad (s : State) {c : Nat} (hc : c < Config.cellCount) :
    factoryGainAt (completeLoad s) c = (loadAt s.store c).gain := by
  simp [factoryGainAt, completeLoad, tget_tmap _ _ _ (loadAt s.store c) _ hc, tget_loadCells _ hc]

theorem dirty_completeLoad (s : State) {c : Nat} (hc : c < Config.cellCount) (d : Bool) :
    tget (completeLoad s).store.dirty c d = loadedDirty (loadAt s.store c) := by
  simp [completeLoad, tget_tmap _ _ _ (loadAt s.store c) _ hc, tget_loadCells _ hc]

/-- The transitions leave a forced cell, and of an unforced one they change the state alone. -/
theorem loadedRecord_eq (l : Loaded) :
    loadedRecord l =
      ⟨if l.record.forced then l.record.state else transition l.record.state l.primary.failed l.spare.failed, l.record.forced,
        l.record.gain⟩ := by
  unfold loadedRecord
  split <;> rfl

/-- A record out of a slot is marked when the transitions have moved it. -/
theorem loadedDirty_of_slot {l : Loaded} (htorn : l.torn = false) (hslot : l.fromSlot = true) :
    loadedDirty l = decide ((loadedRecord l).state ≠ l.record.state) := by
  have hsame : loadedRecord l = l.record ↔ (loadedRecord l).state = l.record.state := by
    refine ⟨fun h => by rw [h], fun h => ?_⟩
    rw [loadedRecord_eq] at h ⊢
    exact congrArg (fun st => (⟨st, l.record.forced, l.record.gain⟩ : CellRec)) h
  rw [loadedDirty, htorn, hslot, Bool.false_or, Bool.true_and, decide_eq_decide]
  exact not_congr hsame

theorem loadAt_of_blank {st : Store} {c : Nat} (h : slotCondition c (tget st.slots c .cut) = .blank) :
    loadAt st c =
      let f := factoryRecord (factoryPasses st) (tget st.factory c FactoryBytes.plain)
      ⟨CellRec.fresh, f.primary, f.spare, f.gain, false, false⟩ := by
  simp only [loadAt, loadCell, h]

theorem loadAt_of_torn {st : Store} {c : Nat} (h : slotCondition c (tget st.slots c .cut) = .torn) :
    loadAt st c =
      let f := factoryRecord (factoryPasses st) (tget st.factory c FactoryBytes.plain)
      ⟨CellRec.fresh, f.primary, f.spare, f.gain, true, false⟩ := by
  simp only [loadAt, loadCell, h]

theorem loadAt_of_written {st : Store} {c : Nat} {r : SlotRecord} (h : slotCondition c (tget st.slots c .cut) = .written r) :
    loadAt st c =
      ⟨⟨r.state, r.forced, r.gain⟩, r.primary, r.spare,
        (factoryRecord (factoryPasses st) (tget st.factory c FactoryBytes.plain)).gain, false, true⟩ := by
  simp only [loadAt, loadCell, h]

theorem loadAt_gain (st : Store) (c : Nat) :
    (loadAt st c).gain = (factoryRecord (factoryPasses st) (tget st.factory c FactoryBytes.plain)).gain := by
  unfold loadAt loadCell
  dsimp only
  split <;> rfl

theorem loadAt_torn (st : Store) (c : Nat) :
    (loadAt st c).torn = decide (slotCondition c (tget st.slots c .cut) = .torn) := by
  unfold loadAt loadCell
  dsimp only
  split <;> simp_all

/-! ## The count of the torn slots -/

/-- A collection's entries, by index. -/
theorem toList_eq_map_tget {α : Type} {n : Nat} (v : Vector α n) (d : α) : v.toList = (List.range n).map (fun i => tget v i d) := by
  refine List.ext_getElem (by simp) fun i hi _ => ?_
  rw [Vector.length_toList] at hi
  simp [tget_eq_getElem _ _ _ hi]

/-- The entries of a collection that satisfy a predicate, counted by index. -/
theorem tcount_eq_countP_range {α : Type} {n : Nat} (p : α → Bool) (v : Vector α n) (d : α) :
    tcount p v = (List.range n).countP (fun i => p (tget v i d)) := by
  rw [tcount, toList_eq_map_tget v d, List.countP_map]
  rfl

theorem tornCount_eq (st : Store) :
    tcount (fun x => x.torn) (loadCells st) =
      (List.range Config.cellCount).countP (fun c => decide (slotCondition c (tget st.slots c .cut) = .torn)) := by
  rw [tcount_eq_countP_range _ _ (loadAt st 0)]
  refine List.countP_congr fun c hc => ?_
  rw [tget_loadCells st (List.mem_range.mp hc), loadAt_torn]

/-! ## The settings record (R142) -/

theorem loadedSettings_of_written {st : Store} {p : Nat × Nat} (h : settingsCondition st.settings = .written p) :
    loadedSettings st = p ∧ settingsDefaulted st = false ∧ settingsTorn st = false := by
  simp [loadedSettings, settingsDefaulted, settingsTorn, h]

theorem loadedSettings_of_blank {st : Store} (h : settingsCondition st.settings = .blank) :
    loadedSettings st = (192, 0) ∧ settingsDefaulted st = true ∧ settingsTorn st = false := by
  simp [loadedSettings, settingsDefaulted, settingsTorn, h, Config.defaultK]

theorem loadedSettings_of_torn {st : Store} (h : settingsCondition st.settings = .torn) :
    loadedSettings st = (192, 0) ∧ settingsDefaulted st = true ∧ settingsTorn st = true := by
  simp [loadedSettings, settingsDefaulted, settingsTorn, h, Config.defaultK]

/-! ## The trigger of the load -/

/-- A trigger touches the Concealment Unit alone. -/
theorem trigger_eq (s : State) : trigger s = { s with conceal := (trigger s).conceal } := by
  unfold trigger
  split <;> rfl

/-- A trigger is `Triggered` on the Concealment Unit it finds (R96, R97). -/
theorem trigger_triggered (s : State) : Triggered s.conceal (trigger s) := by
  have hmap : (trigger s).map = s.map := by simp
  obtain ⟨hidle, hc⟩ | ⟨hbusy, hc⟩ := trigger_cases s
  · exact .inl ⟨hidle, by rw [hc, hmap]; rfl⟩
  · exact .inr ⟨hbusy, hc⟩

/-- The state on which the load's end triggers the rebuild. -/
def loadedState (s : State) : State :=
  { s with
    sup :=
      { s.sup with
        state := .chainCheck
        findings :=
          { s.sup.findings with
            factoryFault := !factoryPasses s.store
            settingsDefaulted := settingsDefaulted s.store
            tornSlots := tcount (fun x => x.torn) (loadCells s.store) } }
    scan := { s.scan with position := .check }
    health := { s.health with dies := tofList _ ((loadCells s.store).toList.flatMap loadedDies) DieRec.fresh }
    map := ⟨tmap loadedRecord (loadCells s.store), tmap (fun x => x.gain) (loadCells s.store)⟩
    conceal := { s.conceal with k := (loadedSettings s.store).1 }
    gov := { s.gov with limit := (loadedSettings s.store).2 }
    store := { s.store with dirty := tmap loadedDirty (loadCells s.store), settingsDirty := settingsTorn s.store } }

theorem completeLoad_eq (s : State) :
    completeLoad s = { loadedState s with conceal := (trigger (loadedState s)).conceal } :=
  trigger_eq (loadedState s)

theorem exec_loadComplete {s : State} (h : s.sup.state = .loading) : exec .loadComplete s = .next (completeLoad s) := by
  show execLoadComplete s = _
  simp only [execLoadComplete, h]

end Sys2Proof.Machine

/-! ## The statements -/

section
open Sys2Proof Sys2Proof.Machine

/-- Settles O6, by the condition of the cell's slot. -/
theorem loadGivesEveryCellItsRecord : Obligations.LoadGivesEveryCellItsRecord := by
  unfold Obligations.LoadGivesEveryCellItsRecord
  intro s hloading
  refine ⟨_, exec_loadComplete hloading, fun c hc => ?_⟩
  dsimp only
  refine ⟨(factoryGainAt_completeLoad s hc).trans (loadAt_gain s.store c), ?_⟩
  obtain ⟨hprimary, hspare⟩ := dieAt_completeLoad s hc
  rw [hprimary, hspare]
  split
  · next hblank =>
    rw [cellAt_completeLoad s hc, dirty_completeLoad s hc, loadAt_of_blank hblank]
    exact ⟨rfl, rfl, rfl, rfl⟩
  · next htorn =>
    rw [cellAt_completeLoad s hc, dirty_completeLoad s hc, loadAt_of_torn htorn]
    exact ⟨rfl, rfl, rfl, rfl⟩
  · next r hwritten =>
    have hl := loadAt_of_written hwritten
    rw [cellAt_completeLoad s hc, dirty_completeLoad s hc, loadedDirty_of_slot (by rw [hl]) (by rw [hl]), loadedRecord_eq, hl]
    exact ⟨rfl, rfl, rfl, rfl, rfl, rfl⟩

/-- Settles O7: the state behind the load is written out in `completeLoad_eq`. -/
theorem loadHandsOverItsFindings : Obligations.LoadHandsOverItsFindings := by
  unfold Obligations.LoadHandsOverItsFindings
  intro s hloading
  have hk : (trigger (loadedState s)).conceal.k = (loadedSettings s.store).1 := by simp [loadedState]
  refine ⟨_, exec_loadComplete hloading, ?_⟩
  rw [completeLoad_eq]
  refine ⟨?_, ?_, rfl, rfl, ?_, rfl, rfl, rfl, rfl⟩
  · split
    · next p hcond =>
      obtain ⟨hp, hdefaulted, htorn⟩ := loadedSettings_of_written hcond
      exact ⟨hk.trans (congrArg Prod.fst hp), congrArg Prod.snd hp, hdefaulted, htorn⟩
    · next hcond =>
      obtain ⟨hp, hdefaulted, htorn⟩ := loadedSettings_of_blank hcond
      exact ⟨hk.trans (congrArg Prod.fst hp), congrArg Prod.snd hp, hdefaulted, htorn⟩
    · next hcond =>
      obtain ⟨hp, hdefaulted, htorn⟩ := loadedSettings_of_torn hcond
      exact ⟨hk.trans (congrArg Prod.fst hp), congrArg Prod.snd hp, hdefaulted, htorn⟩
  · rw [← tornCount_eq]
    rfl
  · show Triggered { s.conceal with k := (trigger (loadedState s)).conceal.k } _
    rw [hk, ← trigger_eq]
    exact trigger_triggered (loadedState s)

end
end
section
/-! PROOF. The entries into READY_WAIT and RUNNING, the judging of a long request, and the supply state (R11, R161, R170 to R173). -/

namespace Sys2Proof.Machine

/-! ## Items that a signal makes pending -/

theorem pendLoad_load (s : State) : (pendLoad s).seam.items.load = (s.seam.items.load || !s.sup.findings.strapFault) := by
  unfold pendLoad
  cases s.sup.findings.strapFault <;> simp [pend, PendingSet.put]

theorem pendLoad_eq (s : State) :
    pendLoad s = { s with seam := { s.seam with items := { s.seam.items with load := (pendLoad s).seam.items.load } } } := by
  unfold pendLoad
  split <;> rfl

theorem pendEdges_edges (p : Edge → Bool) (s : State) (e : Edge) :
    (pendEdges p s).seam.items.edges.get e = (s.seam.items.edges.get e || ((s.conceal.far.get e).present && p e)) :=
  get_build _ e

theorem pendEdges_eq (p : Edge → Bool) (s : State) :
    pendEdges p s =
      { s with seam := { s.seam with items := { s.seam.items with edges := (pendEdges p s).seam.items.edges } } } := rfl

/-- A notice's signal changes the port and the tile notice's item, and nothing else. -/
theorem raiseNotice_only (s : State) :
    raiseNotice s =
      { s with
        port := (raiseNotice s).port
        seam := { s.seam with items := { s.seam.items with tileNotice := (raiseNotice s).seam.items.tileNotice } } } := by
  unfold raiseNotice
  split
  · split <;> rfl
  · rfl

/-- A signal on a tile whose port and Seam Link Controller are those of `s`. -/
theorem raiseNotice_on {s r : State} (hport : r.port = s.port) (hseam : r.seam = s.seam) :
    NoticeRaised s (raiseNotice r) ∧ OnlyNoticeItem s (raiseNotice r) ∧
      raiseNotice r = { r with port := (raiseNotice r).port, seam := (raiseNotice r).seam } := by
  have hraised := raiseNotice_raises r
  have honly := raiseNotice_onlyNoticeItem r
  have hcomposed : isComposed r .tileNotice = isComposed s .tileNotice := isComposed_congr _ _ _ (by rw [hseam]) (by rw [hseam])
  unfold NoticeRaised at *
  unfold OnlyNoticeItem at *
  rw [hport, hseam, hcomposed] at hraised
  rw [hseam] at honly
  exact ⟨hraised, honly, raiseNotice_eq r⟩

/-! ## READY_WAIT (R14, R170) -/

/-- A failed check that has not yet raised its notice (R11). -/
def blanked (s : State) : State := s.setScan { s.scan with blank := true, runCount := 0, marker := .failed, seenBlank := true }

theorem markerFailed_of_blank {s : State} (h : s.scan.blank = true) : markerFailed s = blanked s := if_pos h

theorem markerFailed_of_lit {s : State} (h : s.scan.blank = false) : markerFailed s = raiseNotice (blanked s) :=
  if_neg (by rw [h]; exact Bool.false_ne_true)

theorem exec_chainCheckComplete {s : State} (p q : Bool) (h : s.sup.state = .chainCheck) :
    exec (.chainCheckComplete p q) s =
      .next (fillBanks (enterReadyWait (!(p && q)) (if p && q then s else markerFailed s))) := by
  show execChainCheckComplete p q s = _
  simp only [execChainCheckComplete, h]
  cases p && q <;> rfl

/-! ## RUNNING (R171, R172) -/

theorem exec_readyLineHigh {s : State} {us : Nat} (h : s.sup.state = .readyWait) (hus : 10 ≤ us) :
    exec (.readyLineHigh us) s = .next (enterRunning false s) := by
  have hlong : ¬ us < Config.readyHighUs := Nat.not_lt.mpr hus
  show execReadyLineHigh us s = _
  simp only [execReadyLineHigh, h, if_neg hlong]

theorem exec_readyTimeout {s : State} (h : s.sup.state = .readyWait) (htimer : s.sup.readyTimer = true) :
    exec .readyTimeout s = .next (enterRunning true s) := by
  show execReadyTimeout s = _
  simp only [execReadyTimeout, h, htimer, if_true]

/-- What becomes pending at the entry into RUNNING, and what the entry leaves (R172). -/
theorem runPending_eq (s : State) :
    pendEdges (fun _ => true) (pendLoad (raiseNotice s)) =
      { s with
        port := (raiseNotice s).port
        seam :=
          { s.seam with
            items :=
              { s.seam.items with
                edges := (pendEdges (fun _ => true) (pendLoad (raiseNotice s))).seam.items.edges
                load := (pendLoad (raiseNotice s)).seam.items.load
                tileNotice := (raiseNotice s).seam.items.tileNotice } } } := by
  rw [pendEdges_eq, pendLoad_eq, raiseNotice_only]

theorem runPending_load (s : State) :
    (pendLoad (raiseNotice s)).seam.items.load = (s.seam.items.load || !s.sup.findings.strapFault) := by
  have hload : (raiseNotice s).seam.items.load = s.seam.items.load := by rw [raiseNotice_only]
  simp [pendLoad_load, hload]

theorem runPending_edges (s : State) (e : Edge) :
    (pendEdges (fun _ => true) (pendLoad (raiseNotice s))).seam.items.edges.get e =
      (s.seam.items.edges.get e || (s.conceal.far.get e).present) := by
  have hedges : (pendLoad (raiseNotice s)).seam.items.edges = s.seam.items.edges := by rw [pendLoad_eq, raiseNotice_only]
  simp [pendEdges_edges, hedges]

/-! ## Judging a long request (R161) -/

theorem longOutcome_faulted {s : State} (h : s.store.state = .faulted) : longOutcome s = some (.storeFault, dirtyCount s) := if_pos h

theorem longOutcome_low {s : State} (hstate : s.store.state ≠ .faulted) (hlow : s.sup.supply = .low) :
    longOutcome s = some (.supplyLow, dirtyCount s) := by
  rw [longOutcome, if_neg hstate, if_pos hlow]

/-- At a LOW supply a long request is answered, STORE_FAULT before SUPPLY_LOW (R161). -/
theorem longOutcome_of_low {s : State} (hlow : s.sup.supply = .low) :
    longOutcome s = some (if s.store.state = .faulted then .storeFault else .supplyLow, dirtyCount s) := by
  split
  · next h => exact longOutcome_faulted h
  · next h => exact longOutcome_low h hlow

theorem afterResult_eq (r : LongReq) : afterResult r = if r.kind = .commit then none else some { r with phase := .replying } := by
  unfold afterResult
  split <;> simp [*]

/-- A long request in execution whose outcome stands is answered (R161). -/
theorem judgeLong_answers {s : State} {r : LongReq} {result : ReplyResult} {residual : Nat} (hr : s.port.request = some r)
    (hphase : r.phase = .executing) (hout : longOutcome s = some (result, residual)) :
    judgeLong s =
      pend .longReply
        (s.setPort
          { s.port with
            long := some ⟨r.source, r.kind.byte, result, residual, .empty, none⟩
            request := afterResult r }) := by
  simp only [judgeLong, hr, hphase, hout]

/-- No long request in execution: nothing is judged (R161, R162). -/
theorem judgeLong_of_replying {s : State} (h : ∀ r, s.port.request = some r → r.phase = .replying) : judgeLong s = s := by
  unfold judgeLong
  split
  · rfl
  · next r hr =>
    rw [h r hr]

/-- The judging touches the Service Port and the Seam Link Controller alone. -/
theorem judgeLong_eq (s : State) : judgeLong s = { s with port := (judgeLong s).port, seam := (judgeLong s).seam } := by
  unfold judgeLong
  split
  · rfl
  · split <;> rfl

end Sys2Proof.Machine

/-! ## The statements -/

section
open Sys2Proof Sys2Proof.Machine

/-- Settles O8, by the check's outcome and the flag it finds. -/
theorem chainCheckEntersReadyWait : Obligations.ChainCheckEntersReadyWait := by
  unfold Obligations.ChainCheckEntersReadyWait
  intro s p q hcheck
  refine ⟨_, exec_chainCheckComplete p q hcheck, ?_⟩
  cases p && q with
  | true =>
    rw [if_pos rfl]
    refine ⟨rfl, rfl, rfl, (Bool.or_false _).symm, rfl, rfl, rfl, rfl, fun _ => ⟨rfl, rfl⟩, nofun, rfl⟩
  | false =>
    rw [if_neg Bool.false_ne_true, Bool.false_or]
    cases hblank : s.scan.blank with
    | true =>
      rw [markerFailed_of_blank hblank]
      exact ⟨rfl, rfl, rfl, rfl, rfl, rfl, rfl, rfl, fun _ => ⟨rfl, rfl⟩, nofun, rfl⟩
    | false =>
      rw [markerFailed_of_lit hblank]
      have hraised : NoticeRaised s (raiseNotice (blanked s)) := raiseNotice_raises (blanked s)
      rw [raiseNotice_only] at hraised ⊢
      exact ⟨rfl, rfl, rfl, rfl, rfl, rfl, rfl, rfl, nofun, fun _ => ⟨hraised, rfl⟩, rfl⟩

/-- Settles O9: both events are the entry into RUNNING, whose signals are written out in `runPending_eq`. -/
theorem readyLineOrTimeoutEntersRunning : Obligations.ReadyLineOrTimeoutEntersRunning := by
  unfold Obligations.ReadyLineOrTimeoutEntersRunning
  refine ⟨fun s c us hwait hevent => ?_, fun s us hignored => ?_, fun s hignored => ?_⟩
  · have hexec : exec c s = .next (enterRunning (decide (c = .readyTimeout)) s) := by
      obtain ⟨rfl, hus⟩ | ⟨rfl, htimer⟩ := hevent
      · exact exec_readyLineHigh hwait hus
      · rw [decide_eq_true rfl]
        exact exec_readyTimeout hwait htimer
    generalize decide (c = .readyTimeout) = timeout at hexec ⊢
    rw [enterRunning_eq] at hexec
    refine ⟨_, hexec, ?_⟩
    have hnotice := raiseNotice_raises (runBegun timeout s)
    rw [runPending_eq]
    exact ⟨rfl, rfl, rfl, hnotice, rfl, runPending_load _, runPending_edges _, rfl⟩
  · show execReadyLineHigh us s = _
    unfold execReadyLineHigh
    split
    · next hwait => exact if_pos (hignored.resolve_left (not_not.mpr hwait))
    · rfl
  · show execReadyTimeout s = _
    unfold execReadyTimeout
    split
    · next hwait =>
      rw [hignored.resolve_left (not_not.mpr hwait)]
      rfl
    · rfl

/-- Settles O10: the turn to LOW is judged by `judgeLong`, whose outcome stands at once. -/
theorem supplyStateFollowsTheSupply : Obligations.SupplyStateFollowsTheSupply := by
  unfold Obligations.SupplyStateFollowsTheSupply
  refine ⟨fun s hok => ?_, fun s hlow => ?_, fun s hlow => ?_, fun s hok => ?_⟩
  · have hexec : exec .supplyLow s = .next (fillBanks (judgeLong (s.setSup { s.sup with supply := .low }))) := by
      show execSupplyLow s = _
      simp only [execSupplyLow, hok]
    refine ⟨_, hexec, ?_⟩
    generalize hu : s.setSup { s.sup with supply := .low } = u
    have hport : u.port = s.port := by rw [← hu]; rfl
    have hout : longOutcome u = some (if s.store.state = .faulted then .storeFault else .supplyLow, dirtyCount s) := by
      rw [← hu]
      exact longOutcome_of_low rfl
    refine ⟨by simp [← hu], by simp [← hu], fun r hr hphase => ?_, fun hreplying => ?_, ?_⟩
    · rw [judgeLong_answers (by rw [hport]; exact hr) hphase hout]
      exact ⟨rfl, rfl, afterResult_eq r⟩
    · rw [judgeLong_of_replying (by rw [hport]; exact hreplying), ← hu]
      exact ⟨rfl, rfl⟩
    · rw [judgeLong_eq, ← hu]
      rfl
  · show execSupplyOk s = _
    simp only [execSupplyOk, hlow]
    rfl
  · show execSupplyLow s = _
    simp only [execSupplyLow, hlow]
  · show execSupplyOk s = _
    simp only [execSupplyOk, hok]

end
end
section
/-! PROOF. Pixel-link and store records read back, and the exact conditions of the store's records (12.3, 12.5; R20, R139 to R142, R177). -/

namespace Sys2Proof.Machine

/-! ## Pixel-link records (R20, 12.3) -/

theorem valueFields_bytes16 (v : Nat) (rest : List Byte) (hv : v < 65536) :
    valueFields (bytes16 v ++ rest) = (valueFields rest).map (v :: ·) := by
  simp only [bytes16, List.cons_append, List.nil_append, valueFields, be16_byteOf v hv]
  cases valueFields rest <;> rfl

/-- Value fields read back. -/
theorem valueFields_flatMap {vs : List Nat} (h : ∀ v ∈ vs, v < 65536) : valueFields (vs.flatMap bytes16) = some vs := by
  induction vs with
  | nil => rfl
  | cons v vs ih =>
    rw [List.flatMap_cons, valueFields_bytes16 v _ (h v (List.mem_cons_self ..)), ih fun w hw => h w (List.mem_cons_of_mem _ hw)]
    rfl

/-- Bytes that are read as value fields are the fields' bytes. -/
theorem eq_flatMap_of_valueFields {bs : List Byte} {vs : List Nat} (h : valueFields bs = some vs) :
    bs = vs.flatMap bytes16 ∧ ∀ v ∈ vs, v < 65536 := by
  induction bs using valueFields.induct generalizing vs with
  | case1 => cases h; exact ⟨rfl, nofun⟩
  | case2 => cases h
  | case3 hi lo rest hnone _ => simp [valueFields, hnone] at h
  | case4 hi lo rest ws hws ih =>
    simp only [valueFields, hws, Option.some.injEq] at h
    obtain ⟨hrest, hlt⟩ := ih hws
    subst h
    exact ⟨by rw [List.flatMap_cons, bytes16_be16, ← hrest]; rfl, List.forall_mem_cons.mpr ⟨be16_lt hi lo, hlt⟩⟩

/-- A record with its check behind it (12.3). -/
def sealedRecord (kind : Byte) (body : List Byte) : List Byte := (kind :: body) ++ bytes16 (crc (kind :: body))

/-- What a record with a good check carries (R20). -/
def payload (kind : Byte) (body : List Byte) : Option PixelFrame :=
  if kind = 86#8 then
    match valueFields body with
    | none => none
    | some vs => if vs.length = Config.cellCount then some (.video vs) else none
  else if kind = 66#8 then if body.length = 0 then some .blank else none
  else none

theorem readRecord_sealedRecord (kind : Byte) (body : List Byte) : readRecord (sealedRecord kind body) = payload kind body := by
  have hlen : (body ++ bytes16 (crc (kind :: body))).length - 2 = body.length := by simp
  have hlong : ¬ (body ++ bytes16 (crc (kind :: body))).length < 2 := by simp
  simp only [sealedRecord, List.cons_append, readRecord, hlen, List.take_left', List.drop_left', if_neg hlong, ne_eq,
    not_true_eq_false, if_false]
  rfl

/-- A record that is accepted has its check behind it. -/
theorem sealed_of_readRecord {bytes : List Byte} {f : PixelFrame} (h : readRecord bytes = some f) :
    ∃ kind body, bytes = sealedRecord kind body ∧ payload kind body = some f := by
  cases bytes with
  | nil => cases h
  | cons kind rest =>
    have hcheck : rest.drop (rest.length - 2) = bytes16 (crc (kind :: rest.take (rest.length - 2))) := by
      by_contra hno
      simp only [readRecord, if_pos hno, ite_self] at h
      cases h
    have hbytes : kind :: rest = sealedRecord kind (rest.take (rest.length - 2)) := by
      rw [sealedRecord, ← hcheck, List.cons_append, List.take_append_drop]
    exact ⟨kind, _, hbytes, by rw [← readRecord_sealedRecord, ← hbytes]; exact h⟩

/-- A BLANK record has no fields, and a VIDEO record one for each cell. -/
theorem payload_some {kind : Byte} {body : List Byte} {f : PixelFrame} (h : payload kind body = some f) :
    (kind = 66#8 ∧ body = [] ∧ f = .blank) ∨
      ∃ vs, kind = 86#8 ∧ valueFields body = some vs ∧ vs.length = Config.cellCount ∧ f = .video vs := by
  unfold payload at h
  split at h
  · next hkind =>
    split at h
    · cases h
    · next vs hvs =>
      split at h
      · next hlen => cases h; exact .inr ⟨vs, hkind, hvs, hlen, rfl⟩
      · cases h
  · split at h
    · next hkind =>
      split at h
      · next hempty => cases h; exact .inl ⟨hkind, List.length_eq_zero_iff.mp hempty, rfl⟩
      · cases h
    · cases h

theorem payload_video {vs : List Nat} (hlen : vs.length = 3072) (h : ∀ v ∈ vs, v < 65536) :
    payload 86#8 (vs.flatMap bytes16) = some (.video vs) := by
  simp only [payload, if_true, valueFields_flatMap h]
  exact if_pos hlen

/-! ## Codes of the store (12.1, R177) -/

theorem cellStateOfCode_code (st : CellState) : cellStateOfCode st.code = some st := by cases st <;> rfl

theorem cellStateOfCode_eq_some {n : Nat} {st : CellState} : cellStateOfCode n = some st ↔ st.code = n := by
  constructor
  · intro h
    unfold cellStateOfCode at h
    split at h <;> cases h <;> rfl
  · rintro rfl
    exact cellStateOfCode_code st

theorem cellStateOfCode_isSome (n : Nat) : (∃ st, cellStateOfCode n = some st) ↔ n ≤ 2 := by
  constructor
  · rintro ⟨st, h⟩
    rw [← cellStateOfCode_eq_some.mp h]
    cases st <;> decide
  · intro h
    interval_cases n <;> exact ⟨_, rfl⟩

/-- The code of a health that the store may hold. -/
theorem storedHealthOfCode_eq_some {n : Nat} {h : Health} : storedHealthOfCode n = some h ↔ h.code = n ∧ h ≠ .suspect := by
  constructor
  · intro hcode
    unfold storedHealthOfCode at hcode
    split at hcode <;> cases hcode <;> exact ⟨rfl, nofun⟩
  · rintro ⟨rfl, hne⟩
    cases h with
    | suspect => exact absurd rfl hne
    | _ => rfl

/-- A health byte of the store is 0, 2 or 3 (R177). -/
def healthByteOk (b : Byte) : Prop := b = 0#8 ∨ b = 2#8 ∨ b = 3#8

theorem storedHealthOfCode_isSome (b : Byte) : (∃ h, storedHealthOfCode b.toNat = some h) ↔ healthByteOk b := by
  constructor
  · rintro ⟨h, hcode⟩
    obtain ⟨hb, hne⟩ := storedHealthOfCode_eq_some.mp hcode
    have hbyte : b = byteOf h.code := by rw [hb, byteOf_toNat_self]
    subst hbyte
    cases h with
    | suspect => exact absurd rfl hne
    | good => exact .inl rfl
    | failedOpen => exact .inr (.inl rfl)
    | failedShort => exact .inr (.inr rfl)
  · rintro (rfl | rfl | rfl) <;> exact ⟨_, rfl⟩

theorem storedHealthOfCode_savedHealth (h : Health) : storedHealthOfCode (savedHealth h).code = some (savedHealth h) := by
  cases h <;> rfl

theorem storedFlag_eq_some {b : Byte} {f : Bool} : storedFlag b = some f ↔ b = flagByte f := by
  unfold storedFlag
  split
  · next hb => subst hb; cases f <;> decide
  · split
    · next hb => subst hb; cases f <;> decide
    · next h0 h1 => cases f <;> simp [flagByte, h0, h1]

theorem storedFlag_isSome (b : Byte) : (∃ f, storedFlag b = some f) ↔ b.toNat ≤ 1 := by
  simp only [storedFlag_eq_some, Bool.exists_bool, flagByte, if_true, Bool.false_eq_true, if_false, ← BitVec.toNat_inj, BitVec.toNat_ofNat]
  omega

/-- The override a stored gain gives (R177). -/
theorem storedGain_eq_some {v : Nat} {g : Option Nat} :
    storedGain v = some g ↔ (v = 0 ∨ 128 ≤ v ∧ v ≤ 511) ∧ g = if v = 0 then none else some v := by
  unfold storedGain
  split
  · next h => simp [h, eq_comm]
  · next h0 =>
    split
    · next h => simp [h0, eq_comm, show 128 ≤ v ∧ v ≤ 511 from h]
    · next h => simp [h0, show ¬ (128 ≤ v ∧ v ≤ 511) from h]

/-! ## Field slots (R141, R146, 12.5) -/

theorem slotFields_eq_some {b : SlotBytes} {r : SlotRecord} :
    slotFields b = some r ↔
      cellStateOfCode b.state.toNat = some r.state ∧ storedFlag b.forced = some r.forced ∧
        storedHealthOfCode b.primary.toNat = some r.primary ∧ storedHealthOfCode b.spare.toNat = some r.spare ∧
          storedGain (be16 b.gainHi b.gainLo) = some r.gain := by
  unfold slotFields
  split
  · next st f p q g hst hf hp hq hg =>
    rw [hst, hf, hp, hq, hg]
    cases r
    simp
  · next hnone =>
    refine ⟨nofun, fun ⟨hst, hf, hp, hq, hg⟩ => ?_⟩
    exact (hnone _ _ _ _ _ hst hf hp hq hg).elim

/-- A slot's fields hold allowed codes exactly when each is in its range (R177). -/
theorem slotFields_isSome (b : SlotBytes) :
    (∃ r, slotFields b = some r) ↔
      b.state.toNat ≤ 2 ∧ b.forced.toNat ≤ 1 ∧ healthByteOk b.primary ∧ healthByteOk b.spare ∧
        (be16 b.gainHi b.gainLo = 0 ∨ 128 ≤ be16 b.gainHi b.gainLo ∧ be16 b.gainHi b.gainLo ≤ 511) := by
  rw [← cellStateOfCode_isSome, ← storedFlag_isSome, ← storedHealthOfCode_isSome, ← storedHealthOfCode_isSome]
  constructor
  · rintro ⟨r, h⟩
    obtain ⟨hst, hf, hp, hq, hg⟩ := slotFields_eq_some.mp h
    exact ⟨⟨_, hst⟩, ⟨_, hf⟩, ⟨_, hp⟩, ⟨_, hq⟩, (storedGain_eq_some.mp hg).1⟩
  · rintro ⟨⟨st, hst⟩, ⟨f, hf⟩, ⟨p, hp⟩, ⟨q, hq⟩, hg⟩
    exact ⟨⟨st, f, p, q, _⟩, slotFields_eq_some.mpr ⟨hst, hf, hp, hq, storedGain_eq_some.mpr ⟨hg, rfl⟩⟩⟩

theorem slotCondition_blank_iff (i : Nat) (b : SlotBytes) : slotCondition i (.bytes b) = .blank ↔ b = SlotBytes.blank := by
  unfold slotCondition
  dsimp only
  split
  · next h => exact iff_of_true rfl h
  · next h => (repeat' split) <;> exact iff_of_false nofun h

theorem slotCondition_torn_iff (i : Nat) (b : SlotBytes) :
    slotCondition i (.bytes b) = .torn ↔
      b ≠ SlotBytes.blank ∧ ¬ (be16 b.checkHi b.checkLo = slotCheck i b ∧ ∃ r, slotFields b = some r) := by
  unfold slotCondition
  dsimp only
  split
  · next hblank => exact iff_of_false nofun fun h => h.1 hblank
  · next hblank =>
    split
    · next hcheck => exact iff_of_true rfl ⟨hblank, fun h => hcheck h.1⟩
    · next hcheck =>
      split
      · next hnone => exact iff_of_true rfl ⟨hblank, fun ⟨_, r, hr⟩ => nomatch hnone.symm.trans hr⟩
      · next r hr => exact iff_of_false nofun fun h => h.2 ⟨not_not.mp hcheck, r, hr⟩

theorem slotFields_of_written {i : Nat} {b : SlotBytes} {r : SlotRecord} (h : slotCondition i (.bytes b) = .written r) :
    slotFields b = some r := by
  unfold slotCondition at h
  dsimp only at h
  split at h
  · cases h
  · split at h
    · cases h
    · split at h
      · cases h
      · next hr => cases h; exact hr

/-- A slot that a write has put reads back as the cell it holds (R146). -/
theorem slotCondition_slotBytes (i : Nat) {r : CellRec} (p q : Health)
    (hgain : ∀ g, r.gain = some g → Config.minGain ≤ g ∧ g ≤ Config.maxGain) :
    slotCondition i (.bytes (slotBytes i r p q)) = .written ⟨r.state, r.forced, savedHealth p, savedHealth q, r.gain⟩ := by
  have hcode : ∀ n, n ≤ 3 → (byteOf n).toNat = n := fun n hn => by rw [byteOf_toNat]; omega
  have hstate : (slotBytes i r p q).state.toNat = r.state.code := hcode _ (by cases r.state <;> decide)
  have hhealth : ∀ h, (byteOf (savedHealth h).code).toNat = (savedHealth h).code := fun h => hcode _ (by cases h <;> decide)
  have hblank : slotBytes i r p q ≠ SlotBytes.blank := fun h => by
    have hle : (slotBytes i r p q).state.toNat ≤ 2 := by rw [hstate]; cases r.state <;> decide
    rw [h] at hle
    exact absurd hle (by decide)
  have hcheck : be16 (slotBytes i r p q).checkHi (slotBytes i r p q).checkLo = slotCheck i (slotBytes i r p q) := be16_crc _
  have hstored : storedGain (be16 (slotBytes i r p q).gainHi (slotBytes i r p q).gainLo) = some r.gain := by
    have hlt : r.gain.getD 0 < 65536 := by
      cases hg : r.gain with
      | none => decide
      | some g => exact (hgain g hg).2.trans_lt (by decide)
    have hbe : be16 (slotBytes i r p q).gainHi (slotBytes i r p q).gainLo = r.gain.getD 0 := be16_byteOf _ hlt
    rw [hbe, storedGain_eq_some]
    cases hg : r.gain with
    | none => exact ⟨.inl rfl, rfl⟩
    | some g =>
      obtain ⟨hlo, hhi⟩ := hgain g hg
      have hpos : g ≠ 0 := Nat.ne_of_gt (Nat.lt_of_lt_of_le (by decide) hlo)
      exact ⟨.inr ⟨hlo, hhi⟩, (if_neg hpos).symm⟩
  have hfields : slotFields (slotBytes i r p q) = some ⟨r.state, r.forced, savedHealth p, savedHealth q, r.gain⟩ :=
    slotFields_eq_some.mpr ⟨by rw [hstate]; exact cellStateOfCode_code _, storedFlag_eq_some.mpr rfl,
      (congrArg _ (hhealth p)).trans (storedHealthOfCode_savedHealth p),
      (congrArg _ (hhealth q)).trans (storedHealthOfCode_savedHealth q), hstored⟩
  simp only [slotCondition, if_neg hblank, hcheck, ne_eq, not_true_eq_false, if_false, hfields]

/-! ## The settings record (R142) -/

theorem settingsCondition_blank_iff (b : SettingsBytes) : settingsCondition (.bytes b) = .blank ↔ b = SettingsBytes.blank := by
  unfold settingsCondition
  dsimp only
  split
  · next h => exact iff_of_true rfl h
  · next h => (repeat' split) <;> exact iff_of_false nofun h

theorem settingsCondition_torn_iff (b : SettingsBytes) :
    settingsCondition (.bytes b) = .torn ↔
      b ≠ SettingsBytes.blank ∧ ¬ (be16 b.checkHi b.checkLo = settingsCheck b ∧ be16 b.limitHi b.limitLo ≤ 49136) := by
  unfold settingsCondition
  dsimp only
  split
  · next hblank => exact iff_of_false nofun fun h => h.1 hblank
  · next hblank =>
    split
    · next hcheck => exact iff_of_true rfl ⟨hblank, fun h => hcheck h.1⟩
    · next hcheck =>
      split
      · next hover => exact iff_of_true rfl ⟨hblank, fun h => Nat.not_le.mpr hover h.2⟩
      · next hover => exact iff_of_false nofun fun h => h.2 ⟨not_not.mp hcheck, Nat.not_lt.mp hover⟩

theorem settingsCondition_settingsBytes {k limit : Nat} (hk : k ≤ 255) (hlimit : limit ≤ Config.maxLimit) :
    settingsCondition (.bytes (settingsBytes k limit)) = .written (k, limit) := by
  have hmax : Config.maxLimit < 65535 := by decide
  have hcheck : be16 (settingsBytes k limit).checkHi (settingsBytes k limit).checkLo = settingsCheck (settingsBytes k limit) :=
    be16_crc _
  have hread : be16 (settingsBytes k limit).limitHi (settingsBytes k limit).limitLo = limit := be16_byteOf _ (by omega)
  have hstrength : (settingsBytes k limit).k.toNat = k := by
    show (byteOf k).toNat = k
    rw [byteOf_toNat]
    omega
  have hblank : settingsBytes k limit ≠ SettingsBytes.blank := fun h => by
    rw [h] at hread
    exact absurd (hread.le.trans hlimit) (by decide)
  simp only [settingsCondition, if_neg hblank, hcheck, ne_eq, not_true_eq_false, if_false, hread, if_neg (Nat.not_lt.mpr hlimit),
    hstrength]

/-! ## The factory region (R139, R140) -/

/-- A factory record's fields lie in their ranges (R139, R177). -/
def factoryFits (b : FactoryBytes) : Prop :=
  healthByteOk b.primary ∧ healthByteOk b.spare ∧ 128 ≤ be16 b.gainHi b.gainLo ∧ be16 b.gainHi b.gainLo ≤ 511

theorem factoryFields_eq_some {b : FactoryBytes} {r : FactoryRecord} :
    factoryFields b = some r ↔
      storedHealthOfCode b.primary.toNat = some r.primary ∧ storedHealthOfCode b.spare.toNat = some r.spare ∧
        (128 ≤ be16 b.gainHi b.gainLo ∧ be16 b.gainHi b.gainLo ≤ 511) ∧ r.gain = be16 b.gainHi b.gainLo := by
  unfold factoryFields
  split
  · next p q hp hq =>
    rw [hp, hq]
    dsimp only
    split
    · next hrange =>
      cases r
      simp [show 128 ≤ be16 b.gainHi b.gainLo ∧ be16 b.gainHi b.gainLo ≤ 511 from hrange, eq_comm]
    · next hrange => exact iff_of_false nofun fun h => hrange h.2.2.1
  · next hnone => exact iff_of_false nofun fun ⟨hp, hq, _⟩ => hnone _ _ hp hq

theorem factoryFields_isSome (b : FactoryBytes) : (factoryFields b).isSome = true ↔ factoryFits b := by
  rw [Option.isSome_iff_exists, factoryFits, ← storedHealthOfCode_isSome, ← storedHealthOfCode_isSome]
  constructor
  · rintro ⟨r, h⟩
    obtain ⟨hp, hq, hrange, -⟩ := factoryFields_eq_some.mp h
    exact ⟨⟨_, hp⟩, ⟨_, hq⟩, hrange⟩
  · rintro ⟨⟨p, hp⟩, ⟨q, hq⟩, hrange⟩
    exact ⟨⟨p, q, _⟩, factoryFields_eq_some.mpr ⟨hp, hq, hrange, rfl⟩⟩

theorem factoryPasses_iff (st : Store) :
    factoryPasses st = true ↔
      (∀ b ∈ st.factory.toList, factoryFits b) ∧ be16 st.factoryCheckHi st.factoryCheckLo = crc (factoryRecordBytes st) := by
  simp only [factoryPasses, Bool.and_eq_true, List.all_eq_true, factoryFields_isSome, beq_iff_eq]

/-- The record used for a cell whose region passed and whose fields fit is the stored one. -/
theorem factoryRecord_of_fits {b : FactoryBytes} (h : factoryFits b) :
    (factoryRecord true b).primary.code = b.primary.toNat ∧ (factoryRecord true b).spare.code = b.spare.toNat ∧
      (factoryRecord true b).gain = be16 b.gainHi b.gainLo := by
  obtain ⟨r, hr⟩ := Option.isSome_iff_exists.mp ((factoryFields_isSome b).mpr h)
  obtain ⟨hp, hq, -, hg⟩ := factoryFields_eq_some.mp hr
  have hrecord : factoryRecord true b = r := by simp only [factoryRecord, if_true, hr, Option.getD_some]
  rw [hrecord]
  exact ⟨(storedHealthOfCode_eq_some.mp hp).1, (storedHealthOfCode_eq_some.mp hq).1, hg⟩

end Sys2Proof.Machine
end
section
/-! PROOF. EDGE bodies read back, and bodies that are read are spelled by what is read (12.4.3, R176). -/

namespace Sys2Proof.Machine

/-! ## The hole map -/

/-- The eight bits of a byte, laid most significant first, are read back (12.4.3). -/
theorem getLsbD_foldl_bits (f : Nat → Bool) (i : Nat) (_hi : i < 8) :
    (byteOf ((List.range 8).foldl (fun acc b => acc * 2 + (if f b then 1 else 0)) 0)).getLsbD (7 - i) = f i := by
  have hbits : ∀ b0 b1 b2 b3 b4 b5 b6 b7 : Bool,
      [7, 6, 5, 4, 3, 2, 1, 0].map (fun j => (byteOf ([b0, b1, b2, b3, b4, b5, b6, b7].foldl
        (fun acc b => acc * 2 + (if b then 1 else 0)) 0)).getLsbD j) = [b0, b1, b2, b3, b4, b5, b6, b7] := by
    decide
  have hfold : (List.range 8).foldl (fun acc b => acc * 2 + (if f b then 1 else 0)) 0 =
      [f 0, f 1, f 2, f 3, f 4, f 5, f 6, f 7].foldl (fun acc b => acc * 2 + (if b then 1 else 0)) 0 := rfl
  have hall := hbits (f 0) (f 1) (f 2) (f 3) (f 4) (f 5) (f 6) (f 7)
  rw [← hfold] at hall
  simp only [List.map_cons, List.map_nil, List.cons.injEq, and_true] at hall
  obtain ⟨h0, h1, h2, h3, h4, h5, h6, h7⟩ := hall
  interval_cases i <;> assumption

/-- A byte is laid out of its bits. -/
theorem foldl_bits_getLsbD (x : Byte) :
    byteOf ((List.range 8).foldl (fun acc b => acc * 2 + (if x.getLsbD (7 - b) then 1 else 0)) 0) = x := by
  revert x
  decide +kernel

/-- A hole's entry and only a hole's has its bit set. -/
theorem getLsbD_holeMapByte (content : EdgeContent) (i : Nat) :
    (holeMapByte content (i / 8)).getLsbD (7 - i % 8) = (tget content i .working).isHole := by
  have h := getLsbD_foldl_bits (fun b => (tget content (8 * (i / 8) + b) .working).isHole) (i % 8) (Nat.mod_lt _ (by decide))
  rw [Nat.div_add_mod] at h
  exact h

/-- The bits of a content's hole map are its entries' holes. -/
theorem holeBits_holeMap (content : EdgeContent) :
    holeBits ((List.range 12).map (holeMapByte content)) = content.toList.map EdgeEntry.isHole := by
  rw [toList_eq_map_tget content .working, List.map_map, holeBits]
  refine List.map_congr_left fun i hi => ?_
  have hi' : i < 96 := List.mem_range.mp hi
  have hdiv : i / 8 < 12 := by omega
  have hbyte : ((List.range 12).map (holeMapByte content)).getD (i / 8) 0#8 = holeMapByte content (i / 8) := by
    simp [List.getD_eq_getElem?_getD, hdiv]
  rw [hbyte, getLsbD_holeMapByte content i]
  rfl

/-! ## The share bytes -/

/-- The entries that a list of entries spells, and its shares (12.4.3). -/
def sharesOf (entries : List EdgeEntry) : List Byte :=
  entries.filterMap (fun e => match e with
    | .working => none
    | .hole s => some (byteOf s))

theorem shareBytes_eq (content : EdgeContent) : shareBytes content = sharesOf content.toList := rfl

@[simp] theorem sharesOf_working (es : List EdgeEntry) : sharesOf (.working :: es) = sharesOf es := rfl

@[simp] theorem sharesOf_hole (s : Nat) (es : List EdgeEntry) : sharesOf (.hole s :: es) = byteOf s :: sharesOf es := rfl

theorem length_sharesOf (es : List EdgeEntry) : (sharesOf es).length = (es.map EdgeEntry.isHole).countP id := by
  induction es with
  | nil => rfl
  | cons e es ih =>
    cases e with
    | working => exact ih
    | hole s => simp [ih, EdgeEntry.isHole]

/-- Entries whose shares fit a byte are read back from their holes and shares. -/
theorem entriesOf_sharesOf (es : List EdgeEntry) (h : ∀ x ∈ es, ∀ sh, x = .hole sh → sh ≤ 255) :
    entriesOf (es.map EdgeEntry.isHole) (sharesOf es) = es := by
  induction es with
  | nil => rfl
  | cons e es ih =>
    obtain ⟨he, hes⟩ := List.forall_mem_cons.mp h
    cases e with
    | working => exact congrArg _ (ih hes)
    | hole s =>
      have hs : (byteOf s).toNat = s := by rw [byteOf_toNat]; have := he s rfl; omega
      simp only [List.map_cons, sharesOf_hole, EdgeEntry.isHole, entriesOf, hs, ih hes]

theorem map_isHole_entriesOf (bits : List Bool) (shares : List Byte) : (entriesOf bits shares).map EdgeEntry.isHole = bits := by
  induction bits generalizing shares with
  | nil => rfl
  | cons b bits ih =>
    cases b with
    | false => exact congrArg _ (ih shares)
    | true =>
      cases shares with
      | nil => exact congrArg _ (ih [])
      | cons s shares => exact congrArg _ (ih shares)

/-- As many shares as there are holes are the shares of the entries they give. -/
theorem sharesOf_entriesOf (bits : List Bool) (shares : List Byte) (h : shares.length = bits.countP id) :
    sharesOf (entriesOf bits shares) = shares := by
  induction bits generalizing shares with
  | nil => exact (List.length_eq_zero_iff.mp h).symm
  | cons b bits ih =>
    cases b with
    | false => exact ih shares (by simpa using h)
    | true =>
      cases shares with
      | nil => simp at h
      | cons s shares =>
        have hlen : shares.length = bits.countP id := by simpa using h
        simp only [entriesOf, sharesOf_hole, byteOf_toNat_self, ih shares hlen]

/-! ## The body (R176) -/

theorem edgeOfCode_code (e : Edge) : edgeOfCode e.code = some e := by cases e <;> rfl

theorem edgeOfCode_eq_some {n : Nat} {e : Edge} (h : edgeOfCode n = some e) : e.code = n := by
  unfold edgeOfCode at h
  split at h <;> cases h <;> rfl

theorem edgeOfCode_eq_none_iff (n : Nat) : edgeOfCode n = none ↔ 3 < n := by
  unfold edgeOfCode
  split
  case h_5 h0 h1 h2 h3 =>
    refine iff_of_true rfl ?_
    by_contra hle
    interval_cases n <;> contradiction
  all_goals exact iff_of_false nofun (by decide)

theorem code_lt (e : Edge) : e.code < 256 := by cases e <;> decide

theorem length_edgeBody (e : Edge) (content : EdgeContent) :
    (edgeBody e content).length = 13 + (content.toList.map EdgeEntry.isHole).countP id := by
  rw [edgeBody, shareBytes_eq, List.length_cons, List.length_append, List.length_map, List.length_range, length_sharesOf]
  omega

/-- An EDGE body is read back as the edge and the entries it carries. -/
theorem readEdgeBody_edgeBody (e : Edge) (content : EdgeContent) (h : ∀ x ∈ content.toList, ∀ sh, x = .hole sh → sh ≤ 255) :
    readEdgeBody (edgeBody e content) = some (e, content) := by
  have hlen := length_edgeBody e content
  have hmap : ((List.range 12).map (holeMapByte content)).length = 12 := by simp
  have hcode : (byteOf e.code).toNat = e.code := by rw [byteOf_toNat]; exact Nat.mod_eq_of_lt (code_lt e)
  have hentries : tofList Config.edgeEntryCount (entriesOf (content.toList.map EdgeEntry.isHole) (sharesOf content.toList)) .working =
      content := by
    rw [entriesOf_sharesOf _ h]
    refine tget_ext _ _ .working fun i hi => ?_
    rw [tget_tofList _ _ _ _ hi]
    rfl
  rw [edgeBody, shareBytes_eq] at hlen ⊢
  simp only [readEdgeBody, List.take_left' hmap, List.drop_left' hmap, holeBits_holeMap, hcode, edgeOfCode_code, if_pos hlen,
    hentries]

/-- The bits of the hole map of a body, by the places of 12.4.3. -/
theorem holeBits_eq (code : Byte) (rest : List Byte) :
    holeBits (rest.take 12) = (List.range 96).map (fun i => ((code :: rest).getD (1 + i / 8) 0#8).getLsbD (7 - i % 8)) := by
  refine List.map_congr_left fun i hi => ?_
  have hi' : i < 96 := List.mem_range.mp hi
  have hdiv : i / 8 < 12 := by omega
  rw [Nat.add_comm 1, List.getD_cons_succ]
  simp [List.getD_eq_getElem?_getD, hdiv]

/-- The HOLE bits of a body's map (12.4.3). -/
def holesOf (body : List Byte) : Nat :=
  (List.range 96).countP (fun i => (body.getD (1 + i / 8) 0#8).getLsbD (7 - i % 8))

theorem countP_holeBits (code : Byte) (rest : List Byte) : (holeBits (rest.take 12)).countP id = holesOf (code :: rest) := by
  rw [holeBits_eq code, List.countP_map]
  rfl

theorem readEdgeBody_eq_none_iff (body : List Byte) :
    readEdgeBody body = none ↔ 3 < (body.getD 0 0#8).toNat ∨ body.length ≠ 13 + holesOf body := by
  cases body with
  | nil => exact iff_of_true rfl (.inr (by rw [List.length_nil]; omega))
  | cons code rest =>
    rw [List.getD_cons_zero, ← edgeOfCode_eq_none_iff, ← countP_holeBits]
    unfold readEdgeBody
    dsimp only
    split
    · next hcode => exact iff_of_true rfl (.inl hcode)
    · next e hcode =>
      split
      · next hlen => exact iff_of_false nofun fun h => h.elim (fun hnone => nomatch hcode.symm.trans hnone) fun hno => hno hlen
      · next hlen => exact iff_of_true rfl (.inr hlen)

/-- The hole map of entries that a map's bits have given is that map. -/
theorem holeMap_of_holeBits {content : EdgeContent} {mapBytes : List Byte} (hlen : mapBytes.length = 12)
    (h : content.toList.map EdgeEntry.isHole = holeBits mapBytes) : (List.range 12).map (holeMapByte content) = mapBytes := by
  have hbit : ∀ i, i < 96 → (tget content i .working).isHole = (mapBytes.getD (i / 8) 0#8).getLsbD (7 - i % 8) := by
    rw [toList_eq_map_tget content .working, List.map_map] at h
    exact fun i hi => List.map_inj_left.mp h i (List.mem_range.mpr hi)
  refine List.ext_getElem (by simp [hlen]) fun j hj hj' => ?_
  have hj12 : j < 12 := by simpa using hj
  have hfold : holeMapByte content j =
      byteOf ((List.range 8).foldl (fun acc b => acc * 2 + (if mapBytes[j].getLsbD (7 - b) then 1 else 0)) 0) := by
    refine congrArg byteOf (List.foldl_ext _ _ _ fun acc b hb => ?_)
    have hb8 : b < 8 := List.mem_range.mp hb
    rw [hbit (8 * j + b) (by omega), show (8 * j + b) / 8 = j by omega, show (8 * j + b) % 8 = b by omega,
      List.getD_eq_getElem _ _ hj']
  rw [List.getElem_map, List.getElem_range, hfold, foldl_bits_getLsbD]

/-- A body that is read is spelled by the edge and the entries read. -/
theorem eq_edgeBody_of_readEdgeBody {body : List Byte} {e : Edge} {content : EdgeContent}
    (h : readEdgeBody body = some (e, content)) : body = edgeBody e content := by
  cases body with
  | nil => cases h
  | cons code rest =>
    unfold readEdgeBody at h
    dsimp only at h
    split at h
    · cases h
    · next e' hcode =>
      split at h
      · next hlen =>
        cases h
        have hlong : 12 ≤ rest.length := by rw [List.length_cons] at hlen; omega
        have hshares : (rest.drop 12).length = (holeBits (rest.take 12)).countP id := by
          rw [List.length_cons] at hlen
          rw [List.length_drop]
          omega
        have hentries : (tofList Config.edgeEntryCount (entriesOf (holeBits (rest.take 12)) (rest.drop 12)) .working).toList =
            entriesOf (holeBits (rest.take 12)) (rest.drop 12) := by
          have hcount : (entriesOf (holeBits (rest.take 12)) (rest.drop 12)).length = Config.edgeEntryCount := by
            rw [← List.length_map (f := EdgeEntry.isHole), map_isHole_entriesOf, holeBits, List.length_map, List.length_range]
          exact List.take_left' hcount
        have hmap := holeMap_of_holeBits (mapBytes := rest.take 12) (by simpa using hlong)
          (by rw [hentries, map_isHole_entriesOf])
        rw [edgeBody, edgeOfCode_eq_some hcode, byteOf_toNat_self, hmap, shareBytes_eq, hentries, sharesOf_entriesOf _ _ hshares,
          List.take_append_drop]
      · cases h

/-- An EDGE body has a length that 12.4 allows. -/
theorem edgeBody_length_ok (e : Edge) (content : EdgeContent) : bodyLengthOk kindEdge (edgeBody e content).length = true := by
  have hle : (content.toList.map EdgeEntry.isHole).countP id ≤ 96 :=
    List.countP_le_length.trans (by rw [List.length_map, Vector.length_toList]; decide)
  rw [length_edgeBody]
  simp only [bodyLengthOk, kindEdge, Bool.and_eq_true, decide_eq_true_eq]
  omega

end Sys2Proof.Machine

/-! ## The statement -/

section
open Sys2Proof Sys2Proof.Machine

/-- Settles O11, format by format. -/
theorem recordsReadBack : Obligations.RecordsReadBack := by
  unfold Obligations.RecordsReadBack
  refine ⟨fun vs hlen hlt => ?_, ?_, fun i r p q _ hgain => slotCondition_slotBytes i p q hgain, rfl, fun h hne => ?_,
    fun k limit hk hlimit => settingsCondition_settingsBytes hk hlimit, fun e content hshare => ?_, fun body => ?_,
    fun bytes f hread => ?_, fun i b => ?_, fun b => ?_, fun st => ?_⟩
  · exact (readRecord_sealedRecord _ _).trans (payload_video hlen hlt)
  · exact readRecord_sealedRecord 66#8 []
  · cases h with
    | suspect => exact absurd rfl hne
    | _ => rfl
  · exact ⟨readEdgeBody_edgeBody e content hshare, edgeBody_length_ok e content⟩
  · exact ⟨readEdgeBody_eq_none_iff body, fun e content h => eq_edgeBody_of_readEdgeBody h⟩
  · obtain ⟨kind, body, rfl, hpayload⟩ := sealed_of_readRecord hread
    obtain ⟨rfl, rfl, rfl⟩ | ⟨vs, rfl, hvs, hlen, rfl⟩ := payload_some hpayload
    · exact .inl ⟨rfl, rfl⟩
    · obtain ⟨rfl, hlt⟩ := eq_flatMap_of_valueFields hvs
      exact .inr ⟨vs, rfl, hlen, hlt, rfl⟩
  · refine ⟨slotCondition_blank_iff i b, ?_, fun r hr => ?_, rfl⟩
    · rw [slotCondition_torn_iff, slotFields_isSome]
      rfl
    · obtain ⟨hst, hf, hp, hq, hg⟩ := slotFields_eq_some.mp (slotFields_of_written hr)
      refine ⟨cellStateOfCode_eq_some.mp hst, ?_, (storedHealthOfCode_eq_some.mp hp).1, (storedHealthOfCode_eq_some.mp hq).1,
        (storedGain_eq_some.mp hg).2⟩
      rw [storedFlag_eq_some.mp hf]
      cases r.forced <;> decide
  · refine ⟨settingsCondition_blank_iff b, settingsCondition_torn_iff b, fun p hp => ?_, rfl⟩
    obtain ⟨b', hb, hp', -⟩ := settingsCondition_written hp
    cases hb
    exact hp'
  · exact ⟨factoryPasses_iff st, fun _ => rfl, fun b hb => factoryRecord_of_fits hb⟩

end
end
section
/-! PROOF. RECORD_END: what the link shows, in parts, and what the end of a record does (R19 to R25, R30, R31). -/

namespace Sys2Proof.Machine

/-! ## How long a line has been at the stop level -/

theorem quietAfter_append (q : Nat) (l m : List LineRun) : quietAfter q (l ++ m) = quietAfter (quietAfter q l) m := by
  induction l generalizing q with
  | nil => rfl
  | cons r l ih =>
    obtain ⟨level, n⟩ := r
    cases level <;> exact ih _

theorem quietAfter_le (q : Nat) (l : List LineRun) : quietAfter q l ≤ q + (l.map (·.ns)).sum := by
  induction l generalizing q with
  | nil => exact Nat.le_refl q
  | cons r l ih =>
    obtain ⟨level, n⟩ := r
    rw [List.map_cons, List.sum_cons]
    cases level with
    | dominant => exact (ih 0).trans (by omega)
    | recessive => exact (ih (q + n)).trans (Nat.add_assoc q n _).le

/-- The line of a byte begins with its start bit (R19). -/
theorem linkLine_cons (b : Byte) (bs : List Byte) :
    ∃ bits, linkLine (b :: bs) = ⟨.dominant, 20⟩ :: (bits ++ linkLine bs) ∧ bits.length = 9 ∧ ∀ r ∈ bits, r.ns = 20 := by
  have h := serialLine_cons 20 b bs
  refine ⟨((linkLine (b :: bs)).drop 1).take 9, ?_, ?_, fun r hr => ?_⟩
  · rw [linkLine, linkLine]
    rw [show Config.linkBitNs = 20 from rfl, h]
    rfl
  · rw [linkLine, show Config.linkBitNs = 20 from rfl, h]
    rfl
  · exact serialLine_ns 20 _ r (List.mem_of_mem_drop (List.mem_of_mem_take hr))

/-- The bytes of a record never leave the link at the stop level for 1 µs. -/
theorem quietAfter_take_linkLine (bs : List Byte) {q : Nat} (hq : q < 1000) (k : Nat) :
    quietAfter q ((linkLine bs).take k) < 1000 := by
  induction bs generalizing q k with
  | nil => exact hq.trans_le' (by rw [show linkLine [] = [] from rfl, List.take_nil]; exact Nat.le_refl q)
  | cons b bs ih =>
    obtain ⟨bits, heq, hlen, hns⟩ := linkLine_cons b bs
    cases k with
    | zero => exact hq
    | succ k =>
      have hbits : ∀ m : List LineRun, (∀ r ∈ m, r ∈ bits) → m.length ≤ 9 → quietAfter 0 m < 1000 := fun m hm hle => by
        have hsum : (m.map (·.ns)).sum ≤ 180 := by
          refine (List.sum_le_card_nsmul _ 20 fun n hn => ?_).trans ?_
          · obtain ⟨r, hr, rfl⟩ := List.mem_map.mp hn
            exact (hns r (hm r hr)).le
          · rw [List.length_map, smul_eq_mul]
            omega
        exact (quietAfter_le 0 m).trans_lt (by omega)
      rw [heq, List.take_succ_cons, List.take_append]
      show quietAfter 0 (bits.take k ++ (linkLine bs).take (k - bits.length)) < 1000
      rw [quietAfter_append]
      exact ih (hbits _ (fun r hr => List.mem_of_mem_take hr) (by rw [List.length_take]; omega)) _

/-- The time at the stop level behind a line of equal bit times: the bit times at its end, and what was before if no other came. -/
theorem quietAfter_levels (q : Nat) (ls : List Level) :
    quietAfter q (ls.map (fun l => ⟨l, 20⟩)) =
      (if .dominant ∈ ls then 0 else q) + 20 * (ls.reverse.takeWhile (fun l => decide (l = .recessive))).length := by
  induction ls using List.reverseRecOn with
  | nil => rfl
  | append_singleton ls l ih =>
    rw [List.map_append, quietAfter_append, ih, List.reverse_append]
    cases l with
    | dominant => simp [quietAfter]
    | recessive =>
      simp only [List.map_cons, List.map_nil, quietAfter, List.mem_append, List.mem_singleton, reduceCtorEq, or_false,
        List.reverse_cons, List.reverse_nil, List.nil_append, List.cons_append, decide_true, List.takeWhile_cons_of_pos,
        List.length_cons]
      omega

theorem dominant_mem_frameLevels (b : Byte) (bs : List Byte) : Level.dominant ∈ frameLevels (b :: bs) := by
  rw [frameLevels, List.flatMap_cons, byteLevels]
  exact List.mem_append_left _ (List.mem_cons_self ..)

/-! ## The parts of a link -/

theorem realRuns_append (l m : List LineRun) : realRuns (l ++ m) = realRuns l ++ realRuns m := List.filter_append ..

theorem realRuns_linkLine (bs : List Byte) : realRuns (linkLine bs) = linkLine bs := realRuns_serialLine (by decide) bs

theorem realRuns_recessive (m : Nat) : ∀ r ∈ realRuns [⟨.recessive, m⟩], r.level = .recessive := by
  intro r hr
  obtain rfl := List.mem_singleton.mp (List.mem_of_mem_filter hr)
  rfl

theorem realRuns_of_pos {r : LineRun} (h : 0 < r.ns) : realRuns [r] = [r] := by
  simp [realRuns, h]

/-- A stretch of no length does not count. -/
theorem quietAfter_realRuns (q n : Nat) : quietAfter q (realRuns [⟨.recessive, n⟩]) = q + n := by
  cases n with
  | zero => rfl
  | succ n => rw [realRuns_of_pos (Nat.succ_pos n)]; rfl

/-- Adding stretches to the front of the parts' first. -/
theorem foldr_addRun (l p : List LineRun) (e : Bool) (more : List (List LineRun × Bool)) :
    l.foldr addRun ((p, e) :: more) = (l ++ p, e) :: more := by
  induction l with
  | nil => rfl
  | cons r l ih => rw [List.foldr_cons, ih]; rfl

/-- A link that ends with 1 µs at the stop level, or longer: its last part is at the stop level, and the part before it has ended. -/
theorem cutAtIdle_ends (quiet n : Nat) (hn : 1000 ≤ n) (l : List LineRun) :
    ∃ parts last, cutAtIdle quiet (l ++ [⟨.recessive, n⟩]) = parts ++ [(last, false)] ∧ (∀ r ∈ last, r.level = .recessive) ∧
      ((parts = [] ∧ 1000 ≤ quiet) ∨ ∃ front p, parts = front ++ [(p, true)]) := by
  have hadd : ∀ r parts last, (∃ front p, parts = front ++ [(p, true)]) →
      ∃ parts', addRun r (parts ++ [(last, false)]) = parts' ++ [(last, false)] ∧ ∃ front p, parts' = front ++ [(p, true)] := by
    rintro r _ last ⟨front, p, rfl⟩
    cases front with
    | nil => exact ⟨[(r :: p, true)], rfl, [], _, rfl⟩
    | cons f front => exact ⟨(r :: f.1, f.2) :: front ++ [(p, true)], rfl, _, _, rfl⟩
  induction l generalizing quiet with
  | nil =>
    by_cases hq : quiet < 1000
    · refine ⟨[([], true)], [], ?_, nofun, .inr ⟨[], [], rfl⟩⟩
      exact cutAtIdle_idle quiet n [] hq (Nat.le_add_left_of_le hn)
    · refine ⟨[], [⟨.recessive, n⟩], ?_, by simp, .inl ⟨rfl, Nat.not_lt.mp hq⟩⟩
      exact if_neg fun h => hq h.1
  | cons r l ih =>
    obtain ⟨level, m⟩ := r
    cases level with
    | dominant =>
      obtain ⟨parts, last, heq, hlast, ⟨-, hno⟩ | hends⟩ := ih 0
      · exact absurd hno (by decide)
      · obtain ⟨parts', hparts', hends'⟩ := hadd ⟨.dominant, m⟩ parts last hends
        exact ⟨parts', last, by rw [List.cons_append, cutAtIdle, heq, hparts'], hlast, .inr hends'⟩
    | recessive =>
      obtain ⟨parts, last, heq, hlast, hcase⟩ := ih (quiet + m)
      by_cases hcut : quiet < Config.linkIdleNs ∧ Config.linkIdleNs ≤ quiet + m
      · refine ⟨([], true) :: parts, last, by rw [List.cons_append, cutAtIdle, if_pos hcut, heq]; rfl, hlast, .inr ?_⟩
        obtain ⟨rfl, -⟩ | ⟨front, p, rfl⟩ := hcase
        · exact ⟨[], [], rfl⟩
        · exact ⟨([], true) :: front, p, rfl⟩
      · have hstep : cutAtIdle quiet (⟨.recessive, m⟩ :: l ++ [⟨.recessive, n⟩]) = addRun ⟨.recessive, m⟩ (parts ++ [(last, false)]) := by
          rw [List.cons_append, cutAtIdle, if_neg hcut, heq]
        obtain ⟨rfl, hlong⟩ | hends := hcase
        · refine ⟨[], ⟨.recessive, m⟩ :: last, hstep, List.forall_mem_cons.mpr ⟨rfl, hlast⟩, .inl ⟨rfl, ?_⟩⟩
          exact Nat.not_lt.mp fun hq => hcut ⟨hq, hlong⟩
        · obtain ⟨parts', hparts', hends'⟩ := hadd ⟨.recessive, m⟩ parts last hends
          exact ⟨parts', last, by rw [hstep, hparts'], hlast, .inr hends'⟩

/-! ## Reading a part -/

/-- Stretches at the stop level before a part do not change what is read of it. -/
theorem readLink_append_of_recessive {l : List LineRun} (m : List LineRun) (h : ∀ r ∈ l, r.level = .recessive) :
    readLink (l ++ m) = readLink m := by
  have hskip : (l ++ m).dropWhile (fun r => decide (r.level = .recessive)) = m.dropWhile (fun r => decide (r.level = .recessive)) :=
    List.dropWhile_append_of_pos fun r hr => decide_eq_true (h r hr)
  rw [readLink, readLink, readSerial, readSerial, hskip]

theorem readLink_of_recessive {l : List LineRun} (h : ∀ r ∈ l, r.level = .recessive) : readLink l = some [] := by
  rw [← List.append_nil l, readLink_append_of_recessive [] h]
  rfl

/-- A link that leaves the stop level for more than nine bit times and a half has no unit with a stop bit (12.6). -/
theorem readLink_long_dominant {k : Nat} (hk : 190 < k) : readLink [⟨.dominant, k⟩] = none := by
  have hlevel : levelAt [⟨.dominant, k⟩] (bitMiddle Config.linkBitNs 9) = .dominant := by
    simp [levelAt, bitMiddle, Config.linkBitNs, hk]
  show readBytes Config.linkBitNs Config.linkIdleNs 1 [⟨.dominant, k⟩] = none
  simp only [readBytes, hlevel]

theorem collect_of_bytes {part : List LineRun} {bytes : List Byte} (h : readLink part = some bytes) (b : PixelRx) :
    collect part b = { b with buffer := if b.inTail then b.buffer else (b.buffer ++ bytes).take 6148 } := by
  unfold collect
  split
  · rfl
  · rw [h]; rfl

/-- A part at the stop level brings nothing to an empty buffer. -/
theorem takePart_recessive (tk : Taking) {s : State} {l : List LineRun} (h : ∀ r ∈ l, r.level = .recessive) (hbuffer : s.rx.buffer = []) :
    takePart tk s (l, false) = s := by
  have hrx : collect l s.rx = s.rx := by
    have hnew : (if s.rx.inTail then s.rx.buffer else (s.rx.buffer ++ []).take 6148) = s.rx.buffer := by
      rw [hbuffer]
      exact ite_self _
    rw [collect_of_bytes (readLink_of_recessive h), hnew]
  show s.setRx (collect l s.rx) = s
  rw [hrx]
  rfl

theorem takePart_append_of_recessive (tk : Taking) (s : State) {l : List LineRun} (h : ∀ r ∈ l, r.level = .recessive)
    (m : List LineRun) (e : Bool) : takePart tk s (l ++ m, e) = takePart tk s (m, e) := by
  have hrx : collect (l ++ m) s.rx = collect m s.rx := by
    unfold collect
    rw [readLink_append_of_recessive m h]
  unfold takePart
  rw [hrx]

end Sys2Proof.Machine
end
section
/-! PROOF. RECORD_END and INTERVAL_TIMER_EXPIRY (R19 to R27, R30, R31). -/

namespace Sys2Proof.Machine

/-! ## The end of a record -/

theorem linkLine_eq (bs : List Byte) : linkLine bs = (frameLevels bs).map (fun l => ⟨l, 20⟩) := rfl

/-- The idle that the link shows behind a record's bytes, `m` ns at the stop level before them and `n` behind. -/
theorem quietAfter_link (bs : List Byte) (m n : Nat) :
    quietAfter 0 (realRuns [⟨.recessive, m⟩] ++ linkLine bs) + n =
      if bs = [] then m + n
      else 20 * ((frameLevels bs).reverse.takeWhile (fun l => decide (l = .recessive))).length + n := by
  rw [quietAfter_append, quietAfter_realRuns, linkLine_eq, quietAfter_levels]
  cases bs with
  | nil => rw [if_pos rfl]; simp [frameLevels]
  | cons b bs => rw [if_pos (dominant_mem_frameLevels b bs), if_neg (List.cons_ne_nil b bs), Nat.zero_add]

theorem quietAfter_take_link (bs : List Byte) {m : Nat} (hm : m < 1000) (k : Nat) :
    quietAfter 0 ((realRuns [⟨.recessive, m⟩] ++ linkLine bs).take k) < 1000 := by
  rw [List.take_append, quietAfter_append]
  refine quietAfter_take_linkLine bs ?_ _
  have hle : quietAfter 0 ((realRuns [⟨.recessive, m⟩]).take k) ≤ 0 + m := by
    refine (quietAfter_le 0 _).trans (Nat.add_le_add_left ?_ 0)
    cases m with
    | zero => simp [realRuns]
    | succ m =>
      rw [realRuns_of_pos (Nat.succ_pos m)]
      cases k <;> simp
  omega

/-- The parts of the bytes of a record behind a short idle: one, ended when the link has stayed at the stop level for 1 µs (R19). -/
theorem linkParts_record (bs : List Byte) {m n : Nat} (hm : m < 1000) :
    let before := realRuns [⟨.recessive, m⟩] ++ linkLine bs
    (quietAfter 0 before + n < 1000 →
        linkParts (⟨.recessive, m⟩ :: (linkLine bs ++ [⟨.recessive, n⟩])) =
          [(realRuns [⟨.recessive, m⟩] ++ (linkLine bs ++ realRuns [⟨.recessive, n⟩]), false)]) ∧
      (1000 ≤ quietAfter 0 before + n →
        linkParts (⟨.recessive, m⟩ :: (linkLine bs ++ [⟨.recessive, n⟩])) = [(before, true), ([], false)]) := by
  intro before
  have hreal : realRuns (⟨.recessive, m⟩ :: (linkLine bs ++ [⟨.recessive, n⟩])) = before ++ realRuns [⟨.recessive, n⟩] := by
    rw [← List.singleton_append, realRuns_append, realRuns_append, realRuns_linkLine, ← List.append_assoc]
  have hcut : linkParts (⟨.recessive, m⟩ :: (linkLine bs ++ [⟨.recessive, n⟩])) =
      before.foldr addRun (cutAtIdle (quietAfter 0 before) (realRuns [⟨.recessive, n⟩])) := by
    rw [linkParts, hreal, cutAtIdle_append 0 _ _ fun k _ => quietAfter_take_link bs hm k]
  have hquiet : quietAfter 0 before < 1000 := by
    have := quietAfter_take_link bs hm before.length
    rwa [List.take_length] at this
  rw [hcut]
  refine ⟨fun hshort => ?_, fun hlong => ?_⟩
  · have hlast : cutAtIdle (quietAfter 0 before) (realRuns [⟨.recessive, n⟩]) = [(realRuns [⟨.recessive, n⟩], false)] := by
      cases n with
      | zero => rfl
      | succ n =>
        have hno : ¬ (quietAfter 0 before < Config.linkIdleNs ∧ Config.linkIdleNs ≤ quietAfter 0 before + (n + 1)) :=
          fun h => Nat.not_le.mpr hshort h.2
        rw [realRuns_of_pos (Nat.succ_pos n), cutAtIdle, if_neg hno]
        rfl
    rw [hlast, foldr_addRun, List.append_assoc]
  · have hlast : cutAtIdle (quietAfter 0 before) (realRuns [⟨.recessive, n⟩]) = [([], true), ([], false)] := by
      rw [realRuns_of_pos (show 0 < n by omega)]
      exact cutAtIdle_idle _ n [] hquiet hlong
    rw [hlast, foldr_addRun, List.append_nil]

theorem exec_recordEnd {s : State} (link : List LineRun) (tk : Taking) (h : s.rx.started = true) :
    exec (.recordEnd link tk) s = .next ((linkParts link).foldl (takePart tk) s) := if_pos h

/-- Behind a record's end the buffer is empty and no tail is discarded (R19, R20). -/
theorem endRecord_buffer (tk : Taking) (s : State) :
    (endRecord tk s).rx.buffer = [] ∧ (endRecord tk s).rx.inTail = false ∧ (endRecord tk s).rx.started = s.rx.started := by
  obtain h | ⟨f, htail, -, h⟩ := endRecord_cases s tk
  · rw [h]
    exact ⟨rfl, rfl, rfl⟩
  · have hrx : (endRecord tk s).rx = (acceptFrame f s).rx := by rw [h]; simp
    have hdark : (noticeLeavingDark s).rx = s.rx := by simp
    rw [hrx]
    refine ⟨rfl, ?_, ?_⟩
    · show (noticeLeavingDark s).rx.inTail = false
      rw [hdark, htail]
    · show (noticeLeavingDark s).rx.started = s.rx.started
      rw [hdark]

theorem takePart_ended (tk : Taking) (s : State) (part : List LineRun) :
    (takePart tk s (part, true)).rx.buffer = [] ∧ (takePart tk s (part, true)).rx.started = s.rx.started := by
  obtain ⟨hbuffer, -, hstarted⟩ := endRecord_buffer tk (s.setRx (collect part s.rx))
  refine ⟨hbuffer, hstarted.trans ?_⟩
  rw [collect_frame]
  rfl

theorem takePart_started (tk : Taking) (s : State) (part : List LineRun × Bool) :
    (takePart tk s part).rx.started = s.rx.started := by
  obtain ⟨l, ended⟩ := part
  cases ended with
  | true => exact (takePart_ended tk s l).2
  | false =>
    show (collect l s.rx).started = s.rx.started
    rw [collect_frame]

theorem foldl_takePart_started (tk : Taking) (parts : List (List LineRun × Bool)) (s : State) :
    (parts.foldl (takePart tk) s).rx.started = s.rx.started := by
  induction parts generalizing s with
  | nil => rfl
  | cons part parts ih => exact (ih _).trans (takePart_started tk s part)

/-- An end whose record is not accepted, or of a tail, empties the buffer and changes nothing else (R20). -/
theorem endRecord_discards (tk : Taking) {s : State} (h : s.rx.inTail = true ∨ readRecord s.rx.buffer = none) :
    endRecord tk s = discardRecord s := by
  obtain hd | ⟨f, htail, hread, -⟩ := endRecord_cases s tk
  · exact hd
  · obtain h | h := h
    · rw [htail] at h; cases h
    · rw [hread] at h; cases h

theorem endRecord_accepts (tk : Taking) {s : State} {f : PixelFrame} (htail : s.rx.inTail = false)
    (hread : readRecord s.rx.buffer = some f) : endRecord tk s = fillBanks (boundary tk (acceptFrame f s)) := by
  simp only [endRecord, htail, hread, Bool.false_eq_true, if_false]

/-! ## An accepted frame (R21 to R23, R30) -/

theorem tget_storedFrame (f : PixelFrame) {c : Nat} (hc : c < Config.cellCount) :
    tget (storedFrame f) c 0 =
      match f with
      | .video vs => min 4095 (vs.getD c 0)
      | .blank => 0 := by
  cases f with
  | blank => exact tget_replicate c 0
  | video vs =>
    rw [storedFrame, tget_tofList _ _ _ _ hc]
    exact List.getD_map vs 0 (fun v => min Config.maxValue v) (n := c)

/-- What an accepted frame makes of the tile whose receiver stands at `b`. -/
theorem acceptFrame_eq (f : PixelFrame) (s : State) :
    acceptFrame f s =
      { s with
        rx := { s.rx with frameStore := storedFrame f, link := .locked, holding := 0, timer := .oneAndHalfT, buffer := [] }
        port := (noticeLeavingDark s).port
        seam := (noticeLeavingDark s).seam } := by
  have hdark : noticeLeavingDark s = { s with port := (noticeLeavingDark s).port, seam := (noticeLeavingDark s).seam } := by
    unfold noticeLeavingDark
    split
    · exact raiseNotice_eq s
    · rfl
  have hrx : (noticeLeavingDark s).rx = s.rx := by simp
  rw [acceptFrame, hrx]
  exact congrArg (fun t : State => t.setRx _) hdark

theorem noticeLeavingDark_of_dark {s : State} (h : s.rx.link = .dark) : noticeLeavingDark s = raiseNotice s := by
  simp only [noticeLeavingDark, h]

theorem noticeLeavingDark_of_lit {s : State} (h : s.rx.link ≠ .dark) : noticeLeavingDark s = s := by
  unfold noticeLeavingDark
  split
  · next hd => exact absurd hd h
  · rfl

/-- An accepted frame on the tile with some data in its buffer: the receiver's changes, and the notice of a link that leaves DARK. -/
theorem acceptFrame_on (f : PixelFrame) (s : State) (buffer : List Byte) :
    let u := acceptFrame f (s.setRx { s.rx with buffer := buffer })
    u.rx = { s.rx with frameStore := u.rx.frameStore, link := .locked, holding := 0, timer := .oneAndHalfT, buffer := [] } ∧
      (∀ c, c < Config.cellCount →
        tget u.rx.frameStore c 0 =
          match f with
          | .video vs => min 4095 (vs.getD c 0)
          | .blank => 0) ∧
      (s.rx.link = .dark → NoticeRaised s u ∧ OnlyNoticeItem s u) ∧
      (s.rx.link ≠ .dark → u.port = s.port ∧ u.seam = s.seam) ∧ u = { s with rx := u.rx, port := u.port, seam := u.seam } := by
  intro u
  have hu : u = acceptFrame f (s.setRx { s.rx with buffer := buffer }) := rfl
  rw [acceptFrame_eq] at hu
  rw [hu]
  refine ⟨rfl, fun c hc => tget_storedFrame f hc, fun hdark => ?_, fun hlit => ?_, rfl⟩
  · have hraises := noticeLeavingDark_of_dark (s := s.setRx { s.rx with buffer := buffer }) hdark
    rw [hraises]
    exact ⟨raiseNotice_raises (s.setRx _), raiseNotice_onlyNoticeItem (s.setRx _)⟩
  · have hsame := noticeLeavingDark_of_lit (s := s.setRx { s.rx with buffer := buffer }) hlit
    rw [hsame]
    exact ⟨rfl, rfl⟩

/-! ## The interval timer (R24, R25) -/

theorem expireLink_eq (b : PixelRx) :
    { expireLink b with timer := .oneT } =
      { b with
        timer := .oneT
        link := if b.link = .locked then .holding else b.link
        holding := if b.link = .locked then 1 else if b.link = .holding then min 30 (b.holding + 1) else b.holding } := by
  obtain ⟨started, link, frameStore, buffer, inTail, timer, holding, interval⟩ := b
  cases link <;> rfl

theorem exec_intervalTimerExpiry {s : State} (tk : Taking) (h : s.rx.timer ≠ .stopped) :
    exec (.intervalTimerExpiry tk) s = .next (fillBanks (takeDark (boundary tk (expireInterval s)))) := by
  show execIntervalTimerExpiry tk s = _
  unfold execIntervalTimerExpiry
  split
  · next hs => exact absurd hs h
  · rfl

theorem darkDue_iff (s : State) : darkDue s = true ↔ s.rx.link = .holding ∧ 30 ≤ s.rx.holding := by
  rw [darkDue, Bool.and_eq_true, decide_eq_true_iff, decide_eq_true_iff]
  rfl

end Sys2Proof.Machine

/-! ## The statements -/

section
open Sys2Proof Sys2Proof.Machine

/-- Settles O12: the link in its parts, then the two ends of a record. -/
theorem acceptedRecordLocksTheLink : Obligations.AcceptedRecordLocksTheLink := by
  unfold Obligations.AcceptedRecordLocksTheLink
  refine ⟨fun s bytes m n tk hstarted hm => ?_, fun bytes => ?_, fun s tk k n hstarted hk hn => ?_,
    fun s tk before rest n k hstarted hn hk => ?_, fun s link tk hstopped => ?_⟩
  · obtain ⟨hshortParts, hlongParts⟩ := linkParts_record bytes (n := n) hm
    rw [quietAfter_link] at hshortParts hlongParts
    have hbytes : ∀ idle : List LineRun, (∀ r ∈ idle, r.level = .recessive) →
        collect (realRuns [⟨.recessive, m⟩] ++ (linkLine bytes ++ idle)) s.rx =
          { s.rx with buffer := if s.rx.inTail then s.rx.buffer else (s.rx.buffer ++ bytes).take 6148 } := fun idle hidle =>
      collect_of_bytes (readLink_linkLine bytes _ idle (realRuns_recessive m) hidle) s.rx
    have hbefore := hbytes [] nofun
    rw [List.append_nil] at hbefore
    have hexec : ∀ link, exec (.recordEnd link tk) s = _ := fun link => exec_recordEnd link tk hstarted
    refine ⟨fun hshort => ?_, fun f hlong htail hread => ?_, fun hlong hrefused => ?_⟩
    · rw [hexec, hshortParts hshort]
      exact congrArg (fun b => Host.Outcome.next (s.setRx b)) (hbytes _ (realRuns_recessive n))
    · have hcollected : collect (realRuns [⟨.recessive, m⟩] ++ linkLine bytes) s.rx =
          { s.rx with buffer := (s.rx.buffer ++ bytes).take (Config.recordBytes + 1) } := by
        rw [hbefore, htail]
        rfl
      have haccepts := endRecord_accepts tk (f := f)
        (s := s.setRx { s.rx with buffer := (s.rx.buffer ++ bytes).take (Config.recordBytes + 1) }) htail
        ((readRecord_take _).trans hread)
      refine ⟨_, ?_, acceptFrame_on f s ((s.rx.buffer ++ bytes).take (Config.recordBytes + 1))⟩
      rw [hexec, hlongParts hlong, List.foldl_cons, List.foldl_cons, List.foldl_nil,
        takePart_recessive tk (List.forall_mem_nil _) (takePart_ended tk s _).1, ← haccepts, ← hcollected]
      rfl
    · have hrefuses : (s.setRx (collect (realRuns [⟨.recessive, m⟩] ++ linkLine bytes) s.rx)).rx.inTail = true ∨
          readRecord (s.setRx (collect (realRuns [⟨.recessive, m⟩] ++ linkLine bytes) s.rx)).rx.buffer = none := by
        rw [hbefore]
        cases htail : s.rx.inTail with
        | true => exact .inl htail
        | false =>
          rw [htail] at hrefused
          exact .inr ((readRecord_take _).trans (hrefused.resolve_left Bool.false_ne_true))
      rw [hexec, hlongParts hlong, List.foldl_cons, List.foldl_cons, List.foldl_nil,
        takePart_recessive tk (List.forall_mem_nil _) (takePart_ended tk s _).1]
      refine (congrArg Host.Outcome.next (endRecord_discards tk hrefuses)).trans ?_
      rw [hbefore]
      rfl
  · rw [linkLine_eq, frameLevels]
    refine congrArg (fun g => (bytes.flatMap g).map _) (funext fun b => ?_)
    rw [byteLevels, dataBits, List.map_map]
    rfl
  · have hparts : linkParts [⟨.dominant, k⟩, ⟨.recessive, n⟩] = [([⟨.dominant, k⟩], true), ([], false)] := by
      have hreal : realRuns [⟨.dominant, k⟩, ⟨.recessive, n⟩] = [⟨.dominant, k⟩, ⟨.recessive, n⟩] := by
        rw [← List.singleton_append, realRuns_append, realRuns_of_pos (show 0 < k by omega), realRuns_of_pos (show 0 < n by omega)]
      rw [linkParts, hreal, cutAtIdle, cutAtIdle_idle 0 n [] (by decide) ((Nat.zero_add n).symm ▸ hn)]
      rfl
    have hcollect : collect [⟨.dominant, k⟩] s.rx = { s.rx with inTail := true } := by
      unfold collect
      split
      · next htail => rw [← htail]
      · rw [readLink_long_dominant hk]
    rw [exec_recordEnd _ tk hstarted, hparts, List.foldl_cons, List.foldl_cons, List.foldl_nil,
      takePart_recessive tk (List.forall_mem_nil _) (takePart_ended tk s _).1]
    show Host.Outcome.next (endRecord tk (s.setRx (collect [⟨.dominant, k⟩] s.rx))) = _
    rw [hcollect, endRecord_discards tk (.inl rfl)]
    rfl
  · have hn' : 0 < n := by omega
    have hfront : realRuns (before ++ [⟨.recessive, n⟩]) = realRuns before ++ [⟨.recessive, n⟩] := by
      rw [realRuns_append, realRuns_of_pos hn']
    have hback : realRuns (⟨.dominant, k⟩ :: rest) = ⟨.dominant, k⟩ :: realRuns rest := by
      rw [← List.singleton_append, realRuns_append, realRuns_of_pos hk, List.singleton_append]
    have hall : realRuns (before ++ ⟨.recessive, n⟩ :: ⟨.dominant, k⟩ :: rest) =
        (realRuns before ++ [⟨.recessive, n⟩]) ++ ⟨.dominant, k⟩ :: realRuns rest := by
      rw [← List.singleton_append, ← List.append_assoc, realRuns_append, hfront, hback]
    obtain ⟨parts, last, first, more, hparts, hfirst, hsplice⟩ :=
      cutAtIdle_splice 0 k (realRuns before ++ [⟨.recessive, n⟩]) (realRuns rest)
    obtain ⟨parts', last', hparts', hlast', hends⟩ := cutAtIdle_ends 0 n hn (realRuns before)
    obtain ⟨rfl, hlasts⟩ := List.append_inj' (hparts'.symm.trans hparts) rfl
    cases hlasts
    obtain ⟨-, hno⟩ | ⟨front, p, rfl⟩ := hends
    · exact absurd hno (by decide)
    have hempty : (((front ++ [(p, true)]).foldl (takePart tk) s)).rx.buffer = [] := by
      rw [List.foldl_append]
      exact (takePart_ended tk _ p).1
    generalize hx : (front ++ [(p, true)]).foldl (takePart tk) s = x at hempty
    have hxstarted : x.rx.started = true := by rw [← hx, foldl_takePart_started, hstarted]
    refine ⟨x, ?_, ?_⟩
    · rw [exec_recordEnd _ tk hstarted, linkParts, hfront, hparts, List.foldl_append, hx]
      exact congrArg _ (takePart_recessive tk hlast' hempty)
    · rw [exec_recordEnd _ tk hstarted, exec_recordEnd _ tk hxstarted, linkParts, linkParts, hall, hback, hsplice, hfirst,
        List.foldl_append, hx, List.foldl_cons, List.foldl_cons, takePart_append_of_recessive tk x hlast']
  · exact if_neg (by rw [hstopped]; exact Bool.false_ne_true)

/-- Settles O13: the receiver's changes are written out in `expireLink_eq`, and the entry into DARK has one condition. -/
theorem silentLinkHoldsThenGoesDark : Obligations.SilentLinkHoldsThenGoesDark := by
  unfold Obligations.SilentLinkHoldsThenGoesDark
  refine ⟨fun s tk htimer _ => ⟨_, exec_intervalTimerExpiry tk htimer, ?_⟩, fun s tk hstopped => ?_, fun s hlink hcount => ?_,
    fun s hno => ?_⟩
  · exact congrArg s.setRx (expireLink_eq s.rx)
  · show execIntervalTimerExpiry tk s = _
    simp only [execIntervalTimerExpiry, hstopped]
  · have hdue : darkDue s = true := (darkDue_iff s).mpr ⟨hlink, hcount⟩
    refine ⟨takeDark s, if_pos hdue, rfl, ?_⟩
    rw [takeDark_of_due s hdue]
    generalize hr : s.setRx { s.rx with link := .dark } = r
    have hraised : NoticeRaised s (raiseNotice r) := by rw [← hr]; exact raiseNotice_raises (s.setRx _)
    have honly : OnlyNoticeItem s (raiseNotice r) := by rw [← hr]; exact raiseNotice_onlyNoticeItem (s.setRx _)
    have hrx : (raiseNotice r).rx = { s.rx with link := .dark } := by rw [raiseNotice_eq, ← hr]; rfl
    refine ⟨hrx, hraised, honly, ?_⟩
    rw [hrx, raiseNotice_eq, ← hr]
    rfl
  · have hnot : darkDue s = false := by
      rw [← Bool.not_eq_true, darkDue_iff]
      rintro ⟨hlink, hcount⟩
      exact hno.elim (fun h => h hlink) fun h => Nat.not_le.mpr h hcount
    exact ⟨takeDark_of_not_due s hnot, if_neg (by rw [hnot]; exact Bool.false_ne_true)⟩

end
end
section
/-! PROOF. The boundary in its parts: which part touches which block, item and notice (R27). -/

namespace Sys2Proof.Machine

/-! ## The parts in order -/

/-- The tile at a boundary's computation: the work of the blocks before the Drive Value Unit (log entry 7). -/
def beforeDrive (t : Taking) (s : State) : State :=
  refreshBoundary t (farBoundary t (install (healthBoundary t (judgePeriod t s))))

theorem boundary_of_display {s : State} (t : Taking) (h : displayRuns s = true) :
    boundary t s = governorBoundary t (driveBoundary (beforeDrive t s)) := if_pos h

theorem boundary_of_no_display {s : State} (t : Taking) (h : displayRuns s = false) : boundary t s = install s :=
  if_neg (by rw [h]; exact Bool.false_ne_true)

theorem beforeDrive_sup (t : Taking) (s : State) : (beforeDrive t s).sup = s.sup := by simp [beforeDrive]

theorem beforeDrive_rx (t : Taking) (s : State) : (beforeDrive t s).rx = s.rx := by simp [beforeDrive]

theorem beforeDrive_map (t : Taking) (s : State) : (beforeDrive t s).map = s.map := by simp [beforeDrive]

theorem beforeDrive_drive (t : Taking) (s : State) : (beforeDrive t s).drive = s.drive := by simp [beforeDrive]

theorem beforeDrive_gov (t : Taking) (s : State) : (beforeDrive t s).gov = s.gov := by simp [beforeDrive]

theorem beforeDrive_scan (t : Taking) (s : State) : (beforeDrive t s).scan = (judgePeriod t s).scan := by simp [beforeDrive]

/-! ## Which part touches which item -/

/-- The Seam Link Controller of `u` is that of `s` but for the items that a boundary may make pending. -/
def ItemsMoved (s u : State) : Prop :=
  u.seam =
    { s.seam with
      items :=
        { s.seam.items with
          edges := u.seam.items.edges, load := u.seam.items.load, tileNotice := u.seam.items.tileNotice } }

theorem ItemsMoved.of_seam {s u : State} (h : u.seam = s.seam) : ItemsMoved s u := by
  unfold ItemsMoved
  rw [h]

theorem ItemsMoved.trans {s u v : State} (h : ItemsMoved s u) (h' : ItemsMoved u v) : ItemsMoved s v := by
  unfold ItemsMoved at *
  rw [h']
  dsimp only
  rw [h]

/-- The Seam Link Controller of `u` is that of `s` but for the edges' items. -/
def EdgesMoved (s u : State) : Prop := u.seam = { s.seam with items := { s.seam.items with edges := u.seam.items.edges } }

/-- The Seam Link Controller of `u` is that of `s` but for the LOAD's item. -/
def LoadMoved (s u : State) : Prop := u.seam = { s.seam with items := { s.seam.items with load := u.seam.items.load } }

theorem ItemsMoved.of_notice {s u : State} (h : OnlyNoticeItem s u) : ItemsMoved s u := by
  unfold OnlyNoticeItem at h
  unfold ItemsMoved
  rw [h]

theorem ItemsMoved.of_edges {s u : State} (h : EdgesMoved s u) : ItemsMoved s u := by
  unfold EdgesMoved at h
  unfold ItemsMoved
  rw [h]

theorem ItemsMoved.of_load {s u : State} (h : LoadMoved s u) : ItemsMoved s u := by
  unfold LoadMoved at h
  unfold ItemsMoved
  rw [h]

theorem OnlyNoticeItem.of_seam {s u : State} (h : u.seam = s.seam) : OnlyNoticeItem s u := by
  unfold OnlyNoticeItem
  rw [h]

theorem EdgesMoved.of_seam {s u : State} (h : u.seam = s.seam) : EdgesMoved s u := by
  unfold EdgesMoved
  rw [h]

theorem LoadMoved.of_seam {s u : State} (h : u.seam = s.seam) : LoadMoved s u := by
  unfold LoadMoved
  rw [h]

theorem pendLoad_moved {s r : State} (h : r.seam = s.seam) : LoadMoved s (pendLoad r) := by
  unfold LoadMoved
  rw [pendLoad_eq, h]

theorem pendEdges_moved (p : Edge → Bool) {s r : State} (h : r.seam = s.seam) : EdgesMoved s (pendEdges p r) := by
  unfold EdgesMoved
  rw [pendEdges_eq, h]

theorem raiseNotice_moved {s r : State} (h : r.seam = s.seam) : OnlyNoticeItem s (raiseNotice r) := by
  unfold OnlyNoticeItem
  rw [raiseNotice_only, h]

theorem judgePeriod_moved (t : Taking) (s : State) : OnlyNoticeItem s (judgePeriod t s) := by
  cases t with
  | within =>
    show OnlyNoticeItem s (takeBlankClear (s.setScan _))
    unfold takeBlankClear
    split
    · exact raiseNotice_moved rfl
    · exact OnlyNoticeItem.of_seam rfl
  | apart => exact OnlyNoticeItem.of_seam rfl

theorem healthBoundary_moved (t : Taking) (s : State) : OnlyNoticeItem s (healthBoundary t s) := by
  cases t with
  | within =>
    show OnlyNoticeItem s (takeAnomalyNotice (s.setHealth _))
    unfold takeAnomalyNotice
    split
    · exact raiseNotice_moved rfl
    · exact OnlyNoticeItem.of_seam rfl
  | apart => exact OnlyNoticeItem.of_seam rfl

theorem governorStep_moved (s : State) : OnlyNoticeItem s (governorStep s) := by
  unfold governorStep
  dsimp only
  split
  · exact raiseNotice_moved rfl
  · exact OnlyNoticeItem.of_seam rfl

theorem install_moved (s : State) : EdgesMoved s (install s) := by
  unfold install
  split
  · have hrerun : (startRerun (compareEdges (swapTables s))).seam = (compareEdges (swapTables s)).seam := by simp
    unfold EdgesMoved
    rw [hrerun]
    unfold compareEdges
    split
    · exact pendEdges_moved _ (by simp)
    · exact EdgesMoved.of_seam (by simp)
  · exact EdgesMoved.of_seam rfl

theorem refreshBoundary_moved (t : Taking) (s : State) : EdgesMoved s (refreshBoundary t s) := by
  unfold refreshBoundary
  split
  · cases t with
    | within =>
      show EdgesMoved s (takeEdgeRefresh (s.setConceal _))
      unfold takeEdgeRefresh
      split
      · exact pendEdges_moved _ rfl
      · exact EdgesMoved.of_seam rfl
    | apart => exact EdgesMoved.of_seam rfl
  · exact EdgesMoved.of_seam rfl

theorem announceBoundary_moved (t : Taking) (s : State) : LoadMoved s (announceBoundary t s) := by
  unfold announceBoundary
  split
  · cases t with
    | within =>
      show LoadMoved s (takeAnnouncement (s.setGov _))
      unfold takeAnnouncement
      split
      · exact pendLoad_moved rfl
      · exact LoadMoved.of_seam rfl
    | apart => exact LoadMoved.of_seam rfl
  · exact LoadMoved.of_seam rfl

theorem itemsMoved_boundary (s : State) : BoundaryKeeps (ItemsMoved s) where
  period := fun t _ h => h.trans (.of_notice (judgePeriod_moved t _))
  health := fun t _ h => h.trans (.of_notice (healthBoundary_moved t _))
  installed := fun _ h => h.trans (.of_edges (install_moved _))
  farAged := fun _ _ h => h.trans (ItemsMoved.of_seam (by simp))
  refreshed := fun t _ h => h.trans (.of_edges (refreshBoundary_moved t _))
  driven := fun _ _ h => (h.trans (ItemsMoved.of_seam (by simp))).trans (.of_notice (governorStep_moved _))
  announced := fun t _ h => h.trans (.of_load (announceBoundary_moved t _))

theorem boundary_itemsMoved (t : Taking) (s : State) : ItemsMoved s (boundary t s) :=
  (itemsMoved_boundary s).boundary_keeps t (ItemsMoved.of_seam rfl)

/-! ## The notice over several signals (R165) -/

/-- The tile notice stands as after one signal or several, taken on `s`: R165's cases, with the re-raise mark set when its frame was
composed, and the banks as they were. -/
def NoticeStands (s u : State) : Prop :=
  u.port = { s.port with notice := true, reraise := u.port.reraise } ∧ isComposed u .tileNotice = isComposed s .tileNotice ∧
    (s.port.notice = true →
      u.port.reraise = (s.port.reraise || isComposed s .tileNotice) ∧ u.seam.items.tileNotice = s.seam.items.tileNotice) ∧
    (s.port.notice = false → isComposed s .tileNotice = false →
      u.port.reraise = s.port.reraise ∧ u.seam.items.tileNotice = true)

/-- The port, the notice's item and its bank are those of `s`. -/
def NoticeKept (s u : State) : Prop :=
  u.port = s.port ∧ isComposed u .tileNotice = isComposed s .tileNotice ∧ u.seam.items.tileNotice = s.seam.items.tileNotice

theorem NoticeKept.of_eq {s u : State} (hport : u.port = s.port) (hseam : u.seam = s.seam) : NoticeKept s u :=
  ⟨hport, isComposed_congr s u .tileNotice (by rw [hseam]) (by rw [hseam]), by rw [hseam]⟩

theorem NoticeKept.trans {s u v : State} (h : NoticeKept s u) (h' : NoticeKept u v) : NoticeKept s v :=
  ⟨h'.1.trans h.1, h'.2.1.trans h.2.1, h'.2.2.trans h.2.2⟩

theorem NoticeStands.trans_kept {s u v : State} (h : NoticeStands s u) (h' : NoticeKept u v) : NoticeStands s v := by
  obtain ⟨hport, hbank, hup, hdown⟩ := h
  obtain ⟨hport', hbank', hitem'⟩ := h'
  unfold NoticeStands
  rw [hport', hbank', hitem']
  exact ⟨hport, hbank, hup, hdown⟩

theorem NoticeKept.trans_stands {s u v : State} (h : NoticeKept s u) (h' : NoticeStands u v) : NoticeStands s v := by
  obtain ⟨hport, hbank, hitem⟩ := h
  unfold NoticeStands at h'
  rw [hport, hbank, hitem] at h'
  exact h'

theorem NoticeStands.trans {s u v : State} (h : NoticeStands s u) (h' : NoticeStands u v) : NoticeStands s v := by
  obtain ⟨hport, hbank, hup, hdown⟩ := h
  obtain ⟨hport', hbank', hup', -⟩ := h'
  have hnotice : u.port.notice = true := by rw [hport]
  obtain ⟨hmark, hitem⟩ := hup' hnotice
  rw [hbank] at hmark
  refine ⟨by rw [hport', hport], hbank'.trans hbank, fun hn => ?_, fun hn hfree => ?_⟩
  · obtain ⟨hmark0, hitem0⟩ := hup hn
    exact ⟨by rw [hmark, hmark0, Bool.or_assoc, Bool.or_self], hitem.trans hitem0⟩
  · obtain ⟨hmark0, hitem0⟩ := hdown hn hfree
    exact ⟨by rw [hmark, hmark0, hfree, Bool.or_false], hitem.trans hitem0⟩

theorem NoticeStands.signal (s : State) : NoticeStands s (raiseNotice s) := by
  obtain ⟨hport, hitem⟩ := raiseNotice_raises s
  have hbank : isComposed (raiseNotice s) .tileNotice = isComposed s .tileNotice := isComposed_congr _ _ _ (by simp) (by simp)
  refine ⟨by rw [hport], hbank, fun hn => ?_, fun hn hfree => ?_⟩
  · rw [hitem, hport, hn]
    exact ⟨by rw [Bool.true_and], Bool.or_false _⟩
  · rw [hitem, hport, hn]
    exact ⟨by rw [Bool.false_and, Bool.or_false], Bool.or_true _⟩

/-- A part of the boundary raises the tile notice exactly when `raised` holds. -/
def NoticeMoves (raised : Prop) (s u : State) : Prop := (raised → NoticeStands s u) ∧ (¬raised → NoticeKept s u)

theorem NoticeMoves.never {s u : State} (hport : u.port = s.port) (hseam : u.seam = s.seam) : NoticeMoves False s u :=
  ⟨False.elim, fun _ => NoticeKept.of_eq hport hseam⟩

theorem NoticeMoves.trans {a b : Prop} {s u v : State} (h : NoticeMoves a s u) (h' : NoticeMoves b u v) :
    NoticeMoves (a ∨ b) s v := by
  refine ⟨fun hab => ?_, fun hab => (h.2 fun ha => hab (.inl ha)).trans (h'.2 fun hb => hab (.inr hb))⟩
  by_cases ha : a
  · by_cases hb : b
    · exact (h.1 ha).trans (h'.1 hb)
    · exact (h.1 ha).trans_kept (h'.2 hb)
  · exact (h.2 ha).trans_stands (h'.1 (hab.resolve_left ha))

theorem NoticeMoves.congr {a b : Prop} {s u : State} (hab : a ↔ b) (h : NoticeMoves a s u) : NoticeMoves b s u :=
  ⟨fun hb => h.1 (hab.mpr hb), fun hb => h.2 fun ha => hb (hab.mp ha)⟩

/-- An operation that only makes edges or the LOAD pending does not move the notice. -/
theorem NoticeMoves.of_items {s u : State} (hport : u.port = s.port) (hline : u.seam.lineBank = s.seam.lineBank)
    (hnext : u.seam.nextBank = s.seam.nextBank) (hitem : u.seam.items.tileNotice = s.seam.items.tileNotice) : NoticeMoves False s u :=
  ⟨False.elim, fun _ => ⟨hport, isComposed_congr _ _ _ hline hnext, hitem⟩⟩

end Sys2Proof.Machine
end
section
/-! PROOF. The boundary in READY_WAIT and RUNNING: the drive values, the period's judgement and the governor (chapters 1, 3, 5, 7). -/

namespace Sys2Proof.Machine

/-! ## Which part raises the notice (R165) -/

theorem takeBlankClear_notice (s : State) : NoticeMoves (blankClearDue s = true) s (takeBlankClear s) := by
  refine ⟨fun hdue => ?_, fun hnot => ?_⟩
  · rw [takeBlankClear, if_pos hdue]
    exact (NoticeKept.of_eq rfl rfl).trans_stands (NoticeStands.signal _)
  · rw [takeBlankClear, if_neg hnot]
    exact NoticeKept.of_eq rfl rfl

theorem judgePeriod_notice (t : Taking) (s : State) :
    NoticeMoves (t = .within ∧ s.scan.blank = true ∧ 16 ≤ runCountAfter s) s (judgePeriod t s) := by
  cases t with
  | within =>
    have hdue : blankClearDue (s.setScan { s.scan with runCount := runCountAfter s, marker := .none }) = true ↔
        (Taking.within = .within ∧ s.scan.blank = true ∧ 16 ≤ runCountAfter s) := by
      rw [blankClearDue, Bool.and_eq_true, decide_eq_true_iff]
      exact ⟨fun h => ⟨rfl, h⟩, fun h => h.2⟩
    have hset : NoticeMoves False s (s.setScan { s.scan with runCount := runCountAfter s, marker := .none }) := .never rfl rfl
    exact (hset.trans (takeBlankClear_notice _)).congr ((iff_of_eq (false_or _)).trans hdue)
  | apart => exact (NoticeMoves.never rfl rfl).congr (iff_of_false not_false nofun)

theorem takeAnomalyNotice_notice (s : State) : NoticeMoves (s.health.anomalyDue = true) s (takeAnomalyNotice s) := by
  refine ⟨fun hdue => ?_, fun hnot => ?_⟩
  · rw [takeAnomalyNotice, if_pos hdue]
    exact (NoticeKept.of_eq rfl rfl).trans_stands (NoticeStands.signal _)
  · rw [takeAnomalyNotice, if_neg hnot]
    exact NoticeKept.of_eq rfl rfl

/-- The anomaly run reaches 8 at a boundary that ends an anomalous period behind a run of 7 (R42). -/
theorem reaches_iff (f : PeriodFindings) (n : Nat) :
    n < Config.anomalyRunLimit ∧ anomalyRunAfter f n = Config.anomalyRunLimit ↔ f = .anomalous ∧ n = 7 := by
  have hlimit : Config.anomalyRunLimit = 8 := rfl
  rw [hlimit]
  cases f with
  | anomalous =>
    simp only [anomalyRunAfter, hlimit, true_and]
    omega
  | clean => exact iff_of_false (fun h => nomatch h.2) nofun
  | neither => exact iff_of_false (fun h => absurd h.2 (Nat.ne_of_lt h.1)) nofun

/-- The notice of an anomaly run stands due behind the judgement (R42). -/
def anomalyDueAfter (s : State) : Bool :=
  s.health.anomalyDue ||
    decide (s.health.anomalyRun < Config.anomalyRunLimit ∧
      anomalyRunAfter s.health.findings s.health.anomalyRun = Config.anomalyRunLimit)

theorem anomalyDueAfter_iff (s : State) :
    anomalyDueAfter s = true ↔ s.health.anomalyDue = true ∨ (s.health.findings = .anomalous ∧ s.health.anomalyRun = 7) := by
  rw [anomalyDueAfter, Bool.or_eq_true, decide_eq_true_iff, reaches_iff]

/-- The Health Monitor behind its judgement, before the notice of its run is taken. -/
def judgedHealth (s : State) : HealthMon :=
  { s.health with
    dies := tmap ageDie s.health.dies
    plan := []
    findings := .neither
    anomalyRun := anomalyRunAfter s.health.findings s.health.anomalyRun
    anomalyDue := anomalyDueAfter s }

theorem healthBoundary_within (s : State) : healthBoundary .within s = takeAnomalyNotice (s.setHealth (judgedHealth s)) := rfl

theorem healthBoundary_apart (s : State) : healthBoundary .apart s = s.setHealth (judgedHealth s) := rfl

theorem healthBoundary_notice (t : Taking) (s : State) :
    NoticeMoves
      (t = .within ∧ (s.health.anomalyDue = true ∨ (s.health.findings = .anomalous ∧ s.health.anomalyRun = 7)))
      s (healthBoundary t s) := by
  cases t with
  | within =>
    rw [healthBoundary_within]
    have hset : NoticeMoves False s (s.setHealth (judgedHealth s)) := .never rfl rfl
    refine (hset.trans (takeAnomalyNotice_notice _)).congr ?_
    rw [false_or, ← anomalyDueAfter_iff]
    exact ⟨fun h => ⟨rfl, h⟩, fun h => h.2⟩
  | apart => exact (NoticeMoves.never rfl rfl).congr (iff_of_false not_false nofun)

theorem takeAnomalyNotice_health (s : State) :
    (takeAnomalyNotice s).health = { s.health with anomalyDue := false } := by
  unfold takeAnomalyNotice
  split
  · simp
  · next h => rw [← Bool.not_eq_true _ |>.mp h]

theorem healthBoundary_health (t : Taking) (s : State) :
    (healthBoundary t s).health =
      { judgedHealth s with anomalyDue := match t with | .within => false | .apart => anomalyDueAfter s } := by
  cases t with
  | within => rw [healthBoundary_within, takeAnomalyNotice_health]; rfl
  | apart => rw [healthBoundary_apart]; rfl

theorem governorStep_notice (s : State) :
    NoticeMoves ((governorStep s).gov.overFlag ≠ s.gov.overFlag) s (governorStep s) := by
  rw [governorStep_gov]
  refine ⟨fun hchanged => ?_, fun hsame => ?_⟩
  · rw [governorStep_of_over_changed hchanged]
    exact (NoticeKept.of_eq rfl rfl).trans_stands (NoticeStands.signal _)
  · rw [governorStep_of_over_kept (not_not.mp hsame)]
    exact NoticeKept.of_eq rfl rfl

/-- A boundary raises the notice when the blank flag clears, an anomaly run reaches 8, or OVER changes (R165). -/
theorem boundary_notice {s : State} (t : Taking) (h : displayRuns s = true) :
    NoticeMoves
      ((t = .within ∧ s.scan.blank = true ∧ 16 ≤ runCountAfter s) ∨
        (t = .within ∧ (s.health.anomalyDue = true ∨ (s.health.findings = .anomalous ∧ s.health.anomalyRun = 7))) ∨
          (boundary t s).gov.overFlag ≠ s.gov.overFlag)
      s (boundary t s) := by
  have hperiod := judgePeriod_notice t s
  have hhealth := healthBoundary_notice t (judgePeriod t s)
  have hkept : NoticeMoves False (healthBoundary t (judgePeriod t s)) (beforeDrive t s) := by
    have hinstall : (install (healthBoundary t (judgePeriod t s))).seam.items.tileNotice =
        (healthBoundary t (judgePeriod t s)).seam.items.tileNotice := by rw [install_moved]
    refine NoticeMoves.of_items (by simp [beforeDrive]) (by simp [beforeDrive]) (by simp [beforeDrive]) ?_
    rw [beforeDrive, refreshBoundary_moved]
    simpa using hinstall
  have haged : NoticeMoves False (beforeDrive t s) (agePeers t (driveBoundary (beforeDrive t s))) :=
    NoticeMoves.of_items (by simp) (by simp) (by simp) (by simp)
  have hstep := governorStep_notice (agePeers t (driveBoundary (beforeDrive t s)))
  have hlast : NoticeMoves False (governorStep (agePeers t (driveBoundary (beforeDrive t s)))) (boundary t s) := by
    rw [boundary_of_display t h]
    refine NoticeMoves.of_items (by simp [governorBoundary]) (by simp [governorBoundary]) (by simp [governorBoundary]) ?_
    rw [governorBoundary, announceBoundary_moved]
  have hover : (governorStep (agePeers t (driveBoundary (beforeDrive t s)))).gov.overFlag = (boundary t s).gov.overFlag := by
    rw [boundary_of_display t h]
    simp [governorBoundary]
  have hold : (agePeers t (driveBoundary (beforeDrive t s))).gov.overFlag = s.gov.overFlag := by simp [beforeDrive_gov]
  rw [hover, hold] at hstep
  have hjudged : (judgePeriod t s).health = s.health := by simp
  rw [hjudged] at hhealth
  exact (((((hperiod.trans hhealth).trans hkept).trans haged).trans hstep).trans hlast).congr (by
    simp only [or_false, or_assoc])

/-- The Service Port behind a boundary is that before it but for the tile notice. -/
theorem boundary_port {s : State} (t : Taking) (h : displayRuns s = true) :
    (boundary t s).port = { s.port with notice := (boundary t s).port.notice, reraise := (boundary t s).port.reraise } := by
  obtain ⟨hstands, hkept⟩ := boundary_notice t h
  by_cases hraised : (t = .within ∧ s.scan.blank = true ∧ 16 ≤ runCountAfter s) ∨
      (t = .within ∧ (s.health.anomalyDue = true ∨ (s.health.findings = .anomalous ∧ s.health.anomalyRun = 7))) ∨
        (boundary t s).gov.overFlag ≠ s.gov.overFlag
  · rw [(hstands hraised).1]
  · rw [(hkept hraised).1]

/-! ## The drive values (R80 to R88) -/

/-- The quotient of stage 6 before its clip (R81 to R84). -/
def quotient (v : Nat) (st : CellState) (spareGain bsum factor : Nat) : Nat :=
  if st = .hole then 0
  else (v * (if st = .primary then 256 else spareGain) * (256 + bsum * factor / 256) + 32768) / 65536

/-- The stages are the quotient and its clip. -/
theorem driveCell_eq (v : Nat) (st : CellState) (spareGain bsum factor : Nat) :
    driveCell v st spareGain bsum factor =
      ⟨min 4095 (quotient v st spareGain bsum factor), st, decide (4095 < quotient v st spareGain bsum factor)⟩ := by
  by_cases h : st = .hole
  · subst h
    rw [driveCell_hole, quotient, if_pos rfl]
    rfl
  · rw [driveCell_of_driven _ _ _ _ h, quotient, if_neg h, rounded, product, boost, gainFor_of_driven h]
    rfl

theorem driveAt_eq (s : State) {c : Nat} (hc : c < Config.cellCount) :
    driveAt s c =
      driveCell (usedValue s (tget s.rx.frameStore c 0)) (cellAt s c).state (effectiveGain (cellAt s c) (factoryGainAt s c))
        (activeEntry s c).bsum s.gov.factor := by
  rw [driveAt, driveTable, tget_tzip _ _ _ c (CellState.hole, 0) (0, 0) _ hc,
    tget_tzip _ s.map.cells s.map.factoryGain c CellRec.fresh Config.unitGain _ hc,
    tget_tzip _ s.rx.frameStore s.conceal.active c 0 (.lit 0) _ hc]
  rfl

/-- The quotient of a cell at the computation. -/
def quotientAt (s : State) (c : Nat) : Nat :=
  quotient (usedValue s (tget s.rx.frameStore c 0)) (cellAt s c).state (effectiveGain (cellAt s c) (factoryGainAt s c))
    (activeEntry s c).bsum s.gov.factor

theorem driveAt_quotient (s : State) {c : Nat} (hc : c < Config.cellCount) :
    driveAt s c = ⟨min 4095 (quotientAt s c), (cellAt s c).state, decide (4095 < quotientAt s c)⟩ := by
  rw [driveAt_eq s hc, driveCell_eq]
  rfl

theorem routed_chans (s : State) {c : Nat} (hc : c < Config.cellCount) :
    tget (driveBoundary s).scan.chanP c 0 = (if (cellAt s c).state = .primary then min 4095 (quotientAt s c) else 0) ∧
      tget (driveBoundary s).scan.chanS c 0 = (if (cellAt s c).state = .spare then min 4095 (quotientAt s c) else 0) := by
  obtain ⟨hP, hS⟩ := tget_chans s hc
  rw [hP, hS, driveAt_quotient s hc]
  cases (cellAt s c).state <;> exact ⟨rfl, rfl⟩

theorem driveBoundary_clip (s : State) :
    (driveBoundary s).drive.clip = (List.range Config.cellCount).countP (fun c => decide (4095 < quotientAt s c)) := by
  show tcount _ (driveTable s) = _
  rw [tcount_eq_countP_range _ _ ⟨0, .hole, false⟩]
  refine List.countP_congr fun c hc => ?_
  have hclip := congrArg DriveOut.clipped (driveAt_quotient s (List.mem_range.mp hc))
  rw [← driveAt, hclip]

theorem driveBoundary_load_eq (s : State) :
    (driveBoundary s).drive.load = ((List.range Config.cellCount).map (fun c => min 4095 (quotientAt s c))).sum / 4096 := by
  rw [driveBoundary_load, frameLoad, toList_eq_map_tget (driveTable s) ⟨0, .hole, false⟩, List.map_map]
  refine congrArg (fun l : List Nat => l.sum / 4096) (List.map_congr_left fun c hc => ?_)
  exact congrArg DriveOut.value (driveAt_quotient s (List.mem_range.mp hc))

/-! ## The blocks behind a boundary -/

theorem boundary_scan {s : State} (t : Taking) (h : displayRuns s = true) :
    (boundary t s).scan = (driveBoundary (beforeDrive t s)).scan := by
  rw [boundary_of_display t h]
  simp

theorem boundary_drive {s : State} (t : Taking) (h : displayRuns s = true) :
    (boundary t s).drive = (driveBoundary (beforeDrive t s)).drive := by
  rw [boundary_of_display t h]
  simp

theorem boundary_conceal {s : State} (t : Taking) (h : displayRuns s = true) :
    (boundary t s).conceal = (beforeDrive t s).conceal := by
  rw [boundary_of_display t h]
  simp

theorem boundary_health {s : State} (t : Taking) (h : displayRuns s = true) :
    (boundary t s).health = (healthBoundary t (judgePeriod t s)).health := by
  rw [boundary_of_display t h]
  simp [beforeDrive]

/-- The blank flag and the run count behind the judgement of the period (R12). -/
theorem judgePeriod_scan (t : Taking) (s : State) :
    (judgePeriod t s).scan.marker = .none ∧
      (t = .within → s.scan.blank = true → 16 ≤ runCountAfter s →
        (judgePeriod t s).scan.blank = false ∧ (judgePeriod t s).scan.runCount = 0) ∧
      (t = .apart ∨ s.scan.blank = false ∨ runCountAfter s < 16 →
        (judgePeriod t s).scan.blank = s.scan.blank ∧ (judgePeriod t s).scan.runCount = runCountAfter s) := by
  generalize hr : s.setScan { s.scan with runCount := runCountAfter s, marker := .none } = r
  have hblank : r.scan.blank = s.scan.blank := by rw [← hr]; rfl
  have hcount : r.scan.runCount = runCountAfter s := by rw [← hr]; rfl
  have hmarker : r.scan.marker = .none := by rw [← hr]; rfl
  cases t with
  | within =>
    have hjudge : judgePeriod .within s = takeBlankClear r := by rw [← hr]; rfl
    rw [hjudge]
    refine ⟨by simpa using hmarker, fun _ hset hfull => ?_, fun hno => ?_⟩
    · have hdue : blankClearDue r = true := by simp [blankClearDue, hblank, hcount, hset, hfull, Config.goodRunLimit]
      rw [takeBlankClear, if_pos hdue]
      simp
    · have hnot : blankClearDue r = false := by
        obtain h | h | h := hno
        · cases h
        · simp [blankClearDue, hblank, h]
        · simp [blankClearDue, hcount, h, Config.goodRunLimit]
      rw [takeBlankClear_of_not_due r hnot]
      exact ⟨hblank, hcount⟩
  | apart =>
    have hjudge : judgePeriod .apart s = r := by rw [← hr]; rfl
    rw [hjudge]
    exact ⟨hmarker, nofun, fun _ => ⟨hblank, hcount⟩⟩

/-! ## The governor (R112, R116 to R119) -/

/-- The entries that a boundary keeps: those whose age does not reach 64 (R116). -/
def livePeers (s : State) : List Peer := s.gov.peers.filter (fun p => decide (p.age + 1 < 64))

theorem filter_agePeer (peers : List Peer) :
    (peers.map agePeer).filter peerLive =
      (peers.filter (fun p => decide (p.age + 1 < 64))).map (fun p => { p with age := p.age + 1 }) := by
  induction peers with
  | nil => rfl
  | cons p peers ih =>
    have hlive : peerLive (agePeer p) = decide (p.age + 1 < 64) := by
      show decide (min 64 (p.age + 1) < 64) = decide (p.age + 1 < 64)
      rw [decide_eq_decide]
      omega
    rw [List.map_cons, List.filter_cons, List.filter_cons, hlive, ih]
    split
    · next h =>
      have hage : agePeer p = { p with age := p.age + 1 } :=
        congrArg (fun n => ({ p with age := n } : Peer)) (Nat.min_eq_right (Nat.le_of_lt (of_decide_eq_true h)))
      rw [List.map_cons, hage]
    · rfl

theorem agePeers_peers (t : Taking) (s : State) :
    (agePeers t s).gov.peers =
      match t with
      | .within => (livePeers s).map (fun p => { p with age := p.age + 1 })
      | .apart => s.gov.peers.map (fun p => { p with age := min 64 (p.age + 1) }) := by
  cases t with
  | within => exact filter_agePeer s.gov.peers
  | apart => rfl

/-- The estimate leaves out what has reached 64, whether or not its row has removed it (R117). -/
theorem estimateOf_agePeers (t : Taking) (s : State) (load : Nat) :
    estimateOf load (agePeers t s).gov.peers = load + ((livePeers s).map (fun p => p.load)).sum := by
  have hlive : ((agePeers t s).gov.peers.filter peerLive) = (livePeers s).map (fun p => { p with age := p.age + 1 }) := by
    cases t with
    | within =>
      show ((s.gov.peers.map agePeer).filter peerLive).filter peerLive = _
      rw [List.filter_filter]
      simp only [Bool.and_self]
      exact filter_agePeer s.gov.peers
    | apart => exact filter_agePeer s.gov.peers
  rw [estimateOf, hlive, List.map_map]
  rfl

theorem takeAnnouncement_gov (s : State) :
    (takeAnnouncement s).gov = { s.gov with counter := (takeAnnouncement s).gov.counter } := by
  unfold takeAnnouncement
  split
  · simp
  · rfl

theorem announceBoundary_gov (t : Taking) (s : State) :
    (announceBoundary t s).gov = { s.gov with counter := (announceBoundary t s).gov.counter } := by
  unfold announceBoundary
  split
  · cases t with
    | within => exact takeAnnouncement_gov _
    | apart => rfl
  · rfl

/-- The governor behind a boundary, before the announcement is counted. -/
theorem boundary_gov {s : State} (t : Taking) (h : displayRuns s = true) :
    (boundary t s).gov =
      { governorAfter (agePeers t (driveBoundary (beforeDrive t s))) with counter := (boundary t s).gov.counter } := by
  rw [boundary_of_display t h, ← governorStep_gov]
  exact announceBoundary_gov t _

/-- The announcement at a boundary (R112). -/
theorem announceBoundary_counts (t : Taking) (s : State) :
    (t = .within → s.sup.state = .running →
        (announceBoundary t s).gov.counter = (if 15 ≤ s.gov.counter then 0 else s.gov.counter + 1) ∧
          (announceBoundary t s).seam.items.load =
            (s.seam.items.load || (decide (15 ≤ s.gov.counter) && !s.sup.findings.strapFault))) ∧
      (t = .apart → s.sup.state = .running →
        (announceBoundary t s).gov.counter = min 16 (s.gov.counter + 1) ∧
          (announceBoundary t s).seam.items.load = s.seam.items.load) ∧
      (s.sup.state ≠ .running →
        (announceBoundary t s).gov.counter = s.gov.counter ∧ (announceBoundary t s).seam.items.load = s.seam.items.load) := by
  have hrun : s.sup.state = .running → isRunning s = true := fun h => decide_eq_true h
  refine ⟨fun ht hstate => ?_, fun ht hstate => ?_, fun hstate => ?_⟩
  · subst ht
    rw [announceBoundary, if_pos (hrun hstate)]
    generalize hr : s.setGov { s.gov with counter := min Config.announcePeriod (s.gov.counter + 1) } = r
    have hcounter : r.gov.counter = min 16 (s.gov.counter + 1) := by rw [← hr]; rfl
    have hsup : r.sup = s.sup := by rw [← hr]; rfl
    have hload : r.seam.items.load = s.seam.items.load := by rw [← hr]; rfl
    have hdue : announcementDue r = decide (15 ≤ s.gov.counter) := by
      have hrun' : isRunning r = true := by rw [isRunning, hsup]; exact hrun hstate
      rw [announcementDue, hrun', hcounter, Bool.true_and, decide_eq_decide, Config.announcePeriod]
      omega
    show (takeAnnouncement r).gov.counter = _ ∧ (takeAnnouncement r).seam.items.load = _
    unfold takeAnnouncement
    rw [hdue]
    by_cases hfull : 15 ≤ s.gov.counter
    · rw [if_pos (decide_eq_true hfull), if_pos hfull, pendLoad_load, decide_eq_true hfull, Bool.true_and]
      simp [hsup, hload]
    · rw [if_neg (by simpa using hfull), if_neg hfull, decide_eq_false hfull, Bool.false_and, Bool.or_false]
      exact ⟨by rw [hcounter]; omega, hload⟩
  · subst ht
    rw [announceBoundary, if_pos (hrun hstate)]
    exact ⟨rfl, rfl⟩
  · rw [announceBoundary, if_neg (by simpa [isRunning] using hstate)]
    exact ⟨rfl, rfl⟩

end Sys2Proof.Machine
end
section
/-! PROOF. The frame boundary's statements on the drive values, the period and the governor (R12, R27, R42, R78 to R88, R112 to R119). -/

namespace Sys2Proof.Machine

/-- The Load Governor's step in a boundary, before the announcement is counted. -/
theorem boundary_factor {s : State} (t : Taking) (h : displayRuns s = true) :
    (boundary t s).gov.estimate = (boundary t s).drive.load + ((livePeers s).map (fun p => p.load)).sum ∧
      (boundary t s).gov.factor = factorAfter s.gov.limit (boundary t s).gov.estimate s.gov.factor ∧
      (boundary t s).gov.overFlag =
        overAfter s.gov.limit (boundary t s).gov.estimate (boundary t s).gov.factor s.gov.overFlag ∧
      (boundary t s).gov.peers = (agePeers t s).gov.peers := by
  have hpeers : (driveBoundary (beforeDrive t s)).gov = s.gov := by simp [beforeDrive_gov]
  have haged : (agePeers t (driveBoundary (beforeDrive t s))).gov = (agePeers t s).gov := by
    cases t with
    | within => exact congrArg (fun g : Governor => { g with peers := (g.peers.map agePeer).filter peerLive }) hpeers
    | apart => exact congrArg (fun g : Governor => { g with peers := g.peers.map agePeer }) hpeers
  have hload : (agePeers t (driveBoundary (beforeDrive t s))).drive.load = (boundary t s).drive.load := by
    rw [boundary_drive t h]
    simp
  have hlimit : (agePeers t s).gov.limit = s.gov.limit := by simp
  have hfactor : (agePeers t s).gov.factor = s.gov.factor := by simp
  have hover : (agePeers t s).gov.overFlag = s.gov.overFlag := by simp
  have hgov := boundary_gov t h
  rw [governorAfter, haged, hload, hlimit, hfactor, hover, estimateOf_agePeers] at hgov
  generalize (boundary t s).gov = g at hgov
  rw [hgov]
  exact ⟨rfl, rfl, rfl, rfl⟩

theorem boundary_counts {s : State} (t : Taking) (h : displayRuns s = true) :
    ∃ r : State, r.sup = s.sup ∧ r.gov.counter = s.gov.counter ∧ r.seam.items.load = s.seam.items.load ∧
      boundary t s = announceBoundary t r := by
  refine ⟨governorStep (agePeers t (driveBoundary (beforeDrive t s))), ?_, ?_, ?_, boundary_of_display t h⟩
  · simp [beforeDrive_sup]
  · simp [beforeDrive_gov]
  · rw [governorStep_moved]
    have hload : (beforeDrive t s).seam.items.load = s.seam.items.load := by
      rw [beforeDrive, refreshBoundary_moved]
      have hfar : (farBoundary t (install (healthBoundary t (judgePeriod t s)))).seam =
          (install (healthBoundary t (judgePeriod t s))).seam := by simp
      dsimp only
      rw [hfar, install_moved]
      dsimp only
      rw [healthBoundary_moved]
      dsimp only
      rw [judgePeriod_moved]
    simpa using hload

end Sys2Proof.Machine

/-! ## The statements -/

section
open Sys2Proof Sys2Proof.Machine

/-- Settles O14: the values are those of the computation, whose operands are the boundary's. -/
theorem boundaryDrivesEveryCell : Obligations.BoundaryDrivesEveryCell := by
  unfold Obligations.BoundaryDrivesEveryCell
  intro s tk hdisplay t v b g q
  have hscan : t.scan = (driveBoundary (beforeDrive tk s)).scan := boundary_scan tk hdisplay
  have hdrive : t.drive = (driveBoundary (beforeDrive tk s)).drive := boundary_drive tk hdisplay
  have hconceal : t.conceal = (beforeDrive tk s).conceal := boundary_conceal tk hdisplay
  have hcell : ∀ c, cellAt (beforeDrive tk s) c = cellAt s c := fun c => cellAt_congr _ _ _ (by rw [beforeDrive_map])
  have hquotient : ∀ c, quotientAt (beforeDrive tk s) c = q c := fun c => by
    have hblank : (beforeDrive tk s).scan.blank = t.scan.blank := by rw [hscan]; simp
    have hv : usedValue (beforeDrive tk s) (tget (beforeDrive tk s).rx.frameStore c 0) = v c := by
      rw [usedValue, beforeDrive_rx, hblank]
    have hb : (activeEntry (beforeDrive tk s) c).bsum = (activeEntry t c).bsum := by rw [activeEntry, ← hconceal]; rfl
    have hg : effectiveGain (cellAt s c) (factoryGainAt (beforeDrive tk s) c) = (cellAt s c).gain.getD (factoryGainAt s c) := by
      rw [effectiveGain, factoryGainAt, beforeDrive_map, factoryGainAt]
    rw [quotientAt, hv, hb, hcell, hg, beforeDrive_gov]
    rfl
  refine ⟨fun c hc => ?_, ?_, ?_, ?_, ?_, ?_, by simp [t], by simp [t], by simp [t], by simp [t], by simp [t],
    boundary_port tk hdisplay, boundary_itemsMoved tk s⟩
  · rw [hscan, ← hquotient c, ← hcell c]
    exact routed_chans _ hc
  · rw [hdrive, driveBoundary_clip]
    exact congrArg (fun f => List.countP f (List.range Config.cellCount)) (funext fun c => by rw [hquotient c])
  · rw [hdrive, driveBoundary_load_eq]
    exact congrArg (fun f => (List.map f (List.range Config.cellCount)).sum / 4096) (funext fun c => by rw [hquotient c])
  · rw [hdrive]
    exact congrArg (fun d : Drive => max d.peak _) (beforeDrive_drive tk s)
  · rw [hscan]
    rfl
  · rw [hscan]
    rfl

/-- Settles O15: the period's judgement, the ages, and the parts that raise the notice. -/
theorem boundaryJudgesThePeriod : Obligations.BoundaryJudgesThePeriod := by
  unfold Obligations.BoundaryJudgesThePeriod
  intro s tk hdisplay t n reached raised
  have hhealth : t.health = _ := (boundary_health tk hdisplay).trans (healthBoundary_health tk (judgePeriod tk s))
  have hjudged : (judgePeriod tk s).health = s.health := by simp
  have hscan : t.scan = _ := boundary_scan tk hdisplay
  have hmarker : t.scan.marker = (judgePeriod tk s).scan.marker := by rw [hscan]; simp [beforeDrive_scan]
  have hblank : t.scan.blank = (judgePeriod tk s).scan.blank := by rw [hscan]; simp [beforeDrive_scan]
  have hcount : t.scan.runCount = (judgePeriod tk s).scan.runCount := by rw [hscan]; simp [beforeDrive_scan]
  obtain ⟨hnone, hclears, hstays⟩ := judgePeriod_scan tk s
  obtain ⟨hstands, hkept⟩ := boundary_notice tk hdisplay
  have hdue : anomalyDueAfter (judgePeriod tk s) = true ↔ s.health.anomalyDue = true ∨ reached := by
    rw [anomalyDueAfter_iff, hjudged]
  have hn : n = runCountAfter s := rfl
  refine ⟨fun d hd => ?_, ?_, ?_, ?_, ?_, ?_, fun hwithin => ?_, fun hapart => ?_, by rw [hmarker, hnone],
    fun hwithin hset hfull => ?_, fun hno => ?_, fun hraised => ?_, fun hno => ?_⟩
  · rw [dieAt, hhealth]
    show tget (tmap ageDie (judgePeriod tk s).health.dies) d DieRec.fresh = _
    rw [tget_tmap _ _ _ DieRec.fresh _ hd, hjudged]
    rfl
  · rw [hhealth]; rfl
  · rw [hhealth]; rfl
  · simp [t]
  · simp [t]
  · rw [hhealth]
    show anomalyRunAfter (judgePeriod tk s).health.findings (judgePeriod tk s).health.anomalyRun = _
    rw [hjudged]
    rfl
  · rw [hhealth, hwithin]
  · rw [hhealth, hapart]
    rw [hapart] at hdue
    exact hdue
  · rw [hblank, hcount]
    exact hclears hwithin hset hfull
  · rw [hblank, hcount]
    exact hstays hno
  · obtain ⟨hport, -, hup, hdown⟩ := hstands hraised
    exact ⟨by rw [hport], hup, hdown⟩
  · obtain ⟨hport, -, hitem⟩ := hkept hno
    exact ⟨hport, hitem⟩

/-- Settles O16: the step's figures, then the announcement counted behind it. -/
theorem boundaryStepsTheGovernor : Obligations.BoundaryStepsTheGovernor := by
  unfold Obligations.BoundaryStepsTheGovernor
  intro s tk hdisplay t live
  obtain ⟨hestimate, hfactor, hover, hpeers⟩ := boundary_factor tk hdisplay
  obtain ⟨r, hsup, hcounter, hload, hr⟩ := boundary_counts tk hdisplay
  obtain ⟨hwithin, hapart, hrest⟩ := announceBoundary_counts tk r
  rw [hsup, hcounter, hload, ← hr] at hwithin hapart hrest
  rw [agePeers_peers] at hpeers
  refine ⟨hestimate, hfactor, hover, fun htk => ?_, fun htk => ?_, by simp [t], by simp [t], hwithin, hapart, fun hwait => ?_⟩
  · subst htk
    exact hpeers
  · subst htk
    exact hpeers
  · exact hrest (by rw [hwait]; exact nofun)

end
end
section
/-! PROOF. The Concealment Unit at a boundary: the installation, the far-edge ages and the refresh count (R98, R100, R101, R103, R107). -/

namespace Sys2Proof.Machine

/-! ## The installation (R98) -/

theorem install_of_not_complete {s : State} (h : s.conceal.rebuild ≠ .complete) : install s = s := by
  unfold install
  split
  · next hc => exact absurd hc h
  · rfl

theorem compareEdges_conceal (s : State) : (compareEdges s).conceal = s.conceal := by simp

theorem compareEdges_edges (s : State) (e : Edge) :
    (compareEdges s).seam.items.edges.get e =
      (s.seam.items.edges.get e || (isRunning s && ((s.conceal.far.get e).present && edgeStale s e))) := by
  unfold compareEdges
  cases isRunning s with
  | true => exact pendEdges_edges _ _ _
  | false => exact (Bool.or_false _).symm

/-- A completed rebuild is installed, and a marked rerun starts (R98). -/
theorem install_conceal {s : State} (h : s.conceal.rebuild = .complete) :
    (install s).conceal =
      { s.conceal with
        active := s.conceal.shadow
        shadow := s.conceal.active
        rebuild := if s.conceal.rerun then .running ⟨tmap isHole s.map.cells, s.conceal.far, s.conceal.k⟩ else .idle
        rerun := false } := by
  have hcompared : (compareEdges (swapTables s)).conceal = (swapTables s).conceal := compareEdges_conceal _
  have hmap : (compareEdges (swapTables s)).map = s.map := by simp
  have hinstall : install s = startRerun (compareEdges (swapTables s)) := by simp only [install, h]
  rw [hinstall, startRerun, hcompared]
  cases hrerun : s.conceal.rerun with
  | true =>
    rw [if_pos (show (swapTables s).conceal.rerun = true from hrerun)]
    simp only [startRebuild, takeSnapshot, setConceal_conceal, setConceal_map, hmap, if_true]
    rfl
  | false =>
    rw [if_neg (by simp [hrerun]), hcompared]
    exact congrArg (fun r => ({ s.conceal with active := _, shadow := _, rebuild := .idle, rerun := r } : Conceal)) hrerun

/-- The edges whose new content differs from what was last sent, and no others, become pending in RUNNING (R101). -/
theorem install_edges (s : State) (e : Edge) :
    (install s).seam.items.edges.get e = true ↔
      s.seam.items.edges.get e = true ∨
        s.sup.state = .running ∧ (s.conceal.far.get e).present = true ∧ s.conceal.rebuild = .complete ∧
          s.conceal.lastSent.get e ≠ some (edgeContent (install s) e) := by
  by_cases h : s.conceal.rebuild = .complete
  · have hcontent : edgeContent (install s) e = edgeContent (swapTables s) e := by
      unfold edgeContent activeEntry
      rw [install_conceal h]
      rfl
    have hseam : (install s).seam = (compareEdges (swapTables s)).seam := by simp only [install, h]; simp
    rw [hseam, compareEdges_edges, hcontent]
    simp [isRunning, edgeStale, h]
  · rw [install_of_not_complete h]
    exact ⟨.inl, fun h' => h'.elim id fun h' => absurd h'.2.2.1 h⟩

/-! ## The far-edge records (R107) -/

/-- A record reaches its age limit at a boundary that takes the expiry within (R107, log entry 1). -/
def farEnds (t : Taking) (r : FarEdge) : Prop := t = .within ∧ r.valid = true ∧ 2047 ≤ r.age

theorem farExpired_ageFar (r : FarEdge) : farExpired (ageFar r) = true ↔ r.valid = true ∧ 2047 ≤ r.age := by
  unfold farExpired ageFar
  cases h : r.valid with
  | true =>
    simp only [if_true, Bool.true_and, decide_eq_true_eq, true_and, Config.farEdgeLimit]
    omega
  | false => simp [h]

/-- A far-edge record behind a boundary's ageing (R107). -/
theorem farBoundary_ages (t : Taking) (s : State) (e : Edge) :
    ((s.conceal.far.get e).valid = true →
        ((farBoundary t s).conceal.far.get e).age = min 2048 ((s.conceal.far.get e).age + 1)) ∧
      ((s.conceal.far.get e).valid = false → (farBoundary t s).conceal.far.get e = s.conceal.far.get e) ∧
      (farEnds t (s.conceal.far.get e) → ((farBoundary t s).conceal.far.get e).valid = false) ∧
      (¬farEnds t (s.conceal.far.get e) →
        ((farBoundary t s).conceal.far.get e).valid = (s.conceal.far.get e).valid) ∧
      (farBoundary t s).conceal.far.get e =
        { s.conceal.far.get e with
          valid := ((farBoundary t s).conceal.far.get e).valid
          age := ((farBoundary t s).conceal.far.get e).age } := by
  have hage : ageFar (s.conceal.far.get e) =
      { s.conceal.far.get e with
        age := if (s.conceal.far.get e).valid then min 2048 ((s.conceal.far.get e).age + 1) else (s.conceal.far.get e).age } := by
    unfold ageFar
    split <;> rfl
  have hfar : (farBoundary t s).conceal.far.get e =
      match t with
      | .within => if farExpired (ageFar (s.conceal.far.get e)) then { ageFar (s.conceal.far.get e) with valid := false }
          else ageFar (s.conceal.far.get e)
      | .apart => ageFar (s.conceal.far.get e) := by
    cases t with
    | within => simp [farBoundary, takeIf, takeFarExpiry]
    | apart => simp [farBoundary, takeIf]
  have hends : farEnds t (s.conceal.far.get e) ↔ t = .within ∧ farExpired (ageFar (s.conceal.far.get e)) = true :=
    and_congr_right fun _ => (farExpired_ageFar _).symm
  rw [hfar, hends]
  generalize hx : farExpired (ageFar (s.conceal.far.get e)) = x
  have hfinal : (match t with
      | .within => if x then { ageFar (s.conceal.far.get e) with valid := false } else ageFar (s.conceal.far.get e)
      | .apart => ageFar (s.conceal.far.get e)) =
      { s.conceal.far.get e with
        valid := (s.conceal.far.get e).valid && !(decide (t = .within) && x)
        age := if (s.conceal.far.get e).valid then min 2048 ((s.conceal.far.get e).age + 1) else (s.conceal.far.get e).age } := by
    rw [hage]
    cases t <;> cases x <;> simp
  rw [hfinal]
  refine ⟨fun hvalid => if_pos hvalid, fun hinvalid => ?_, fun hend => ?_, fun hno => ?_, rfl⟩
  · rw [hinvalid, Bool.false_and, if_neg Bool.false_ne_true, ← hinvalid]
  · rw [decide_eq_true hend.1, hend.2]
    exact Bool.and_false _
  · have hkept : (decide (t = .within) && x) = false := by
      rw [← Bool.not_eq_true, Bool.and_eq_true, decide_eq_true_iff]
      exact hno
    rw [hkept]
    exact Bool.and_true _

/-- The rebuild behind the ageing: one trigger for all the records that end (R96, R107). -/
theorem farBoundary_rebuild (t : Taking) (s : State) :
    ((∀ e, ¬farEnds t (s.conceal.far.get e)) →
        (farBoundary t s).conceal.rebuild = s.conceal.rebuild ∧ (farBoundary t s).conceal.rerun = s.conceal.rerun) ∧
      ((∃ e, farEnds t (s.conceal.far.get e)) →
        (s.conceal.rebuild = .idle →
          (farBoundary t s).conceal.rebuild = .running ⟨tmap isHole s.map.cells, (farBoundary t s).conceal.far, s.conceal.k⟩ ∧
            (farBoundary t s).conceal.rerun = s.conceal.rerun) ∧
          (s.conceal.rebuild ≠ .idle →
            (farBoundary t s).conceal.rebuild = s.conceal.rebuild ∧ (farBoundary t s).conceal.rerun = true)) := by
  cases t with
  | apart => exact ⟨fun _ => ⟨rfl, rfl⟩, fun ⟨_, h⟩ => nomatch h.1⟩
  | within =>
    have hany : (allEdges.any fun e => farExpired (ageFar (s.conceal.far.get e))) = true ↔ ∃ e, farEnds .within (s.conceal.far.get e) := by
      rw [List.any_eq_true]
      constructor
      · rintro ⟨e, -, he⟩
        exact ⟨e, rfl, (farExpired_ageFar _).mp he⟩
      · rintro ⟨e, -, he⟩
        exact ⟨e, by cases e <;> decide, (farExpired_ageFar _).mpr he⟩
    generalize hr : s.setConceal { s.conceal with far := (farBoundary .within s).conceal.far } = r
    have hstep : farBoundary .within s = triggerIf (allEdges.any fun e => farExpired (ageFar (s.conceal.far.get e))) r := by
      rw [← hr]
      simp [farBoundary, takeIf, takeFarExpiry]
      rfl
    have hrebuild : r.conceal.rebuild = s.conceal.rebuild := by rw [← hr]; rfl
    have hrerun : r.conceal.rerun = s.conceal.rerun := by rw [← hr]; rfl
    refine ⟨fun hno => ?_, fun hsome => ?_⟩
    · have hnone : (allEdges.any fun e => farExpired (ageFar (s.conceal.far.get e))) = false := by
        rw [← Bool.not_eq_true, hany]
        exact fun ⟨e, he⟩ => hno e he
      rw [hstep, hnone]
      exact ⟨hrebuild, hrerun⟩
    · have hfar : r.conceal.far = (farBoundary .within s).conceal.far := by rw [← hr]; rfl
      have hsnapshot : takeSnapshot r = ⟨tmap isHole s.map.cells, (farBoundary .within s).conceal.far, s.conceal.k⟩ := by
        rw [← hr]; rfl
      have htrigger : farBoundary .within s = trigger r := by rw [hstep, hany.mpr hsome]; rfl
      rw [← hrebuild]
      obtain ⟨hidle, hc⟩ | ⟨hbusy, hc⟩ := trigger_cases r
      · refine ⟨fun _ => ?_, fun hno => absurd hidle hno⟩
        rw [← hsnapshot, htrigger, hc]
        exact ⟨rfl, hrerun⟩
      · refine ⟨fun hidle => absurd hidle hbusy, fun _ => ?_⟩
        rw [htrigger, hc]
        exact ⟨rfl, rfl⟩

/-! ## The refresh count (R103) -/

theorem refreshBoundary_refresh (t : Taking) (s : State) :
    (refreshBoundary t s).conceal.refresh =
        (if s.sup.state ≠ .running then s.conceal.refresh
          else if t = .apart then min 512 (s.conceal.refresh + 1)
          else if 511 ≤ s.conceal.refresh then 0
          else s.conceal.refresh + 1) ∧
      (∀ e, (refreshBoundary t s).seam.items.edges.get e = true ↔
        s.seam.items.edges.get e = true ∨
          s.sup.state = .running ∧ (s.conceal.far.get e).present = true ∧ t = .within ∧ 511 ≤ s.conceal.refresh) := by
  by_cases hstate : s.sup.state = .running
  · have hrun : isRunning s = true := decide_eq_true hstate
    rw [refreshBoundary, if_pos hrun, if_neg (not_not.mpr hstate)]
    cases t with
    | apart =>
      exact ⟨rfl, fun e => ⟨.inl, fun h => h.elim id fun h => nomatch h.2.2.1⟩⟩
    | within =>
      rw [if_neg nofun]
      generalize hr : s.setConceal { s.conceal with refresh := min Config.refreshPeriod (s.conceal.refresh + 1) } = r
      have hrefresh : r.conceal.refresh = min 512 (s.conceal.refresh + 1) := by rw [← hr]; rfl
      have hfar : r.conceal.far = s.conceal.far := by rw [← hr]; rfl
      have hitems : r.seam = s.seam := by rw [← hr]; rfl
      have hrun' : isRunning r = true := by rw [isRunning, ← hr]; exact hrun
      have hdue : refreshDue r = decide (511 ≤ s.conceal.refresh) := by
        rw [refreshDue, hrun', hrefresh, Bool.true_and, decide_eq_decide, Config.refreshPeriod]
        omega
      show (takeEdgeRefresh r).conceal.refresh = _ ∧ ∀ e, (takeEdgeRefresh r).seam.items.edges.get e = true ↔ _
      rw [takeEdgeRefresh, hdue]
      by_cases hfull : 511 ≤ s.conceal.refresh
      · rw [if_pos (decide_eq_true hfull), if_pos hfull]
        refine ⟨rfl, fun e => ?_⟩
        rw [pendEdges_edges]
        simp [hfar, hitems, hstate, hfull]
      · rw [if_neg (by simpa using hfull), if_neg hfull]
        refine ⟨by rw [hrefresh]; omega, fun e => ?_⟩
        rw [hitems]
        exact ⟨.inl, fun h => h.elim id fun h => absurd h.2.2.2 hfull⟩
  · rw [refreshBoundary, if_neg (by simpa [isRunning] using hstate), if_pos hstate]
    exact ⟨rfl, fun e => ⟨.inl, fun h => h.elim id fun h => absurd h.1 hstate⟩⟩

end Sys2Proof.Machine
end
section
/-! PROOF. The boundary's installation in any supervisor state, the content of an edge, and the rows of the due events (R98 to R107). -/

namespace Sys2Proof.Machine

/-! ## The boundary's Concealment Unit -/

theorem displayRuns_of_running {s : State} (h : s.sup.state = .running) : displayRuns s = true := by
  simp [displayRuns, h]

theorem edgeContent_congr {s u : State} (h : u.conceal.active = s.conceal.active) (e : Edge) : edgeContent u e = edgeContent s e := by
  unfold edgeContent activeEntry
  rw [h]

/-- The installation depends on the Concealment Unit, the map and the supervisor state alone. -/
theorem install_congr {s y : State} (hconceal : y.conceal = s.conceal) (hmap : y.map = s.map) (hsup : y.sup = s.sup)
    (hedges : y.seam.items.edges = s.seam.items.edges) :
    (install y).conceal = (install s).conceal ∧
      ∀ e, (install y).seam.items.edges.get e = true ↔ (install s).seam.items.edges.get e = true := by
  have hc : (install y).conceal = (install s).conceal := by
    by_cases h : s.conceal.rebuild = .complete
    · rw [install_conceal h, install_conceal (by rw [hconceal]; exact h), hconceal, hmap]
    · rw [install_of_not_complete h, install_of_not_complete (by rw [hconceal]; exact h), hconceal]
  refine ⟨hc, fun e => ?_⟩
  rw [install_edges, install_edges, hconceal, hsup, hedges, edgeContent_congr (congrArg Conceal.active hc)]

/-- Where the display runs, the records age and the refresh is counted behind the installation (log entry 7). -/
theorem boundary_behind_install {s : State} (t : Taking) (h : displayRuns s = true) :
    ∃ i : State, i.conceal = (install s).conceal ∧ i.map = s.map ∧ i.sup = s.sup ∧
      (∀ e, i.seam.items.edges.get e = true ↔ (install s).seam.items.edges.get e = true) ∧
      (boundary t s).conceal = (refreshBoundary t (farBoundary t i)).conceal ∧
      (boundary t s).seam.items.edges = (refreshBoundary t (farBoundary t i)).seam.items.edges := by
  have hedges : (healthBoundary t (judgePeriod t s)).seam.items.edges = s.seam.items.edges := by
    rw [healthBoundary_moved]
    dsimp only
    rw [judgePeriod_moved]
  obtain ⟨hconceal, hitems⟩ := install_congr (s := s) (y := healthBoundary t (judgePeriod t s)) (by simp) (by simp) (by simp) hedges
  refine ⟨_, hconceal, by simp, by simp, hitems, boundary_conceal t h, ?_⟩
  rw [boundary_of_display t h, governorBoundary, announceBoundary_moved]
  dsimp only
  rw [governorStep_moved]
  simp [beforeDrive]

theorem boundary_kept_conceal (t : Taking) (s : State) :
    (boundary t s).conceal.active = (install s).conceal.active ∧ (boundary t s).conceal.shadow = (install s).conceal.shadow := by
  cases h : displayRuns s with
  | true =>
    obtain ⟨i, hconceal, -, -, -, hc, -⟩ := boundary_behind_install t h
    rw [hc, ← hconceal]
    simp
  | false =>
    rw [boundary_of_no_display t h]
    exact ⟨rfl, rfl⟩

/-- The far-edge record reaches its age limit at this boundary (R107). -/
def farExpires (t : Taking) (s : State) (e : Edge) : Prop := displayRuns s = true ∧ farEnds t (s.conceal.far.get e)

theorem install_far (s : State) : (install s).conceal.far = s.conceal.far := by simp

/-- The far-edge records behind a boundary (R107, R110). -/
theorem boundary_far (t : Taking) (s : State) (e : Edge) :
    (displayRuns s = true ∧ (s.conceal.far.get e).valid = true →
        ((boundary t s).conceal.far.get e).age = min 2048 ((s.conceal.far.get e).age + 1)) ∧
      (¬(displayRuns s = true ∧ (s.conceal.far.get e).valid = true) →
        (boundary t s).conceal.far.get e = s.conceal.far.get e) ∧
      (farExpires t s e → ((boundary t s).conceal.far.get e).valid = false) ∧
      (¬farExpires t s e → ((boundary t s).conceal.far.get e).valid = (s.conceal.far.get e).valid) ∧
      (boundary t s).conceal.far.get e =
        { s.conceal.far.get e with
          valid := ((boundary t s).conceal.far.get e).valid
          age := ((boundary t s).conceal.far.get e).age } := by
  cases h : displayRuns s with
  | true =>
    obtain ⟨i, hconceal, -, -, -, hc, -⟩ := boundary_behind_install t h
    have hfar : (boundary t s).conceal.far = (farBoundary t i).conceal.far := by rw [hc]; simp
    have hold : i.conceal.far = s.conceal.far := by rw [hconceal, install_far]
    obtain ⟨hage, hinvalid, hends, hstays, hrest⟩ := farBoundary_ages t i e
    rw [hold] at hage hinvalid hends hstays hrest
    rw [hfar]
    exact ⟨fun hv => hage hv.2, fun hv => hinvalid (Bool.eq_false_iff.mpr fun htrue => hv ⟨rfl, htrue⟩), fun he => hends he.2,
      fun hno => hstays fun he => hno ⟨h, he⟩, hrest⟩
  | false =>
    rw [boundary_of_no_display t h, install_far]
    exact ⟨fun hv => absurd hv.1 Bool.false_ne_true, fun _ => rfl, fun he => absurd he.1 (by rw [h]; exact Bool.false_ne_true), fun _ => rfl, rfl⟩

/-- The rebuild behind a boundary: the ageing triggers it once, on what the installation has left (R96, R107). -/
theorem boundary_rebuild (t : Taking) (s : State) :
    ((∀ e, ¬farExpires t s e) →
        (boundary t s).conceal.rebuild = (install s).conceal.rebuild ∧ (boundary t s).conceal.rerun = (install s).conceal.rerun) ∧
      ((∃ e, farExpires t s e) →
        ((install s).conceal.rebuild = .idle →
          (boundary t s).conceal.rebuild = .running ⟨tmap isHole s.map.cells, (boundary t s).conceal.far, s.conceal.k⟩ ∧
            (boundary t s).conceal.rerun = (install s).conceal.rerun) ∧
          ((install s).conceal.rebuild ≠ .idle →
            (boundary t s).conceal.rebuild = (install s).conceal.rebuild ∧ (boundary t s).conceal.rerun = true)) := by
  cases h : displayRuns s with
  | true =>
    obtain ⟨i, hconceal, hmap, -, -, hc, -⟩ := boundary_behind_install t h
    have hfar : (boundary t s).conceal.far = (farBoundary t i).conceal.far := by rw [hc]; simp
    have hrebuild : (boundary t s).conceal.rebuild = (farBoundary t i).conceal.rebuild := by rw [hc]; simp
    have hrerun : (boundary t s).conceal.rerun = (farBoundary t i).conceal.rerun := by rw [hc]; simp
    have hold : i.conceal.far = s.conceal.far := by rw [hconceal, install_far]
    have hk : i.conceal.k = s.conceal.k := by rw [hconceal]; simp
    have hexpires : ∀ e, farExpires t s e ↔ farEnds t (s.conceal.far.get e) := fun e => ⟨fun he => he.2, fun he => ⟨h, he⟩⟩
    obtain ⟨hnone, hsome⟩ := farBoundary_rebuild t i
    rw [hold, hconceal] at hnone
    rw [hold, hk, hmap, hconceal] at hsome
    simp only [hexpires, hrebuild, hrerun, hfar]
    exact ⟨hnone, hsome⟩
  | false =>
    rw [boundary_of_no_display t h]
    exact ⟨fun _ => ⟨rfl, rfl⟩, fun ⟨e, he⟩ => nomatch h.symm.trans he.1⟩

/-- The refresh count and the edges' items behind a boundary (R101, R103). -/
theorem boundary_refresh (t : Taking) (s : State) :
    (boundary t s).conceal.refresh =
        (if s.sup.state ≠ .running then s.conceal.refresh
          else if t = .apart then min 512 (s.conceal.refresh + 1)
          else if 511 ≤ s.conceal.refresh then 0
          else s.conceal.refresh + 1) ∧
      (∀ e, (boundary t s).seam.items.edges.get e = true ↔
        (install s).seam.items.edges.get e = true ∨
          s.sup.state = .running ∧ (s.conceal.far.get e).present = true ∧ t = .within ∧ 511 ≤ s.conceal.refresh) := by
  cases h : displayRuns s with
  | true =>
    obtain ⟨i, hconceal, -, hsup, hedges, hc, he⟩ := boundary_behind_install t h
    obtain ⟨hcount, hitems⟩ := refreshBoundary_refresh t (farBoundary t i)
    have hrefresh : (farBoundary t i).conceal.refresh = s.conceal.refresh := by
      have hi : i.conceal.refresh = s.conceal.refresh := by rw [hconceal]; simp
      simpa using hi
    have hsup' : (farBoundary t i).sup = s.sup := by simpa using hsup
    have hpresent : ∀ e, ((farBoundary t i).conceal.far.get e).present = (s.conceal.far.get e).present := fun e => by
      obtain ⟨-, -, -, -, hrest⟩ := farBoundary_ages t i e
      have hi : i.conceal.far = s.conceal.far := by rw [hconceal, install_far]
      rw [hrest, hi]
    have hseam : (farBoundary t i).seam = i.seam := by simp
    rw [hc, he]
    rw [hrefresh, hsup'] at hcount hitems
    refine ⟨hcount, fun e => (hitems e).trans ?_⟩
    rw [hpresent, hseam, hedges]
  | false =>
    have hstate : s.sup.state ≠ .running := fun hrun => nomatch h.symm.trans (displayRuns_of_running hrun)
    rw [boundary_of_no_display t h, if_pos hstate]
    exact ⟨by simp, fun e => ⟨.inl, fun h' => h'.elim id fun h' => absurd h'.1 hstate⟩⟩

/-! ## FAR_EDGE_EXPIRY as a row (R107) -/

theorem decide_le_eq_false {k n : Nat} (h : n < k) : decide (k ≤ n) = false := decide_eq_false (Nat.not_le.mpr h)


theorem takeFarExpiry_get (s : State) (e : Edge) :
    (takeFarExpiry s).conceal.far.get e =
      { s.conceal.far.get e with
        valid := (s.conceal.far.get e).valid && decide ((s.conceal.far.get e).age < 2048) } := by
  have hget : (takeFarExpiry s).conceal.far.get e =
      if farExpired (s.conceal.far.get e) then { s.conceal.far.get e with valid := false } else s.conceal.far.get e := by
    simp [takeFarExpiry]
  rw [hget]
  generalize s.conceal.far.get e = r
  have hage : decide (r.age < 2048) = !decide (Config.farEdgeLimit ≤ r.age) := by
    rw [← decide_not, decide_eq_decide]
    exact Nat.not_le.symm
  rw [hage, farExpired]
  cases hvalid : r.valid <;> cases decide (Config.farEdgeLimit ≤ r.age) <;> simp [← hvalid]

/-- No VALID record has reached its limit: nothing is due. -/
theorem takeFarExpiry_of_young {s : State}
    (h : ∀ e, (s.conceal.far.get e).valid = true → (s.conceal.far.get e).age < 2048) : takeFarExpiry s = s :=
  takeFarExpiry_of_none fun e => by
    rw [farExpired]
    cases hvalid : (s.conceal.far.get e).valid with
    | true => exact decide_le_eq_false (h e hvalid)
    | false => rfl

end Sys2Proof.Machine

/-! ## The statements -/

section
open Sys2Proof Sys2Proof.Machine

/-- Settles O18: the installation, then the ageing with its one trigger, then the refresh count. -/
theorem boundaryInstallsTheRebuild : Obligations.BoundaryInstallsTheRebuild := by
  unfold Obligations.BoundaryInstallsTheRebuild
  refine ⟨fun s tk => ?_, fun s e pos colour hpos hcolour => ?_⟩
  · intro t installs expires rerunNow rebuildNow
    obtain ⟨hactive, hshadow⟩ := boundary_kept_conceal tk s
    obtain ⟨hnone, hsome⟩ := boundary_rebuild tk s
    obtain ⟨hrefresh, hitems⟩ := boundary_refresh tk s
    have hno : ¬installs → install s = s := install_of_not_complete
    have hyes : installs → (install s).conceal = _ := install_conceal
    have hexpires : ∀ e, expires e ↔ farExpires tk s e := fun e => Iff.rfl
    refine ⟨fun hi => ?_, fun hi => ?_, fun hquiet => ⟨fun hi => ?_, fun hi => ?_⟩, fun hends => ⟨fun hi => ?_, fun hidle => ?_,
      fun n hn => ?_⟩, fun e => ?_, by simp [t], by simp [t], by simp [t], hrefresh, boundary_far tk s⟩
    · rw [hyes hi] at hactive hshadow
      exact ⟨hactive, hshadow⟩
    · rw [hno hi] at hactive hshadow
      exact ⟨hactive, hshadow⟩
    · have h := hnone hquiet
      rw [hyes hi] at h
      exact h
    · have h := hnone hquiet
      rw [hno hi] at h
      exact h
    · obtain ⟨hidle, hbusy⟩ := hsome hends
      rw [hyes hi] at hidle hbusy
      cases hrerun : s.conceal.rerun with
      | true =>
        rw [hrerun] at hbusy
        exact hbusy nofun
      | false =>
        rw [hrerun] at hidle
        exact hidle rfl
    · have hni : ¬installs := fun hi => nomatch hidle.symm.trans hi
      have h := (hsome hends).1
      rw [hno hni] at h
      exact h hidle
    · have hni : ¬installs := fun hi => nomatch hn.symm.trans hi
      have h := (hsome hends).2
      rw [hno hni, hn] at h
      exact h nofun
    · have hcontent : edgeContent (install s) e = edgeContent t e := edgeContent_congr hactive.symm e
      rw [hitems e, install_edges, hcontent]
      rw [or_assoc, ← and_or_left, ← and_or_left]
  · intro cell
    have hi : pos * 3 + colour < Config.edgeEntryCount := by
      rw [Config.edgeEntryCount]
      omega
    have hcell : edgeCell e (pos * 3 + colour) = cell := by
      have hdiv : (pos * 3 + colour) / 3 = pos := by omega
      have hmod : (pos * 3 + colour) % 3 = colour := by omega
      cases e <;> simp only [edgeCell, hdiv, hmod] <;> rfl
    rw [edgeContent, tget_tbuild _ _ _ hi, hcell, activeEntry]
    generalize tget s.conceal.active cell (.lit 0) = entry
    cases entry <;> rfl

/-- Settles O19, row by row: due or not. -/
theorem dueEventsTakeEffect : Obligations.DueEventsTakeEffect := by
  unfold Obligations.DueEventsTakeEffect
  refine ⟨fun s hblank hcount => ?_, fun s hdue => ?_, fun s hrun hcounter => ?_, fun s => ?_, fun s e hvalid hage => ?_,
    fun s hrun hrefresh => ?_, fun s => ⟨fun hno => ?_, fun hno => ?_, fun hno => ?_, fun hno => ?_, fun hno => ?_⟩⟩
  · have hdue : blankClearDue s = true := by simp [blankClearDue, hblank, hcount, Config.goodRunLimit]
    refine ⟨takeBlankClear s, if_pos hdue, ?_⟩
    rw [takeBlankClear, if_pos hdue]
    obtain ⟨hraised, honly, hrest⟩ := raiseNotice_on (s := s)
      (r := s.setScan { s.scan with blank := false, runCount := 0, seenBlank := blankSeenAfterClear s }) rfl rfl
    exact ⟨by rw [hrest]; rfl, hraised, honly, by rw [hrest]; rfl⟩
  · refine ⟨takeAnomalyNotice s, if_pos hdue, ?_⟩
    rw [takeAnomalyNotice, if_pos hdue]
    obtain ⟨hraised, honly, hrest⟩ := raiseNotice_on (s := s) (r := s.setHealth { s.health with anomalyDue := false }) rfl rfl
    exact ⟨by rw [hrest]; rfl, hraised, honly, by rw [hrest]; rfl⟩
  · have hdue : announcementDue s = true := by simp [announcementDue, isRunning, hrun, hcounter, Config.announcePeriod]
    refine ⟨takeAnnouncement s, if_pos hdue, ?_⟩
    rw [takeAnnouncement, if_pos hdue, pendLoad_eq, pendLoad_load]
    rfl
  · exact ⟨_, rfl, rfl, List.filter_sublist, fun p => by
      show p ∈ s.gov.peers.filter peerLive ↔ _
      rw [List.mem_filter, peerLive, decide_eq_true_iff]
      rfl⟩
  · have hany : (allEdges.any fun f => farExpired (s.conceal.far.get f)) = true := by
      refine List.any_eq_true.mpr ⟨e, by cases e <;> decide, ?_⟩
      simp [farExpired, hvalid, hage, Config.farEdgeLimit]
    refine ⟨takeFarExpiry s, rfl, ?_⟩
    generalize hr : s.setConceal { s.conceal with far := (takeFarExpiry s).conceal.far } = r
    have htrigger : takeFarExpiry s = trigger r := by
      rw [← hr]
      simp only [takeFarExpiry, hany]
      simp [triggerIf]
    have hfar : ∀ f, (takeFarExpiry s).conceal.far.get f = _ := takeFarExpiry_get s
    have hconceal : { s.conceal with far := (takeFarExpiry s).conceal.far } = r.conceal := by rw [← hr]; rfl
    refine ⟨?_, hfar, ?_⟩
    · rw [hconceal, htrigger]
      exact trigger_triggered r
    · rw [htrigger, trigger_eq, ← hr]
      rfl
  · have hdue : refreshDue s = true := by simp [refreshDue, isRunning, hrun, hrefresh, Config.refreshPeriod]
    refine ⟨takeEdgeRefresh s, if_pos hdue, ?_⟩
    rw [takeEdgeRefresh, if_pos hdue]
    exact ⟨rfl, fun e => by rw [pendEdges_edges, Bool.and_true]; rfl, rfl, rfl⟩
  · have hnot : blankClearDue s = false := by
      obtain h | h := hno
      · rw [blankClearDue, h, Bool.false_and]
      · rw [blankClearDue, Config.goodRunLimit, decide_le_eq_false h, Bool.and_false]
    exact if_neg (by rw [hnot]; exact Bool.false_ne_true)
  · exact if_neg (by rw [hno]; exact Bool.false_ne_true)
  · have hnot : announcementDue s = false := by
      obtain h | h := hno
      · rw [announcementDue, isRunning, decide_eq_false h, Bool.false_and]
      · rw [announcementDue, Config.announcePeriod, decide_le_eq_false h, Bool.and_false]
    exact if_neg (by rw [hnot]; exact Bool.false_ne_true)
  · exact congrArg Host.Outcome.next (takeFarExpiry_of_young hno)
  · have hnot : refreshDue s = false := by
      obtain h | h := hno
      · rw [refreshDue, isRunning, decide_eq_false h, Bool.false_and]
      · rw [refreshDue, Config.refreshPeriod, decide_le_eq_false h, Bool.and_false]
    exact if_neg (by rw [hnot]; exact Bool.false_ne_true)

end
end

section
/-! PROOF. Cell events and failure notices: what the report queue holds after an event, and what a notice moves (R58 to R60, R163). -/

namespace Sys2Proof.Machine

/-! ## A cell event (R163) -/

theorem postEvent_of_queued {s : State} {c : Nat} (cause : Cause) (h : queued s c = true) :
    postEvent c cause s =
      s.setPort
        { s.port with
          queue :=
            s.port.queue.map
              (fun r => if r.cell = c then reportOf s c cause (r.updated || (headIs s c && isComposed s .reportHead)) else r) } :=
  if_pos h

theorem postEvent_of_room {s : State} {c : Nat} (cause : Cause) (h : queued s c = false) (hroom : s.port.queue.length < 32) :
    postEvent c cause s =
      { s with
        port := { s.port with queue := s.port.queue ++ [reportOf s c cause false] }
        seam :=
          { s.seam with
            items := { s.seam.items with reportHead := s.seam.items.reportHead || decide (s.port.queue = []) } } } := by
  have hlt : s.port.queue.length < Config.reportQueueSize := hroom
  rw [postEvent, if_neg (by rw [h]; exact Bool.false_ne_true), if_pos hlt]
  cases hq : s.port.queue with
  | nil =>
    show pend .reportHead _ = _
    simp [pend, PendingSet.put]
    rfl
  | cons x xs =>
    simp [State.setPort]

theorem postEvent_of_full {s : State} {c : Nat} (cause : Cause) (h : queued s c = false) (hfull : 32 ≤ s.port.queue.length) :
    postEvent c cause s = s.setPort { s.port with marks := tset s.port.marks c true } := by
  have hge : ¬ s.port.queue.length < Config.reportQueueSize := Nat.not_lt.mpr hfull
  rw [postEvent, if_neg (by rw [h]; exact Bool.false_ne_true), if_neg hge]

theorem queued_iff (s : State) (c : Nat) : queued s c = true ↔ ∃ r ∈ s.port.queue, r.cell = c := by simp [queued]

theorem not_queued {s : State} {c : Nat} (h : ∀ x ∈ s.port.queue, x.cell ≠ c) : queued s c = false := by
  rw [Bool.eq_false_iff, Ne, queued_iff]
  exact fun ⟨r, hr, hc⟩ => h r hr hc

/-- The cell's entry stands at the head exactly when nothing stands before it. -/
theorem headIs_eq {s : State} {c : Nat} {before after : List Report} {r : Report} (hq : s.port.queue = before ++ r :: after)
    (hc : r.cell = c) (hothers : ∀ x ∈ before ++ after, x.cell ≠ c) : headIs s c = decide (before = []) := by
  cases before with
  | nil => simp [headIs, hq, hc]
  | cons x xs => simp [headIs, hq, hothers x (by simp)]

/-- Of a queue with one entry of the cell, only that entry is replaced. -/
theorem map_at_cell {c : Nat} {before after : List Report} {r : Report} (f : Report → Report) (hc : r.cell = c)
    (hothers : ∀ x ∈ before ++ after, x.cell ≠ c) :
    (before ++ r :: after).map (fun x => if x.cell = c then f x else x) = before ++ f r :: after := by
  have hsame : ∀ l : List Report, (∀ x ∈ l, x.cell ≠ c) → l.map (fun x => if x.cell = c then f x else x) = l := by
    intro l hl
    refine (List.map_congr_left fun x hx => ?_).trans (List.map_id l)
    exact if_neg (hl x hx)
  rw [List.map_append, List.map_cons, hsame before fun x hx => hothers x (List.mem_append_left _ hx),
    hsame after fun x hx => hothers x (List.mem_append_right _ hx), if_pos hc]

/-- An event of a cell that the queue holds takes that entry's place (R163). -/
theorem postEvent_replaces {s : State} {c : Nat} (cause : Cause) {before after : List Report} {r : Report}
    (hq : s.port.queue = before ++ r :: after) (hc : r.cell = c) (hothers : ∀ x ∈ before ++ after, x.cell ≠ c) :
    postEvent c cause s =
      s.setPort
        { s.port with
          queue :=
            before ++ reportOf s c cause (r.updated || (decide (before = []) && isComposed s .reportHead)) :: after } := by
  have hin : queued s c = true := (queued_iff s c).mpr ⟨r, by simp [hq], hc⟩
  rw [postEvent_of_queued cause hin, headIs_eq hq hc hothers, hq, map_at_cell _ hc hothers]

/-! ## The effects of a change (R68) -/

/-- The effects of a change, taken on a state whose port, Seam Link Controller and store are still those of `s`. -/
theorem changeEffects_changed {s v : State} (c : Nat) (cause : Cause) (hport : v.port = s.port) (hseam : v.seam = s.seam)
    (hstore : v.store = s.store) : Changed s (changeEffects c cause v) c cause := by
  have hreport : ∀ b, reportOf (markDirty c v) c cause b =
      ⟨c, (cellAt (changeEffects c cause v) c).state, (dieAt (changeEffects c cause v) (primaryDie c)).health,
        (dieAt (changeEffects c cause v) (spareDie c)).health, cause, b⟩ := fun b => by
    simp [reportOf, cellAt, dieAt]
  have hcomposed : isComposed (markDirty c v) .reportHead = isComposed s .reportHead :=
    isComposed_congr _ _ _ (by simp [hseam]) (by simp [hseam])
  have hqueue : (markDirty c v).port = s.port := by simp [hport]
  have hitems : (markDirty c v).seam = s.seam := by simp [hseam]
  refine ⟨?_, ?_, ?_, ?_⟩
  · simp [changeEffects, markDirty, hstore]
  · intro before after r hq hc hothers
    beta_reduce
    rw [← hreport, ← hcomposed, changeEffects, postEvent_replaces cause (hqueue ▸ hq) hc hothers]
    exact ⟨rfl, by rw [setPort_port, hqueue], by rw [setPort_seam, hitems]⟩
  · intro hnot hroom
    beta_reduce
    rw [← hreport, changeEffects, postEvent_of_room cause (not_queued (hqueue ▸ hnot)) (hqueue ▸ hroom)]
    exact ⟨by rw [hqueue], by rw [hqueue], by rw [hitems, hqueue]⟩
  · intro hnot hfull
    rw [changeEffects, postEvent_of_full cause (not_queued (hqueue ▸ hnot)) (hqueue ▸ hfull)]
    exact ⟨by rw [setPort_port, hqueue], by rw [setPort_port, hqueue], by rw [setPort_seam, hitems]⟩

/-- What stands posted stays so through what touches neither port, items, cells nor dies. -/
theorem Changed.congr {s u v : State} {c : Nat} {cause : Cause} (h : Changed s u c cause) (hstore : v.store = u.store)
    (hport : v.port = u.port) (hseam : v.seam = u.seam) (hcells : v.map.cells = u.map.cells)
    (hdies : v.health.dies = u.health.dies) : Changed s v c cause := by
  obtain ⟨hmarks, hposted⟩ := h
  refine ⟨hstore.trans hmarks, ?_⟩
  simpa only [Posted, hport, hseam, cellAt_congr u v _ hcells, dieAt_congr u v _ hdies] using hposted

/-! ## A failure notice (R58 to R60) -/

theorem isSpareDie_eq (d : Nat) : isSpareDie d = decide (d % 2 = 1) := rfl

theorem failureCause_eq (d : Nat) (h : Health) (after : CellState) :
    failureCause d h after =
      if d % 2 = 1 ∧ after = .primary then .spareLost else if h = .failedOpen then .autoOpen else .autoShort := by
  unfold failureCause
  rw [isSpareDie_eq, ← Bool.decide_and]
  by_cases hs : d % 2 = 1 ∧ after = .primary
  · simp only [hs, decide_true, if_true, and_self]
  · rw [if_neg hs, if_neg (by simpa using hs)]
    cases h <;> rfl

/-- The transitions, as R56 writes them. -/
theorem transitioned_eq (s : State) (c : Nat) :
    transitioned s c =
      if (cellAt s c).forced then cellAt s c
      else
        { cellAt s c with
          state :=
            match (cellAt s c).state with
            | .primary => if dieFailed s (primaryDie c) then (if dieFailed s (spareDie c) then .hole else .spare) else .primary
            | .spare => if dieFailed s (spareDie c) then .hole else .spare
            | .hole => .hole } := rfl

/-- A notice taken on a state whose port, Seam Link Controller and store are still those of `s`. -/
theorem takeNotice_changed {s v : State} {d : Nat} (hd : d < Config.dieCount) (hport : v.port = s.port) (hseam : v.seam = s.seam)
    (hstore : v.store = s.store) :
    Changed s (takeNotice d v) (cellOfDie d)
      (if d % 2 = 1 ∧ (cellAt (takeNotice d v) (cellOfDie d)).state = .primary then .spareLost
        else if (dieAt v d).health = .failedOpen then .autoOpen else .autoShort) := by
  have hcell : cellAt (takeNotice d v) (cellOfDie d) = transitioned v (cellOfDie d) := by
    rw [cellAt_takeNotice, if_pos ⟨rfl, cellOfDie_lt hd⟩]
  rw [hcell, ← failureCause_eq]
  exact changeEffects_changed (v := setCell (cellOfDie d) (transitioned v (cellOfDie d)) v) _ _ hport hseam hstore

/-! ## What the operations leave of the port and of the items -/

/-- Of the Service Port and the Seam Link Controller, only the report queue, its marks and the report head's item have changed. -/
def ReportsOnly (s u : State) : Prop :=
  u.port = { s.port with queue := u.port.queue, marks := u.port.marks } ∧
    u.seam = { s.seam with items := { s.seam.items with reportHead := u.seam.items.reportHead } }

theorem ReportsOnly.of_same {s u : State} (hport : u.port = s.port) (hseam : u.seam = s.seam) : ReportsOnly s u := by
  unfold ReportsOnly
  rw [hport, hseam]
  exact ⟨rfl, rfl⟩

theorem ReportsOnly.trans {s t u : State} (hst : ReportsOnly s t) (htu : ReportsOnly t u) : ReportsOnly s u := by
  obtain ⟨hport, hseam⟩ := hst
  obtain ⟨hport', hseam'⟩ := htu
  exact ⟨by rw [hport', hport], by rw [hseam', hseam]⟩

theorem postEvent_reportsOnly (c : Nat) (cause : Cause) (s : State) : ReportsOnly s (postEvent c cause s) := by
  unfold ReportsOnly postEvent
  split
  · exact ⟨rfl, rfl⟩
  · split
    · split <;> exact ⟨rfl, rfl⟩
    · exact ⟨rfl, rfl⟩

theorem changeEffects_reportsOnly (c : Nat) (cause : Cause) (s : State) : ReportsOnly s (changeEffects c cause s) :=
  postEvent_reportsOnly c cause (markDirty c s)

theorem triggerIf_reportsOnly (b : Bool) (s : State) : ReportsOnly s (triggerIf b s) := .of_same (by simp) (by simp)

theorem takeNotices_reportsOnly (ds : List Nat) (s : State) : ReportsOnly s (takeNotices ds s) := by
  have hfold : ∀ v, ReportsOnly v (ds.foldl (fun u d => takeNotice d u) v) := by
    induction ds with
    | nil => exact fun v => .of_same rfl rfl
    | cons d ds ih => exact fun v => (changeEffects_reportsOnly _ _ (setCell _ _ v)).trans (ih _)
  exact (hfold s).trans (triggerIf_reportsOnly _ _)

end Sys2Proof.Machine

/-! ## The statements -/

section

open Sys2Proof Sys2Proof.Machine

/-- Settles O53, by the three cases of a cell event. -/
theorem cellEventIsPosted : Obligations.CellEventIsPosted := by
  unfold Obligations.CellEventIsPosted
  intro s c cause _
  refine ⟨?_, ?_, ?_⟩
  · intro before after r hq hc hothers
    exact postEvent_replaces cause hq hc hothers
  · intro hnot hroom
    rw [postEvent_of_room cause (not_queued hnot) hroom]
    exact ⟨rfl, rfl, rfl⟩
  · intro hnot hfull
    exact postEvent_of_full cause (not_queued hnot) hfull

/-- Settles O28: a notice is the automatic transitions followed by the effects of a change. -/
theorem failureNoticeMovesTheCell : Obligations.FailureNoticeMovesTheCell := by
  unfold Obligations.FailureNoticeMovesTheCell
  intro s d hd
  refine ⟨?_, ?_, takeNotice_changed hd rfl rfl rfl, (by simp), (by simp)⟩
  · intro x hx
    rw [cellAt_takeNotice, if_neg fun h => hx h.1.symm]
  · rw [cellAt_takeNotice, if_pos ⟨rfl, cellOfDie_lt hd⟩]
    exact transitioned_eq s _

end

end

section
/-! PROOF. Shifts, and passes that are void: what a shift's markers make of a position, what each die is driven at, and where the
cycle goes (R3, R5 to R7, R9 to R11, R17, R40, R47). -/

namespace Sys2Proof.Machine

/-! ## A failed check (R6, R11) -/

theorem markerGood_scan (s : State) :
    markerGood s = { s with scan := { s.scan with marker := if s.scan.marker = .failed then .failed else .good } } := by
  have hsame : s.scan = { s.scan with marker := s.scan.marker } := rfl
  unfold markerGood
  split
  · next h => rw [h, if_pos rfl, ← h]
  · next h => rw [if_neg h]; rfl

theorem markerFailed_eq (s : State) :
    markerFailed s = { blanked s with port := (markerFailed s).port, seam := (markerFailed s).seam } := by
  cases h : s.scan.blank with
  | false => rw [markerFailed_of_lit h]; exact raiseNotice_eq _
  | true => rw [markerFailed_of_blank h]

/-- A failed check raises the notice if the flag was clear (R11). -/
theorem markerFailed_notice (s : State) :
    (s.scan.blank = false → NoticeRaised s (markerFailed s) ∧ OnlyNoticeItem s (markerFailed s)) ∧
      (s.scan.blank = true → (markerFailed s).port = s.port ∧ (markerFailed s).seam = s.seam) := by
  refine ⟨fun h => ?_, fun h => ?_⟩
  · obtain ⟨hraised, honly, _⟩ := raiseNotice_on (s := s) (r := blanked s) rfl rfl
    rw [markerFailed_of_lit h]
    exact ⟨hraised, honly⟩
  · rw [markerFailed_of_blank h]
    exact ⟨rfl, rfl⟩

/-- Probes of the slot leave the plan (R47). -/
theorem filter_notMade (plan slot : List Nat) :
    plan.filter (fun d => !slot.contains d) = plan.filter (fun d => decide (d ∉ slot)) :=
  List.filter_congr fun d _ => by simp

/-- With the blank flag set, the rest of the slot is handed back and the refresh rounds follow (R10). -/
theorem abandonSlot_eq {s : State} (h : s.scan.blank = true) :
    abandonSlot s =
      { s with
        health := { s.health with plan := s.health.plan.filter (fun d => decide (d ∉ s.scan.slot)) }
        scan := { s.scan with position := .gap (.refresh 0), seenBlank := true, slot := [] } } := by
  rw [← filter_notMade, ← h]
  rfl

theorem failPosition_eq (next : LitPos) (s : State) :
    failPosition next s =
      { s with
        scan :=
          { s.scan with
            blank := true
            runCount := 0
            marker := .failed
            seenBlank := true
            position := match next with
              | .probe _ => .gap (.refresh 0)
              | _ => .run next false
            slot := match next with
              | .probe _ => []
              | _ => s.scan.slot }
        health :=
          { s.health with
            plan := match next with
              | .probe _ => s.health.plan.filter (fun d => decide (d ∉ s.scan.slot))
              | _ => s.health.plan }
        port := (markerFailed s).port
        seam := (markerFailed s).seam } := by
  have hblank : (markerFailed s).scan.blank = true := by rw [markerFailed_eq]; rfl
  cases next with
  | observe p => unfold failPosition; dsimp only; rw [markerFailed_eq]; rfl
  | probe n => unfold failPosition; dsimp only; rw [abandonSlot_eq hblank, markerFailed_eq]; rfl
  | refresh p => unfold failPosition; dsimp only; rw [markerFailed_eq]; rfl

/-! ## SHIFT_COMPLETE (R6) -/

theorem exec_shiftComplete_good {s : State} {next : LitPos} (h : s.scan.position = .gap next) :
    exec (.shiftComplete true true) s = .next (lightPosition next s) := by
  show execShiftComplete true true s = _
  simp only [execShiftComplete, h]
  rfl

theorem exec_shiftComplete_failed {s : State} {next : LitPos} {p q : Bool} (h : s.scan.position = .gap next)
    (hpq : (p && q) = false) : exec (.shiftComplete p q) s = .next (fillBanks (failPosition next s)) := by
  show execShiftComplete p q s = _
  simp only [execShiftComplete, h, hpq]
  rfl

theorem exec_shiftComplete_elsewhere {s : State} (p q : Bool) (h : ∀ next, s.scan.position ≠ .gap next) :
    exec (.shiftComplete p q) s = .next s := by
  show execShiftComplete p q s = _
  unfold execShiftComplete
  split
  · next next hgap => exact absurd hgap (h next)
  · rfl

/-! ## What a die is driven at (R3, R6, R17) -/

theorem phaseOf_cellOfDie (d : Nat) : phaseOf (cellOfDie d) = d / 2 / 96 % 4 := by
  simp only [phaseOf, cellOfDie, rowOf]

theorem shiftedValue_eq (s : State) (d : Nat) :
    shiftedValue s d =
      if s.scan.blank then 0 else if d % 2 = 1 then tget s.scan.chanS (d / 2) 0 else tget s.scan.chanP (d / 2) 0 := by
  unfold shiftedValue channelValue
  rw [isSpareDie_eq]
  by_cases hs : d % 2 = 1 <;> simp [hs, cellOfDie]

/-! ## Void passes and the refresh rounds (R5, R7, R10, R40) -/

theorem exec_observeEnd_void {s : State} {p : Fin 4} {lit : Bool} (mP mS : Vector Measure Config.channelCount)
    (h : s.scan.position = .run (.observe p) lit) (hvoid : (s.scan.seenBlank || s.scan.blank) = true) :
    exec (.observeEnd mP mS) s = .next (afterObserve p s) := by
  show execObserveEnd mP mS s = _
  simp only [execObserveEnd, h, hvoid, if_true]

theorem exec_observeEnd_taken {s : State} {p : Fin 4} {lit : Bool} (mP mS : Vector Measure Config.channelCount)
    (h : s.scan.position = .run (.observe p) lit) (hblank : s.scan.blank = false) (hseen : s.scan.seenBlank = false) :
    exec (.observeEnd mP mS) s = .next (settle (afterObserve p (takePass p.val mP mS s))) := by
  show execObserveEnd mP mS s = _
  simp only [execObserveEnd, h, hblank, hseen]
  rfl

theorem afterObserve_last (s : State) : afterObserve 3 s = reachProbeSlot s := rfl

theorem afterObserve_of_ne {p : Fin 4} (h : p ≠ 3) (s : State) : afterObserve p s = toGap (.observe (p + 1)) s := if_neg h

/-- With the flag set the cycle passes the probe slot by (R10). -/
theorem reachProbeSlot_of_blank {s : State} (h : s.scan.blank = true) : reachProbeSlot s = toGap (.refresh 0) s := if_pos h

theorem reachProbeSlot_of_lit {s : State} (h : s.scan.blank = false) :
    reachProbeSlot s =
      { s with
        scan :=
          { s.scan with position := .gap (slotStart (choosePlan s).1), slot := (choosePlan s).1, seenBlank := s.scan.blank }
        health := { s.health with plan := (choosePlan s).1, cursor := (choosePlan s).2 } } := by
  rw [reachProbeSlot, if_neg (by rw [h]; exact Bool.false_ne_true)]
  unfold chooseDies
  generalize choosePlan s = q
  rfl

theorem afterObserve_of_blank {s : State} (p : Fin 4) (h : s.scan.blank = true) :
    afterObserve p s =
      { s with
        scan :=
          { s.scan with
            position := if p = 3 then .gap (.refresh 0) else .gap (.observe (p + 1))
            seenBlank := true } } := by
  by_cases hp : p = 3
  · subst hp
    rw [afterObserve_last, reachProbeSlot_of_blank h, if_pos rfl, ← h]
    rfl
  · rw [afterObserve_of_ne hp, if_neg hp, ← h]
    rfl

/-- Choosing the slot's dies touches the Scan Engine and the Health Monitor's plan and cursor alone. -/
theorem reachProbeSlot_eq (s : State) :
    reachProbeSlot s =
      { s with
        scan := (reachProbeSlot s).scan
        health := { s.health with plan := (reachProbeSlot s).health.plan, cursor := (reachProbeSlot s).health.cursor } } := by
  cases h : s.scan.blank with
  | false => rw [reachProbeSlot_of_lit h]
  | true => rw [reachProbeSlot_of_blank h]; rfl

/-- Whichever way the cycle goes behind a pass, only the Scan Engine and the plan and cursor move. -/
theorem afterObserve_eq (p : Fin 4) (s : State) :
    afterObserve p s =
      { s with
        scan := (afterObserve p s).scan
        health := { s.health with plan := (afterObserve p s).health.plan, cursor := (afterObserve p s).health.cursor } } := by
  by_cases hp : p = 3
  · subst hp; exact reachProbeSlot_eq s
  · rw [afterObserve_of_ne hp]; rfl

theorem afterObserve_scan (p : Fin 4) (s : State) :
    (afterObserve p s).scan =
      { s.scan with
        position := (afterObserve p s).scan.position
        slot := (afterObserve p s).scan.slot
        seenBlank := s.scan.blank } := by
  by_cases hp : p = 3
  · subst hp
    rw [afterObserve_last]
    cases h : s.scan.blank with
    | false => rw [reachProbeSlot_of_lit h, h]
    | true => rw [reachProbeSlot_of_blank h, ← h]; rfl
  · rw [afterObserve_of_ne hp]; rfl

end Sys2Proof.Machine

/-! ## The statements -/

section

open Sys2Proof Sys2Proof.Machine

/-- Settles O22, by the outcome of the two markers, and by the position for what a die is driven at. -/
theorem shiftLightsOrBlanks : Obligations.ShiftLightsOrBlanks := by
  unfold Obligations.ShiftLightsOrBlanks
  refine ⟨?_, ?_, fun s p q h => exec_shiftComplete_elsewhere p q h, ?_⟩
  · intro s next h
    rw [exec_shiftComplete_good h, lightPosition, markerGood_scan]
    rfl
  · intro s next p q h hpq
    obtain ⟨hlit, hblank⟩ := markerFailed_notice s
    refine ⟨failPosition next s, exec_shiftComplete_failed h hpq, ?_⟩
    rw [failPosition_eq]
    exact ⟨rfl, rfl, hlit, hblank, rfl⟩
  · intro s d _
    dsimp only
    rw [← shiftedValue_eq, ← phaseOf_cellOfDie d]
    rfl

/-- Settles O25: a void pass leaves the tile as it is but for where the cycle goes. -/
theorem voidPassIsDiscarded : Obligations.VoidPassIsDiscarded := by
  unfold Obligations.VoidPassIsDiscarded
  refine ⟨?_, ?_, ?_⟩
  · intro s p lit mP mS h hblank
    rw [exec_observeEnd_void mP mS h (by rw [hblank, Bool.or_true]), afterObserve_of_blank p hblank]
  · intro s p lit mP mS h hseen
    refine ⟨afterObserve p s, exec_observeEnd_void mP mS h (by rw [hseen, Bool.true_or]), ?_⟩
    have heq := afterObserve_eq p s
    refine ⟨by rw [heq], by rw [heq], by rw [heq], by rw [heq], by rw [heq], by rw [heq], by rw [heq], fun hp => ?_, fun hp => ?_⟩
    · rw [afterObserve_of_ne hp]; rfl
    · rw [hp, afterObserve_last]
  · intro s p lit h
    show execRefreshPositionEnd s = _
    simp only [execRefreshPositionEnd, h]
    rfl

end

end

section
/-! PROOF. The result of a probe (R9, R10, R39, R46, R47). -/

namespace Sys2Proof.Machine

theorem triggerIf_false (s : State) : triggerIf false s = s := rfl

theorem takeNotices_nil (s : State) : takeNotices [] s = s := rfl

theorem takeNotices_single (d : Nat) (s : State) :
    takeNotices [d] s =
      triggerIf (isHole (cellAt s (cellOfDie d)) != isHole (cellAt (takeNotice d s) (cellOfDie d))) (takeNotice d s) := by
  show triggerIf (_ || false) _ = _
  rw [Bool.or_false]
  rfl

/-- A trigger that is handed over stands as R96 has it; one that is not leaves the unit. -/
theorem triggerIf_conceal (b : Bool) (s : State) :
    (b = false → (triggerIf b s).conceal = s.conceal) ∧ (b = true → Triggered s.conceal (triggerIf b s)) := by
  cases b
  · exact ⟨fun _ => rfl, fun h => absurd h Bool.false_ne_true⟩
  · exact ⟨fun h => absurd h.symm Bool.false_ne_true, fun _ => trigger_triggered s⟩

theorem Triggered.congr {b : Conceal} {u v : State} (h : Triggered b u) (hconceal : v.conceal = u.conceal)
    (hcells : v.map.cells = u.map.cells) : Triggered b v := by
  unfold Triggered at *
  rwa [hconceal, hcells]

/-! ## The request list (R46) -/

theorem markProbed_spelled (d : Nat) (reqs : List ProbeReq) :
    markProbed d reqs =
      (reqs.map
        (fun q =>
          if q.cell ≠ cellOfDie d then q
          else if d % 2 = 1 then { q with spareDone := true } else { q with primaryDone := true })).filter
        (fun q => !decide (q.cell = cellOfDie d ∧ q.primaryDone = true ∧ q.spareDone = true)) := by
  have hmark : ∀ q : ProbeReq,
      (if q.cell = cellOfDie d then
          if isSpareDie d then { q with spareDone := true } else { q with primaryDone := true }
        else q) =
      if q.cell ≠ cellOfDie d then q
      else if d % 2 = 1 then { q with spareDone := true } else { q with primaryDone := true } := fun q => by
    by_cases hq : q.cell = cellOfDie d <;> simp [hq, isSpareDie_iff]
  unfold markProbed
  rw [List.map_congr_left fun q _ => hmark q]
  refine List.filter_congr fun q _ => ?_
  simp [Bool.and_assoc]

/-! ## A result for a die in the plan (R46) -/

/-- The Health Monitor's part of a probe result: the record, the plan and the request list. -/
def probed (d : Nat) (m : Measure) (s : State) : State :=
  s.setHealth
    { s.health with
      dies := tset s.health.dies d (observe true m (dieAt s d))
      plan := s.health.plan.filter (fun x => x != d)
      requests := markProbed d s.health.requests }

theorem takeProbeResult_of_out {s : State} {d : Nat} (m : Measure) (h : d ∉ s.health.plan) : takeProbeResult d m s = s :=
  if_neg (by simpa using h)

theorem takeProbeResult_of_in {s : State} {d : Nat} (m : Measure) (h : d ∈ s.health.plan) :
    takeProbeResult d m s =
      takeNotices (if becameFailed (dieAt s d) (observe true m (dieAt s d)) then [d] else []) (probed d m s) :=
  if_pos (by simpa using h)

theorem dieAt_probed {s : State} {d : Nat} (m : Measure) (hd : d < Config.dieCount) (x : Nat) :
    dieAt (probed d m s) x = if x = d then observe true m (dieAt s d) else dieAt s x := by
  show tget (tset s.health.dies d _) x DieRec.fresh = _
  rw [tget_tset]
  by_cases h : x = d
  · subst h; simp [hd]
  · rw [if_neg (fun hx => h hx.1.symm), if_neg h]; rfl

/-- A FAILED die stays so (R36, R37): it became FAILED exactly when it is FAILED now and was not. -/
theorem becameFailed_observe (byProbe : Bool) (m : Measure) (r : DieRec) :
    becameFailed r (observe byProbe m r) = (r.health.failed != (observe byProbe m r).health.failed) := by
  cases h : r.health.failed with
  | false => simp [becameFailed, h]
  | true => simp [becameFailed, h, observe_failed byProbe m r h]

theorem takeProbeResult_health {s : State} {d : Nat} (m : Measure) (h : d ∈ s.health.plan) :
    (takeProbeResult d m s).health = (probed d m s).health := by
  rw [takeProbeResult_of_in m h]
  simp

theorem dieAt_takeProbeResult {s : State} {d : Nat} (m : Measure) (h : d ∈ s.health.plan) (hd : d < Config.dieCount) (x : Nat) :
    dieAt (takeProbeResult d m s) x = if x = d then observe true m (dieAt s d) else dieAt s x := by
  rw [← dieAt_probed m hd]
  exact dieAt_congr _ _ _ (by rw [takeProbeResult_health m h])

theorem takeProbeResult_reportsOnly {s : State} {d : Nat} (m : Measure) : ReportsOnly s (takeProbeResult d m s) := by
  by_cases h : d ∈ s.health.plan
  · rw [takeProbeResult_of_in m h]
    exact takeNotices_reportsOnly _ (probed d m s)
  · rw [takeProbeResult_of_out m h]
    exact .of_same rfl rfl

/-- No die became FAILED: the result is the Health Monitor's alone. -/
theorem takeProbeResult_of_kept {s : State} {d : Nat} (m : Measure) (h : d ∈ s.health.plan) (hd : d < Config.dieCount)
    (hkept : dieFailed s d = dieFailed (takeProbeResult d m s) d) : takeProbeResult d m s = probed d m s := by
  have hbecame : becameFailed (dieAt s d) (observe true m (dieAt s d)) = false := by
    rw [becameFailed_observe]
    simpa [dieFailed, dieAt_takeProbeResult m h hd] using hkept
  rw [takeProbeResult_of_in m h, hbecame]
  exact takeNotices_nil _

/-- A die that became FAILED hands its notice over (R39). -/
theorem takeProbeResult_of_lost {s : State} {d : Nat} (m : Measure) (h : d ∈ s.health.plan) (hd : d < Config.dieCount)
    (hlost : dieFailed s d ≠ dieFailed (takeProbeResult d m s) d) :
    takeProbeResult d m s =
      triggerIf (isHole (cellAt s (cellOfDie d)) != isHole (cellAt (takeNotice d (probed d m s)) (cellOfDie d)))
        (takeNotice d (probed d m s)) := by
  have hbecame : becameFailed (dieAt s d) (observe true m (dieAt s d)) = true := by
    rw [becameFailed_observe]
    simpa [dieFailed, dieAt_takeProbeResult m h hd] using hlost
  rw [takeProbeResult_of_in m h, hbecame]
  exact takeNotices_single d (probed d m s)

/-- A die's failure in a probe moves its cell, when it is not forced, and no other (R58, R59). -/
theorem probeFailure_moves {s : State} {d : Nat} (m : Measure) (h : d ∈ s.health.plan) (hd : d < Config.dieCount)
    (hlost : dieFailed s d ≠ dieFailed (takeProbeResult d m s) d) (x : Nat) :
    cellAt (takeProbeResult d m s) x =
      if x = cellOfDie d then
        if (cellAt s x).forced then cellAt s x
        else
          { cellAt s x with
            state :=
              transition (cellAt s x).state (dieFailed (takeProbeResult d m s) (primaryDie x))
                (dieFailed (takeProbeResult d m s) (spareDie x)) }
      else cellAt s x := by
  have hdies : ∀ y, dieFailed (takeProbeResult d m s) y = dieFailed (probed d m s) y := fun y =>
    dieFailed_congr y (by rw [takeProbeResult_health m h])
  simp only [hdies]
  rw [takeProbeResult_of_lost m h hd hlost, cellAt_triggerIf, cellAt_takeNotice]
  by_cases hx : x = cellOfDie d
  · rw [if_pos ⟨hx.symm, hx ▸ cellOfDie_lt hd⟩, if_pos hx]; rfl
  · rw [if_neg fun hc => hx hc.1.symm, if_neg hx]; rfl

/-- It is marked and reported (R58 to R60). -/
theorem probeFailure_changed {s : State} {d : Nat} (m : Measure) (h : d ∈ s.health.plan) (hd : d < Config.dieCount)
    (hlost : dieFailed s d ≠ dieFailed (takeProbeResult d m s) d) :
    Changed s (takeProbeResult d m s) (cellOfDie d)
      (if d % 2 = 1 ∧ (cellAt (takeProbeResult d m s) (cellOfDie d)).state = .primary then .spareLost
        else if (dieAt (takeProbeResult d m s) d).health = .failedOpen then .autoOpen else .autoShort) := by
  have hdie : dieAt (takeProbeResult d m s) d = dieAt (probed d m s) d :=
    dieAt_congr _ _ _ (by rw [takeProbeResult_health m h])
  have hchanged := takeNotice_changed (s := s) (v := probed d m s) hd rfl rfl rfl
  rw [hdie, takeProbeResult_of_lost m h hd hlost, cellAt_triggerIf]
  exact hchanged.congr (by simp) (by simp) (by simp) (by simp) (by simp)

/-- It triggers a rebuild exactly when the cell enters HOLE (R70). -/
theorem probeFailure_triggers {s : State} {d : Nat} (m : Measure) (h : d ∈ s.health.plan) (hd : d < Config.dieCount)
    (hlost : dieFailed s d ≠ dieFailed (takeProbeResult d m s) d) :
    (isHole (cellAt s (cellOfDie d)) = isHole (cellAt (takeProbeResult d m s) (cellOfDie d)) →
        (takeProbeResult d m s).conceal = s.conceal) ∧
      (isHole (cellAt s (cellOfDie d)) ≠ isHole (cellAt (takeProbeResult d m s) (cellOfDie d)) →
        Triggered s.conceal (takeProbeResult d m s)) := by
  have hconceal : (takeNotice d (probed d m s)).conceal = s.conceal := by simp [probed]
  obtain ⟨hkept, htriggered⟩ :=
    triggerIf_conceal (isHole (cellAt s (cellOfDie d)) != isHole (cellAt (takeNotice d (probed d m s)) (cellOfDie d)))
      (takeNotice d (probed d m s))
  rw [hconceal] at hkept htriggered
  rw [takeProbeResult_of_lost m h hd hlost, cellAt_triggerIf]
  exact ⟨fun heq => hkept (by simpa using heq), fun hne => htriggered (by simpa using hne)⟩

/-! ## PROBE_END (R9) -/

theorem exec_probeEnd_made {s : State} {n d : Nat} {rest : List Nat} {lit : Bool} (m : Measure)
    (hpos : s.scan.position = .run (.probe n) lit) (hslot : s.scan.slot = d :: rest) (hblank : s.scan.blank = false) :
    exec (.probeEnd m) s = .next (settle (endProbe n d rest m s)) := by
  show execProbeEnd m s = _
  simp only [execProbeEnd, hpos, hslot, hblank]
  rfl

theorem exec_probeEnd_abandoned {s : State} {n : Nat} {lit : Bool} (m : Measure)
    (hpos : s.scan.position = .run (.probe n) lit) (hblank : s.scan.blank = true) (hslot : s.scan.slot ≠ []) :
    exec (.probeEnd m) s = .next (abandonSlot s) := by
  show execProbeEnd m s = _
  obtain ⟨d, rest, hslot⟩ := List.exists_cons_of_ne_nil hslot
  simp only [execProbeEnd, hpos, hslot, hblank, if_true]

theorem exec_probeEnd_elsewhere {s : State} (m : Measure) (h : ∀ n lit, s.scan.position ≠ .run (.probe n) lit) :
    exec (.probeEnd m) s = .next s := by
  show execProbeEnd m s = _
  unfold execProbeEnd
  split
  · next n lit hpos _ => exact absurd hpos (h n lit)
  · next n lit d rest hpos _ => exact absurd hpos (h n lit)
  · rfl

theorem endProbe_eq (n d : Nat) (rest : List Nat) (m : Measure) {s : State} (hblank : s.scan.blank = false) :
    endProbe n d rest m s =
      { takeProbeResult d m s with
        scan :=
          { s.scan with
            slot := rest
            position := if rest = [] then .gap (.refresh 0) else .gap (.probe (n + 1))
            seenBlank := false } } := by
  have hscan : (takeProbeResult d m s).scan = s.scan := by simp
  have hnext : ScanPos.gap (afterProbe n rest) = if rest = [] then .gap (.refresh 0) else .gap (.probe (n + 1)) := by
    cases rest <;> rfl
  rw [← hnext, ← hblank, ← hscan]
  rfl

end Sys2Proof.Machine

/-! ## The statement -/

section

open Sys2Proof Sys2Proof.Machine

/-- Settles O27, by whether the die is in the plan and whether it became FAILED. -/
theorem probeResultIsTaken : Obligations.ProbeResultIsTaken := by
  unfold Obligations.ProbeResultIsTaken
  refine ⟨?_, ?_, fun s m h => exec_probeEnd_elsewhere m h⟩
  · intro s n d rest lit m hpos hslot hblank hd
    refine ⟨endProbe n d rest m s, exec_probeEnd_made m hpos hslot hblank, ?_⟩
    rw [endProbe_eq n d rest m hblank]
    refine ⟨rfl, fun hout => by rw [takeProbeResult_of_out m hout], fun hin => ?_⟩
    have hhealth := takeProbeResult_health m hin
    have hrest : (probed d m s).health =
        { s.health with
          dies := (probed d m s).health.dies
          plan := (probed d m s).health.plan
          requests := (probed d m s).health.requests } := rfl
    obtain ⟨hport, hseam⟩ := takeProbeResult_reportsOnly (d := d) (s := s) m
    refine ⟨dieAt_takeProbeResult m hin hd, ?_, ?_, fun hkept => ?_, fun hlost => ?_, ?_, hport, hseam, ?_⟩
    · exact (congrArg HealthMon.plan hhealth)
    · exact (congrArg HealthMon.requests hhealth).trans (markProbed_spelled d _)
    · rw [takeProbeResult_of_kept m hin hd hkept]
      exact ⟨rfl, rfl, rfl, rfl, rfl, rfl⟩
    · obtain ⟨hsame, htriggered⟩ := probeFailure_triggers m hin hd hlost
      refine ⟨?_, probeFailure_changed m hin hd hlost, ?_, ?_, hsame, htriggered⟩
      · exact (probeFailure_moves m hin hd hlost _).trans (if_pos rfl)
      · exact fun x hx => (probeFailure_moves m hin hd hlost x).trans (if_neg hx)
      · simp
    · rw [hhealth]; exact hrest
    · simp
  · intro s n lit m hpos hblank hslot
    rw [exec_probeEnd_abandoned m hpos hblank hslot, abandonSlot_eq hblank]

end

end

section
/-! PROOF. The choice of a probe slot's dies (R9, R44, R45). -/

namespace Sys2Proof.Machine

/-! ## The first match from a cursor on (R2) -/

theorem length_wrapOrder (n cursor : Nat) : (wrapOrder n cursor).length = n := by simp [wrapOrder]

theorem findFrom_eq_some_iff (n cursor i : Nat) (p : Nat → Bool) :
    findFrom n cursor p = some i ↔
      ∃ k, k < n ∧ i = (cursor + k) % n ∧ p i = true ∧ ∀ j, j < k → p ((cursor + j) % n) = false := by
  unfold findFrom
  rw [List.find?_eq_some_iff_getElem]
  constructor
  · rintro ⟨hp, k, hk, hget, hbefore⟩
    rw [length_wrapOrder] at hk
    refine ⟨k, hk, ?_, hp, fun j hj => ?_⟩
    · simpa [wrapOrder] using hget.symm
    · simpa [wrapOrder] using hbefore j hj
  · rintro ⟨k, hk, rfl, hp, hbefore⟩
    refine ⟨hp, k, by rwa [length_wrapOrder], by simp [wrapOrder], fun j hj => ?_⟩
    simpa [wrapOrder] using hbefore j hj

/-! ## What the request list supplies (R44) -/

theorem foldl_addToPlan (ds : List Nat) : ∀ plan : List Nat, (plan ++ ds).Nodup → plan.length ≤ Config.probePlanSize →
    ds.foldl addToPlan plan = (plan ++ ds).take Config.probePlanSize := by
  induction ds with
  | nil => exact fun plan _ hlen => by rw [List.append_nil, List.foldl_nil, List.take_of_length_le hlen]
  | cons d ds ih =>
    intro plan hnodup hlen
    rw [List.foldl_cons, addToPlan]
    by_cases hroom : plan.length < Config.probePlanSize
    · have hnew : d ∉ plan := fun hmem => List.disjoint_of_nodup_append hnodup hmem List.mem_cons_self
      rw [if_pos ⟨hroom, hnew⟩, ih _ (by simpa using hnodup) (by simpa using hroom), List.append_assoc]
      rfl
    · have hfull : plan.length = Config.probePlanSize := by omega
      have hnodup' : (plan ++ ds).Nodup := hnodup.sublist ((List.sublist_cons_self d ds).append_left plan)
      rw [if_neg (fun h => hroom h.1), ih _ hnodup' hlen, List.take_append_of_le_length hfull.ge,
        List.take_append_of_le_length hfull.ge]

theorem planFromRequests_eq {reqs : List ProbeReq} (h : (reqs.flatMap wantedDies).Nodup) :
    planFromRequests reqs = (reqs.flatMap wantedDies).take 4 :=
  foldl_addToPlan _ [] h (Nat.zero_le _)

/-! ## What the sweep supplies (R45) -/

/-- A die qualifies for the place behind a plan (R45). -/
def Qualifies (v : State) (before : List Nat) (d : Nat) : Prop :=
  dieFailed v d = false ∧ d ∉ before ∧
    (drivenDie (cellOfDie d) (cellAt v (cellOfDie d)).state ≠ some d ∨ 1024 ≤ (dieAt v d).age)

/-- Where the sweep cursor stands for the plan's place `i`, when the request list has supplied the first `n` dies. -/
def cursorFor (c n : Nat) (plan : List Nat) (i : Nat) : Nat :=
  if i ≤ n then c else (plan.getD (i - 1) 0 + 1) % Config.dieCount

/-- The die at the plan's place `i` is the first from the cursor on that qualifies there. -/
def FirstFor (v : State) (c n : Nat) (plan : List Nat) (i : Nat) : Prop :=
  ∃ k, k < Config.dieCount ∧ plan.getD i 0 = (cursorFor c n plan i + k) % Config.dieCount ∧
    Qualifies v (plan.take i) (plan.getD i 0) ∧
    ∀ m, m < k → ¬Qualifies v (plan.take i) ((cursorFor c n plan i + m) % Config.dieCount)

theorem sweepTakes_iff (v : State) (plan : List Nat) (d : Nat) : sweepTakes v plan d = true ↔ Qualifies v plan d := by
  simp only [sweepTakes, Qualifies, Bool.and_eq_true, Bool.or_eq_true, Bool.not_eq_true', List.contains_eq_mem,
    decide_eq_false_iff_not, decide_eq_true_eq, and_assoc]
  rfl

theorem sweepTakes_false_iff (v : State) (plan : List Nat) (d : Nat) : sweepTakes v plan d = false ↔ ¬Qualifies v plan d := by
  rw [← sweepTakes_iff, Bool.not_eq_true]

theorem sweepOne_of_full {v : State} {q : List Nat × Nat} (h : ¬ q.1.length < Config.probePlanSize) : sweepOne v q = q := if_neg h

theorem sweepOne_of_none {v : State} {q : List Nat × Nat}
    (h : findFrom Config.dieCount q.2 (sweepTakes v q.1) = none) : sweepOne v q = q := by
  unfold sweepOne
  split
  · rw [h]
  · rfl

theorem sweepOne_of_some {v : State} {q : List Nat × Nat} {d : Nat} (hroom : q.1.length < Config.probePlanSize)
    (h : findFrom Config.dieCount q.2 (sweepTakes v q.1) = some d) :
    sweepOne v q = (q.1 ++ [d], cursorPast Config.dieCount d) := by
  rw [sweepOne, if_pos hroom, h]

/-- One place of the sweep: it stays unused, because the plan is full or no die qualifies, or it is filled. -/
theorem sweepOne_cases (v : State) (q : List Nat × Nat) :
    (sweepOne v q = q ∧ (q.1.length < 4 → ∀ d, d < Config.dieCount → ¬Qualifies v q.1 d)) ∨
      ∃ d, q.1.length < 4 ∧ findFrom Config.dieCount q.2 (sweepTakes v q.1) = some d ∧
        sweepOne v q = (q.1 ++ [d], cursorPast Config.dieCount d) := by
  by_cases hroom : q.1.length < Config.probePlanSize
  · cases hfind : findFrom Config.dieCount q.2 (sweepTakes v q.1) with
    | none =>
      refine .inl ⟨sweepOne_of_none hfind, fun _ d hd => ?_⟩
      exact (sweepTakes_false_iff v _ d).mp (findFrom_none _ _ _ hfind d hd)
    | some d => exact .inr ⟨d, hroom, rfl, sweepOne_of_some hroom hfind⟩
  · exact .inl ⟨sweepOne_of_full hroom, fun h => absurd h hroom⟩

/-- What stands after any number of places of the sweep, from a request list's `asked` and the cursor `c`. -/
structure SweepKept (v : State) (asked : List Nat) (c : Nat) (q : List Nat × Nat) : Prop where
  sound : PlanSound q.1
  first : asked <+: q.1
  chosen : ∀ i, asked.length ≤ i → i < q.1.length → FirstFor v c asked.length q.1 i
  cursor : q.2 = cursorFor c asked.length q.1 q.1.length

theorem SweepKept.start (v : State) {asked : List Nat} (c : Nat) (h : PlanSound asked) : SweepKept v asked c (asked, c) where
  sound := h
  first := List.prefix_refl asked
  chosen := fun _ hle hlt => absurd hlt (Nat.not_lt.mpr hle)
  cursor := (if_pos le_rfl).symm

/-- A place of a plan is not touched by what is put behind it. -/
theorem FirstFor.append {v : State} {c n i : Nat} {plan : List Nat} (h : FirstFor v c n plan i) (hi : i < plan.length) (d : Nat) :
    FirstFor v c n (plan ++ [d]) i := by
  have hcursor : cursorFor c n (plan ++ [d]) i = cursorFor c n plan i := by
    unfold cursorFor
    rw [List.getD_append _ _ _ _ (by omega)]
  unfold FirstFor
  rwa [hcursor, List.getD_append _ _ _ _ hi, List.take_append_of_le_length hi.le]

/-- The place that the sweep has just filled. -/
theorem FirstFor.last {v : State} {c n d : Nat} {plan : List Nat}
    (h : findFrom Config.dieCount (cursorFor c n plan plan.length) (sweepTakes v plan) = some d) :
    FirstFor v c n (plan ++ [d]) plan.length := by
  obtain ⟨k, hk, hd, htakes, hbefore⟩ := (findFrom_eq_some_iff _ _ _ _).mp h
  have hcursor : cursorFor c n (plan ++ [d]) plan.length = cursorFor c n plan plan.length := by
    cases plan with
    | nil => simp [cursorFor]
    | cons x xs =>
      unfold cursorFor
      rw [List.getD_append _ _ _ _ (by simp)]
  have hget : (plan ++ [d]).getD plan.length 0 = d := by simp
  unfold FirstFor
  rw [hcursor, hget, List.take_left]
  exact ⟨k, hk, hd, (sweepTakes_iff v _ _).mp htakes, fun m hm => (sweepTakes_false_iff v _ _).mp (hbefore m hm)⟩

theorem SweepKept.step {v : State} {asked : List Nat} {c : Nat} {q : List Nat × Nat} (h : SweepKept v asked c q) :
    SweepKept v asked c (sweepOne v q) := by
  obtain ⟨hsame, -⟩ | ⟨d, hroom, hfind, hnext⟩ := sweepOne_cases v q
  · rw [hsame]; exact h
  · have hle : asked.length ≤ q.1.length := h.first.length_le
    have hqual : Qualifies v q.1 d := (sweepTakes_iff v _ _).mp (findFrom_some _ _ _ _ hfind).2
    rw [hnext]
    refine ⟨h.sound.append hroom hqual.2.1, h.first.trans (List.prefix_append _ _), fun i hi hlt => ?_, ?_⟩
    · obtain hlt' | rfl : i < q.1.length ∨ i = q.1.length := by simp at hlt; omega
      · exact (h.chosen i hi hlt').append hlt' d
      · exact FirstFor.last (h.cursor ▸ hfind)
    · have hnot : ¬ (q.1 ++ [d]).length ≤ asked.length := by simp; omega
      rw [cursorFor, if_neg hnot]
      simp [cursorPast]

theorem choosePlan_eq (v : State) :
    choosePlan v = (sweepOne v)^[4] (planFromRequests v.health.requests, v.health.cursor) := by
  unfold choosePlan
  generalize sweepOne v = f
  rfl

theorem choosePlan_swept (v : State) : SweepKept v (planFromRequests v.health.requests) v.health.cursor (choosePlan v) :=
  (SweepKept.start v v.health.cursor (planFromRequests_sound _)).step.step.step.step

/-- Each place of the sweep is filled, or it stays unused and so do those behind it. -/
theorem sweep_fills (v : State) (q : List Nat × Nat) (k : Nat) :
    (((sweepOne v)^[k] q).1.length < 4 → ∀ d, d < Config.dieCount → ¬Qualifies v ((sweepOne v)^[k] q).1 d) ∨
      k ≤ ((sweepOne v)^[k] q).1.length := by
  induction k with
  | zero => exact .inr (Nat.zero_le _)
  | succ k ih =>
    rw [Function.iterate_succ_apply']
    obtain ⟨hsame, hnone⟩ | ⟨d, hroom, hfind, hnext⟩ := sweepOne_cases v ((sweepOne v)^[k] q)
    · rw [hsame]; exact .inl hnone
    · obtain hnone | hlen := ih
      · obtain ⟨hd, htakes⟩ := findFrom_some _ _ _ _ hfind
        exact absurd ((sweepTakes_iff v _ _).mp htakes) (hnone hroom d hd)
      · rw [hnext]
        exact .inr (by simpa using hlen)

/-- A place of the slot stays unused only when no die qualifies (R45). -/
theorem choosePlan_full (v : State) (h : (choosePlan v).1.length < 4) (d : Nat) (hd : d < Config.dieCount) :
    ¬Qualifies v (choosePlan v).1 d := by
  rw [choosePlan_eq] at *
  obtain hnone | hlen := sweep_fills v (planFromRequests v.health.requests, v.health.cursor) 4
  · exact hnone h d hd
  · exact absurd h (Nat.not_lt.mpr hlen)

/-- The state that the pass of OBSERVE 3 leaves, on which the slot's dies are chosen (R40, R44). -/
def passLeft (mP mS : Vector Measure Config.channelCount) (s : State) : State :=
  if s.scan.seenBlank then s else takePass 3 mP mS s

theorem exec_observeEnd_last {s : State} {lit : Bool} (mP mS : Vector Measure Config.channelCount)
    (h : s.scan.position = .run (.observe 3) lit) (hblank : s.scan.blank = false) :
    exec (.observeEnd mP mS) s =
      .next (if s.scan.seenBlank then reachProbeSlot (passLeft mP mS s) else settle (reachProbeSlot (passLeft mP mS s))) := by
  cases hseen : s.scan.seenBlank with
  | true => rw [exec_observeEnd_void mP mS h (by rw [hseen, Bool.true_or]), passLeft, hseen]; rfl
  | false => rw [exec_observeEnd_taken mP mS h hblank hseen, passLeft, hseen]; rfl

theorem passLeft_frame (mP mS : Vector Measure Config.channelCount) (s : State) :
    (passLeft mP mS s).scan = s.scan ∧ (passLeft mP mS s).health.requests = s.health.requests ∧
      (passLeft mP mS s).health.cursor = s.health.cursor := by
  unfold passLeft
  split <;> simp

theorem slotStart_eq (ds : List Nat) : ScanPos.gap (slotStart ds) = if ds = [] then .gap (.refresh 0) else .gap (.probe 0) := by
  cases ds <;> rfl

end Sys2Proof.Machine

/-! ## The statement -/

section

open Sys2Proof Sys2Proof.Machine

/-- Settles O26, by induction on the places that the sweep fills. -/
theorem probePlanIsChosen : Obligations.ProbePlanIsChosen := by
  unfold Obligations.ProbePlanIsChosen
  intro s lit mP mS h hblank
  obtain ⟨hscan, hrequests, hcursor⟩ := passLeft_frame mP mS s
  refine ⟨passLeft mP mS s, exec_observeEnd_last mP mS h hblank, hscan, hrequests, hcursor, fun hseen => if_pos hseen, ?_⟩
  generalize passLeft mP mS s = v at *
  have hlit : v.scan.blank = false := by rw [hscan, hblank]
  have hkept := choosePlan_swept v
  have hfull := choosePlan_full v
  rw [reachProbeSlot_of_lit hlit]
  generalize choosePlan v = q at *
  obtain ⟨⟨hlen, hnodup⟩, hfirst, hchosen, hmoved⟩ := hkept
  refine ⟨rfl, hlen, hnodup, fun hwanted => ?_, slotStart_eq q.1, by rw [hlit]⟩
  rw [planFromRequests_eq hwanted] at hfirst hchosen hmoved
  refine ⟨hfirst, hchosen, fun hroom d hd hqual => hfull hroom d hd ?_, hmoved⟩
  have hqual : Qualifies v (q.1.take q.1.length) d := hqual
  rwa [List.take_length] at hqual

end

end

section
/-! PROOF. The report queue behind the notices of one event, taken in ascending die index (R39, R60, R61, R163; log entry 8). -/

namespace Sys2Proof.Machine

/-! ## The report of one notice -/

/-- The event that the notice of die `d` gives its cell (R60, R69). -/
def noticeReport (v : State) (d : Nat) (updated : Bool) : Report :=
  ⟨cellOfDie d, (transitioned v (cellOfDie d)).state, (dieAt v (primaryDie (cellOfDie d))).health,
    (dieAt v (spareDie (cellOfDie d))).health, failureCause d (dieAt v d).health (transitioned v (cellOfDie d)).state, updated⟩

theorem noticeReport_congr {v t : State} (d : Nat) (hcell : transitioned t (cellOfDie d) = transitioned v (cellOfDie d))
    (hdies : t.health.dies = v.health.dies) : noticeReport t d = noticeReport v d := by
  funext b
  unfold noticeReport
  rw [hcell, dieAt_congr v t _ hdies, dieAt_congr v t _ hdies, dieAt_congr v t _ hdies]

/-- The state on which a notice posts its event. -/
def noticed (d : Nat) (t : State) : State := markDirty (cellOfDie d) (setCell (cellOfDie d) (transitioned t (cellOfDie d)) t)

theorem takeNotice_eq (d : Nat) (t : State) :
    takeNotice d t =
      postEvent (cellOfDie d) (failureCause d (dieAt t d).health (transitioned t (cellOfDie d)).state) (noticed d t) := rfl

theorem reportOf_noticed {d : Nat} (t : State) (hd : d < Config.dieCount) (b : Bool) :
    reportOf (noticed d t) (cellOfDie d) (failureCause d (dieAt t d).health (transitioned t (cellOfDie d)).state) b =
      noticeReport t d b := by
  have hcell : cellAt (noticed d t) (cellOfDie d) = transitioned t (cellOfDie d) := by
    show tget (tset t.map.cells _ _) _ _ = _
    rw [tget_tset_self _ _ _ _ (cellOfDie_lt hd)]
  unfold reportOf noticeReport
  rw [hcell]
  rfl

theorem takeNotice_of_queued {t : State} {d : Nat} (hd : d < Config.dieCount) (h : queued t (cellOfDie d) = true) :
    (takeNotice d t).port.queue =
        t.port.queue.map
          (fun r =>
            if r.cell = cellOfDie d then noticeReport t d (r.updated || (headIs t (cellOfDie d) && isComposed t .reportHead))
            else r) ∧
      (takeNotice d t).port.marks = t.port.marks ∧ (takeNotice d t).seam.items.reportHead = t.seam.items.reportHead := by
  have hqueued : queued (noticed d t) (cellOfDie d) = true := h
  rw [takeNotice_eq, postEvent_of_queued _ hqueued]
  simp only [reportOf_noticed t hd]
  exact ⟨rfl, rfl, rfl⟩

theorem takeNotice_of_room {t : State} {d : Nat} (hd : d < Config.dieCount) (h : queued t (cellOfDie d) = false)
    (hroom : t.port.queue.length < 32) :
    (takeNotice d t).port.queue = t.port.queue ++ [noticeReport t d false] ∧ (takeNotice d t).port.marks = t.port.marks ∧
      (takeNotice d t).seam.items.reportHead = (t.seam.items.reportHead || decide (t.port.queue = [])) := by
  have hqueued : queued (noticed d t) (cellOfDie d) = false := h
  have hlen : (noticed d t).port.queue.length < 32 := hroom
  rw [takeNotice_eq, postEvent_of_room _ hqueued hlen, reportOf_noticed t hd]
  exact ⟨rfl, rfl, rfl⟩

theorem takeNotice_of_full {t : State} {d : Nat} (h : queued t (cellOfDie d) = false) (hfull : 32 ≤ t.port.queue.length) :
    (takeNotice d t).port.queue = t.port.queue ∧ (takeNotice d t).port.marks = tset t.port.marks (cellOfDie d) true ∧
      (takeNotice d t).seam.items.reportHead = t.seam.items.reportHead := by
  have hqueued : queued (noticed d t) (cellOfDie d) = false := h
  have hlen : 32 ≤ (noticed d t).port.queue.length := hfull
  rw [takeNotice_eq, postEvent_of_full _ hqueued hlen]
  exact ⟨rfl, rfl, rfl⟩

/-! ## The reports of a list of notices -/

/-- A notice of the list is of this cell. -/
def named (ds : List Nat) (c : Nat) : Bool := ds.any (fun d => decide (cellOfDie d = c))

/-- The event that the notices of the list leave for a cell: its spare's, if the list has one, else its primary's. -/
def eventOf (v : State) (ds : List Nat) (c : Nat) : Bool → Report :=
  noticeReport v (if spareDie c ∈ ds then spareDie c else primaryDie c)

/-- The cell's entry is the composed report head. -/
def lateAt (v : State) (c : Nat) : Bool := decide (v.port.queue.head?.map (fun r => r.cell) = some c) && isComposed v .reportHead

/-- What the notices of the list make of an entry that the queue already held. -/
def replaced (v : State) (ds : List Nat) (r : Report) : Report :=
  if named ds r.cell then eventOf v ds r.cell (r.updated || lateAt v r.cell) else r

/-- The port and the items behind the notices `ds`, taken on `v`, with the entries `added` at the tail. -/
structure NoticesPosted (v : State) (ds : List Nat) (added : List Report) (t : State) : Prop where
  queue : t.port.queue = v.port.queue.map (replaced v ds) ++ added
  fresh : ∀ r ∈ added, r.cell < Config.cellCount ∧ named ds r.cell = true ∧ (∀ x ∈ v.port.queue, x.cell ≠ r.cell) ∧
    r = eventOf v ds r.cell r.updated ∧ (v.port.queue ≠ [] ∨ isComposed v .reportHead = false → r.updated = false)
  ascending : added.Pairwise (fun x y => x.cell < y.cell)
  room : added ≠ [] → t.port.queue.length ≤ 32
  marked : ∀ c, c < Config.cellCount → named ds c = true → (∀ r ∈ t.port.queue, r.cell ≠ c) →
    32 ≤ t.port.queue.length ∧ (∀ r ∈ added, r.cell < c) ∧ tget t.port.marks c false = true
  unmarked : ∀ c, c < Config.cellCount → named ds c = false ∨ (∃ r ∈ t.port.queue, r.cell = c) →
    tget t.port.marks c false = tget v.port.marks c false
  head : t.seam.items.reportHead = (v.seam.items.reportHead || decide (v.port.queue = [] ∧ added ≠ []))

theorem named_iff (ds : List Nat) (c : Nat) : named ds c = true ↔ ∃ d ∈ ds, cellOfDie d = c := by simp [named]

theorem named_append (ds : List Nat) (d c : Nat) : named (ds ++ [d]) c = (named ds c || decide (cellOfDie d = c)) := by
  simp [named, List.any_append]

theorem cellOfDie_mono {d e : Nat} (h : d ≤ e) : cellOfDie d ≤ cellOfDie e := Nat.div_le_div_right h

/-- The event of the die noticed last is its own. -/
theorem eventOf_append_self (v : State) {ds : List Nat} {d : Nat} (hlast : ∀ e ∈ ds, e < d) :
    eventOf v (ds ++ [d]) (cellOfDie d) = noticeReport v d := by
  unfold eventOf
  obtain hp | hs := die_cases d
  · have hnot : spareDie (cellOfDie d) ∉ ds ++ [d] := by
      rintro hmem
      obtain hmem | hmem := List.mem_append.mp hmem
      · have hlt := hlast _ hmem
        simp only [spareDie, cellOfDie] at hlt
        omega
      · exact primaryDie_ne_spareDie _ _ (hp.symm.trans (List.mem_singleton.mp hmem).symm)
    rw [if_neg hnot, ← hp]
  · rw [if_pos (List.mem_append_right _ (List.mem_singleton.mpr hs.symm)), ← hs]

theorem eventOf_append_ne (v : State) (ds : List Nat) {d c : Nat} (h : cellOfDie d ≠ c) :
    eventOf v (ds ++ [d]) c = eventOf v ds c := by
  have hiff : spareDie c ∈ ds ++ [d] ↔ spareDie c ∈ ds := by
    refine ⟨fun hmem => (List.mem_append.mp hmem).resolve_right fun hd => h ?_, List.mem_append_left _⟩
    rw [← List.mem_singleton.mp hd, cellOfDie_spareDie]
  simp only [eventOf, hiff]

@[simp] theorem noticeReport_cell (v : State) (d : Nat) (b : Bool) : (noticeReport v d b).cell = cellOfDie d := rfl

@[simp] theorem eventOf_cell (v : State) (ds : List Nat) (c : Nat) (b : Bool) : (eventOf v ds c b).cell = c := by
  unfold eventOf
  split <;> simp

@[simp] theorem eventOf_updated (v : State) (ds : List Nat) (c : Nat) (b : Bool) : (eventOf v ds c b).updated = b := rfl

@[simp] theorem replaced_cell (v : State) (ds : List Nat) (r : Report) : (replaced v ds r).cell = r.cell := by
  unfold replaced
  split <;> simp

/-- Posting again does not change the updated mark a first event has given an entry of `v`. -/
theorem replaced_updated_late (v : State) (ds : List Nat) (r : Report) :
    ((replaced v ds r).updated || lateAt v r.cell) = (r.updated || lateAt v r.cell) := by
  unfold replaced
  split
  · rw [eventOf_updated, Bool.or_assoc, Bool.or_self]
  · rfl

theorem replaced_append_self (v : State) {ds : List Nat} {d : Nat} (hlast : ∀ e ∈ ds, e < d) {r : Report}
    (h : r.cell = cellOfDie d) : replaced v (ds ++ [d]) r = noticeReport v d (r.updated || lateAt v r.cell) := by
  have hnamed : named (ds ++ [d]) r.cell = true := by rw [named_append, h]; simp
  rw [replaced, if_pos hnamed, h, eventOf_append_self v hlast]

theorem replaced_append_ne (v : State) (ds : List Nat) {d : Nat} {r : Report} (h : r.cell ≠ cellOfDie d) :
    replaced v (ds ++ [d]) r = replaced v ds r := by
  have hnamed : named (ds ++ [d]) r.cell = named ds r.cell := by
    rw [named_append, decide_eq_false fun hc => h hc.symm, Bool.or_false]
  unfold replaced
  rw [hnamed, eventOf_append_ne v ds fun hc => h hc.symm]

/-- The cells that the queue has an entry of. -/
theorem mem_queue_cells {v t : State} {ds : List Nat} {added : List Report} (h : NoticesPosted v ds added t) (c : Nat) :
    (∃ r ∈ t.port.queue, r.cell = c) ↔ (∃ r ∈ v.port.queue, r.cell = c) ∨ ∃ r ∈ added, r.cell = c := by
  rw [h.queue]
  simp [List.mem_append, or_and_right, exists_or]

/-- While the queue of `v` holds entries, its head stays that of the same cell. -/
theorem headIs_posted {v t : State} {ds : List Nat} {added : List Report} (h : NoticesPosted v ds added t)
    (hcomposed : isComposed t .reportHead = isComposed v .reportHead) (hne : v.port.queue ≠ []) (c : Nat) :
    (headIs t c && isComposed t .reportHead) = lateAt v c := by
  obtain ⟨x, xs, hq⟩ := List.exists_cons_of_ne_nil hne
  have hqueue : t.port.queue = replaced v ds x :: (xs.map (replaced v ds) ++ added) := by rw [h.queue, hq]; rfl
  have hhead : headIs t c = decide (x.cell = c) := by
    unfold headIs
    rw [hqueue]
    show ((replaced v ds x).cell == c) = _
    rw [replaced_cell]
    rfl
  rw [hhead, hcomposed, lateAt, hq]
  simp

/-! ## One more notice -/

section Step

variable {v t : State} {ds : List Nat} {d : Nat} {added : List Report}

theorem NoticesPosted.start (v : State) : NoticesPosted v [] [] v where
  queue := by simp [show replaced v [] = id from rfl]
  fresh := fun _ hr => absurd hr List.not_mem_nil
  ascending := List.Pairwise.nil
  room := fun h => absurd rfl h
  marked := fun _ _ h => absurd h Bool.false_ne_true
  unmarked := fun _ _ _ => rfl
  head := by simp

/-- A notice of a cell that the queue holds. -/
theorem NoticesPosted.of_queued (h : NoticesPosted v ds added t) (hd : d < Config.dieCount) (hlast : ∀ e ∈ ds, e < d)
    (hreport : noticeReport t d = noticeReport v d) (hcomposed : isComposed t .reportHead = isComposed v .reportHead)
    (hqueued : queued t (cellOfDie d) = true) :
    NoticesPosted v (ds ++ [d])
      (added.map
        (fun r =>
          if r.cell = cellOfDie d then noticeReport v d (r.updated || (headIs t (cellOfDie d) && isComposed t .reportHead))
          else r))
      (takeNotice d t) := by
  obtain ⟨hqueue, hmarks, hhead⟩ := takeNotice_of_queued hd hqueued
  rw [hreport] at hqueue
  generalize hg : (fun r : Report =>
    if r.cell = cellOfDie d then noticeReport v d (r.updated || (headIs t (cellOfDie d) && isComposed t .reportHead)) else r) = g
    at *
  have hat : ∀ r : Report, r.cell = cellOfDie d →
      g r = noticeReport v d (r.updated || (headIs t (cellOfDie d) && isComposed t .reportHead)) := fun r hr => by
    rw [← hg]; exact if_pos hr
  have helse : ∀ r : Report, r.cell ≠ cellOfDie d → g r = r := fun r hr => by rw [← hg]; exact if_neg hr
  have hcell : ∀ r : Report, (g r).cell = r.cell := fun r => by
    by_cases hr : r.cell = cellOfDie d
    · rw [hat r hr, hr]; rfl
    · rw [helse r hr]
  have hcells : ∀ c, (∃ r ∈ (takeNotice d t).port.queue, r.cell = c) ↔ ∃ r ∈ t.port.queue, r.cell = c := fun c => by
    rw [hqueue]; simp [hcell]
  have hheld : ∃ r ∈ t.port.queue, r.cell = cellOfDie d := (queued_iff _ _).mp hqueued
  have hnamed : ∀ c, (cellOfDie d ≠ c) → named (ds ++ [d]) c = named ds c := fun c hc => by
    rw [named_append, decide_eq_false hc, Bool.or_false]
  refine ⟨?_, ?_, ?_, ?_, ?_, ?_, ?_⟩
  · rw [hqueue, h.queue, List.map_append, List.map_map]
    refine congrArg (· ++ _) (List.map_congr_left fun r hr => ?_)
    show g (replaced v ds r) = replaced v (ds ++ [d]) r
    by_cases hc : r.cell = cellOfDie d
    · rw [hat _ ((replaced_cell v ds r).trans hc), headIs_posted h hcomposed (List.ne_nil_of_mem hr), ← hc,
        replaced_updated_late, replaced_append_self v hlast hc]
    · rw [helse _ fun hc' => hc ((replaced_cell v ds r).symm.trans hc'), replaced_append_ne v ds hc]
  · intro r hr
    obtain ⟨r, hmem, rfl⟩ := List.mem_map.mp hr
    obtain ⟨hlt, hname, hnew, hevent, hupdated⟩ := h.fresh r hmem
    rw [hcell]
    refine ⟨hlt, by rw [named_append, hname, Bool.true_or], hnew, ?_⟩
    by_cases hc : r.cell = cellOfDie d
    · rw [hat r hc, hc, eventOf_append_self v hlast]
      refine ⟨rfl, fun hquiet => ?_⟩
      have hfirst := hupdated hquiet
      show (r.updated || (headIs t (cellOfDie d) && isComposed t .reportHead)) = false
      rw [hfirst, Bool.false_or]
      obtain hne | hno := hquiet
      · rw [headIs_posted h hcomposed hne]
        obtain ⟨x, xs, hq⟩ := List.exists_cons_of_ne_nil hne
        have hx : x.cell ≠ cellOfDie d := hc ▸ hnew x (by simp [hq])
        simp [lateAt, hq, hx]
      · rw [hcomposed, hno, Bool.and_false]
    · rw [helse r hc, eventOf_append_ne v ds fun hc' => hc hc'.symm]
      exact ⟨hevent, hupdated⟩
  · exact List.pairwise_map.mpr (h.ascending.imp fun hxy => by rwa [hcell, hcell])
  · intro hne
    rw [hqueue, List.length_map]
    exact h.room fun hnil => hne (by rw [hnil]; rfl)
  · intro c hc hname hout
    have hout' : ∀ r ∈ t.port.queue, r.cell ≠ c := fun r hr hrc => by
      obtain ⟨r', hr', hrc'⟩ := (hcells c).mpr ⟨r, hr, hrc⟩
      exact hout r' hr' hrc'
    have hother : cellOfDie d ≠ c := fun hdc => by
      obtain ⟨r, hr, hrc⟩ := hheld
      exact hout' r hr (hrc.trans hdc)
    obtain ⟨hfull, hbelow, hmark⟩ := h.marked c hc (by rwa [hnamed c hother] at hname) hout'
    rw [hqueue, List.length_map, hmarks]
    refine ⟨hfull, fun r hr => ?_, hmark⟩
    obtain ⟨r, hmem, rfl⟩ := List.mem_map.mp hr
    rw [hcell]
    exact hbelow r hmem
  · intro c hc hwhy
    rw [hmarks]
    refine h.unmarked c hc ?_
    rw [hcells, named_append, Bool.or_eq_false_iff] at hwhy
    exact hwhy.imp_left And.left
  · rw [hhead, h.head]
    simp

/-- A notice of a cell that the queue does not hold names a cell behind all that were added. -/
theorem added_below (h : NoticesPosted v ds added t) (hlast : ∀ e ∈ ds, e < d) (hnot : queued t (cellOfDie d) = false) :
    ∀ r ∈ added, r.cell < cellOfDie d := by
  intro r hr
  obtain ⟨-, hname, -⟩ := h.fresh r hr
  obtain ⟨e, he, hcell⟩ := (named_iff _ _).mp hname
  refine lt_of_le_of_ne (hcell ▸ cellOfDie_mono (hlast e he).le) fun heq => ?_
  have hin : queued t (cellOfDie d) = true := (queued_iff _ _).mpr ((mem_queue_cells h _).mpr (.inr ⟨r, hr, heq⟩))
  exact Bool.false_ne_true (hnot.symm.trans hin)

/-- What the notices so far have made of the entries of `v` and of `added` is not touched by one of another cell. -/
theorem NoticesPosted.keeps (h : NoticesPosted v ds added t) (hnot : queued t (cellOfDie d) = false) :
    v.port.queue.map (replaced v (ds ++ [d])) = v.port.queue.map (replaced v ds) ∧
      ∀ r ∈ added, r.cell < Config.cellCount ∧ named (ds ++ [d]) r.cell = true ∧ (∀ x ∈ v.port.queue, x.cell ≠ r.cell) ∧
        r = eventOf v (ds ++ [d]) r.cell r.updated ∧
        (v.port.queue ≠ [] ∨ isComposed v .reportHead = false → r.updated = false) := by
  have hout : ∀ r, r ∈ v.port.queue ∨ r ∈ added → r.cell ≠ cellOfDie d := fun r hr hc => by
    have hin : queued t (cellOfDie d) = true :=
      (queued_iff _ _).mpr ((mem_queue_cells h _).mpr (hr.imp (fun hr => ⟨r, hr, hc⟩) fun hr => ⟨r, hr, hc⟩))
    exact Bool.false_ne_true (hnot.symm.trans hin)
  refine ⟨List.map_congr_left fun r hr => replaced_append_ne v ds (hout r (.inl hr)), fun r hr => ?_⟩
  obtain ⟨hlt, hname, hnew, hevent, hupdated⟩ := h.fresh r hr
  refine ⟨hlt, by rw [named_append, hname, Bool.true_or], hnew, ?_, hupdated⟩
  rwa [eventOf_append_ne v ds fun hc => hout r (.inr hr) hc.symm]

/-- A notice of a cell that the queue does not hold and has room for. -/
theorem NoticesPosted.of_room (h : NoticesPosted v ds added t) (hd : d < Config.dieCount) (hlast : ∀ e ∈ ds, e < d)
    (hreport : noticeReport t d = noticeReport v d) (hnot : queued t (cellOfDie d) = false)
    (hroom : t.port.queue.length < 32) :
    NoticesPosted v (ds ++ [d]) (added ++ [noticeReport v d false]) (takeNotice d t) := by
  obtain ⟨hqueue, hmarks, hhead⟩ := takeNotice_of_room hd hnot hroom
  obtain ⟨hreplaced, hfresh⟩ := h.keeps hnot
  have hbelow := added_below h hlast hnot
  rw [hreport] at hqueue
  have hself : named (ds ++ [d]) (cellOfDie d) = true := by rw [named_append]; simp
  refine ⟨?_, ?_, ?_, ?_, ?_, ?_, ?_⟩
  · rw [hqueue, h.queue, hreplaced, List.append_assoc]
  · intro r hr
    obtain hr | hr := List.mem_append.mp hr
    · exact hfresh r hr
    · rw [List.mem_singleton.mp hr]
      refine ⟨cellOfDie_lt hd, hself, fun x hx hc => ?_, ?_, fun _ => rfl⟩
      · have hin : queued t (cellOfDie d) = true := (queued_iff _ _).mpr ((mem_queue_cells h _).mpr (.inl ⟨x, hx, hc⟩))
        exact Bool.false_ne_true (hnot.symm.trans hin)
      · rw [noticeReport_cell, eventOf_append_self v hlast]
        rfl
  · refine List.pairwise_append.mpr ⟨h.ascending, List.pairwise_singleton _ _, fun x hx y hy => ?_⟩
    rw [List.mem_singleton.mp hy]
    exact hbelow x hx
  · intro _
    rw [hqueue, List.length_append]
    exact hroom
  · intro c hc hname hout
    rw [hqueue] at hout
    have hother : cellOfDie d ≠ c := hout (noticeReport v d false) (by simp)
    have hname' : named ds c = true := by
      rwa [named_append, decide_eq_false hother, Bool.or_false] at hname
    obtain ⟨hfull, -⟩ := h.marked c hc hname' fun r hr => hout r (List.mem_append_left _ hr)
    exact absurd hroom (Nat.not_lt.mpr hfull)
  · intro c hc hwhy
    rw [hmarks]
    by_cases hout : ∃ r ∈ t.port.queue, r.cell = c
    · exact h.unmarked c hc (.inr hout)
    · cases hname : named ds c with
      | false => exact h.unmarked c hc (.inl hname)
      | true =>
        obtain ⟨hfull, -⟩ := h.marked c hc hname fun r hr hrc => hout ⟨r, hr, hrc⟩
        exact absurd hroom (Nat.not_lt.mpr hfull)
  · have hnil : t.port.queue = [] ↔ v.port.queue = [] ∧ added = [] := by rw [h.queue]; simp
    rw [hhead, h.head, Bool.or_assoc]
    congr 1
    by_cases hv : v.port.queue = [] <;> by_cases ha : added = [] <;> simp [hnil, hv, ha]

/-- A notice of a cell that a full queue does not hold. -/
theorem NoticesPosted.of_full (h : NoticesPosted v ds added t) (hlast : ∀ e ∈ ds, e < d)
    (hnot : queued t (cellOfDie d) = false) (hfull : 32 ≤ t.port.queue.length) :
    NoticesPosted v (ds ++ [d]) added (takeNotice d t) := by
  obtain ⟨hqueue, hmarks, hhead⟩ := takeNotice_of_full hnot hfull
  obtain ⟨hreplaced, hfresh⟩ := h.keeps hnot
  have hbelow := added_below h hlast hnot
  refine ⟨by rw [hqueue, h.queue, hreplaced], hfresh, h.ascending, fun hne => by rw [hqueue]; exact h.room hne, ?_, ?_,
    by rw [hhead, h.head]⟩
  · intro c hc hname hout
    rw [hqueue] at hout ⊢
    rw [hmarks, tget_tset]
    by_cases hdc : cellOfDie d = c
    · exact ⟨hfull, fun r hr => hdc ▸ hbelow r hr, if_pos ⟨hdc, hdc ▸ hc⟩⟩
    · rw [if_neg fun hcc => hdc hcc.1]
      exact h.marked c hc (by rwa [named_append, decide_eq_false hdc, Bool.or_false] at hname) hout
  · intro c hc hwhy
    rw [hqueue, named_append, Bool.or_eq_false_iff] at hwhy
    have hdc : cellOfDie d ≠ c := by
      rintro rfl
      obtain ⟨-, hno⟩ | hin := hwhy
      · exact absurd rfl (of_decide_eq_false hno)
      · exact Bool.false_ne_true (hnot.symm.trans ((queued_iff _ _).mpr hin))
    rw [hmarks, tget_tset_ne _ _ _ _ _ hdc]
    exact h.unmarked c hc (hwhy.imp_left And.left)

end Step

/-! ## All the notices of an event -/

/-- A cell that the notices so far have named stands as the transitions leave it; another stands as it was. -/
theorem transitioned_foldNotices (ds : List Nat) (v : State) (c : Nat) :
    transitioned (ds.foldl (fun u d => takeNotice d u) v) c = transitioned v c := by
  have hdies : (ds.foldl (fun u d => takeNotice d u) v).health.dies = v.health.dies := by simp
  have hcell := cellAt_foldNotices ds v c
  split at hcell
  · exact transitioned_idem c hcell hdies
  · exact transitioned_congr c hcell hdies

theorem foldNotices_posted (v : State) (ds : List Nat) (hsorted : ds.Pairwise (· < ·)) (hlt : ∀ d ∈ ds, d < Config.dieCount) :
    ∃ added, NoticesPosted v ds added (ds.foldl (fun u d => takeNotice d u) v) := by
  induction ds using List.reverseRecOn with
  | nil => exact ⟨[], .start v⟩
  | append_singleton ds d ih =>
    obtain ⟨hbefore, -, hlast⟩ := List.pairwise_append.mp hsorted
    have hlast : ∀ e ∈ ds, e < d := fun e he => hlast e he d (List.mem_singleton_self d)
    have hd : d < Config.dieCount := hlt d (by simp)
    obtain ⟨added, hposted⟩ := ih hbefore fun e he => hlt e (List.mem_append_left _ he)
    have hreport := noticeReport_congr d (transitioned_foldNotices ds v (cellOfDie d)) (by simp)
    have hcomposed : isComposed (ds.foldl (fun u d => takeNotice d u) v) .reportHead = isComposed v .reportHead :=
      isComposed_congr _ _ _ (by simp) (by simp)
    rw [List.foldl_append]
    cases hqueued : queued (ds.foldl (fun u d => takeNotice d u) v) (cellOfDie d) with
    | true => exact ⟨_, hposted.of_queued hd hlast hreport hcomposed hqueued⟩
    | false =>
      obtain hroom | hfull := Nat.lt_or_ge (ds.foldl (fun u d => takeNotice d u) v).port.queue.length 32
      · exact ⟨_, hposted.of_room hd hlast hreport hqueued hroom⟩
      · exact ⟨_, hposted.of_full hlast hqueued hfull⟩

/-- The notices mark exactly the cells they name (R58, R144). -/
theorem foldNotices_dirty (ds : List Nat) (v : State) (c : Nat) :
    tget (ds.foldl (fun u d => takeNotice d u) v).store.dirty c false =
      (decide (named ds c = true ∧ c < Config.cellCount) || tget v.store.dirty c false) := by
  induction ds generalizing v with
  | nil => simp [named]
  | cons d ds ih =>
    have hone : (takeNotice d v).store.dirty = tset v.store.dirty (cellOfDie d) true := by
      simp [takeNotice, changeEffects, markDirty]
    have hname : named (d :: ds) c = (decide (cellOfDie d = c) || named ds c) := rfl
    rw [List.foldl_cons, ih, hone, tget_tset, hname]
    by_cases hc : c < Config.cellCount <;> by_cases hd : cellOfDie d = c <;> simp [hc, hd]

end Sys2Proof.Machine

end

section
/-! PROOF. A sense pass that is not void (R3, R5, R7, R35, R36, R39, R41, R42, R58 to R60, R68, R69, R163). -/

namespace Sys2Proof.Machine

/-! ## What a pass sees (R7, R35, R41) -/

theorem faultyEntries_eq (p : Nat) (chan : Vector Nat Config.cellCount) (m : Vector Measure Config.channelCount) :
    faultyEntries p chan m =
      (List.range Config.cellCount).countP
        (fun c => decide (phaseOf c = p) && decide (0 < tget chan c 0) && decide (tget m (channelOf c) .ok ≠ .ok)) := by
  have hzip : chan.toList.zipIdx = (List.range Config.cellCount).map (fun c => (tget chan c 0, c)) := by
    refine List.ext_getElem (by simp) fun i hi _ => ?_
    have hlt : i < Config.cellCount := by simpa using hi
    simp [tget_eq_getElem _ _ _ hlt]
  rw [faultyEntries, hzip, List.countP_map]
  refine List.countP_congr fun c _ => ?_
  simp [Nat.pos_iff_ne_zero]

/-- A pass observes a die: its half is taken, and its entry is of the phase and driven at 256 or more (R35, R41). -/
def Sees (s : State) (p : Nat) (mP mS : Vector Measure Config.channelCount) (d : Nat) : Prop :=
  phaseOf (cellOfDie d) = p ∧
    if d % 2 = 1 then halfTaken p s.scan.chanS mS = true ∧ 256 ≤ tget s.scan.chanS (cellOfDie d) 0
    else halfTaken p s.scan.chanP mP = true ∧ 256 ≤ tget s.scan.chanP (cellOfDie d) 0

/-- The result of a die's entry. -/
def resultOf (mP mS : Vector Measure Config.channelCount) (d : Nat) : Measure :=
  if d % 2 = 1 then tget mS (channelOf (cellOfDie d)) .ok else tget mP (channelOf (cellOfDie d)) .ok

theorem entryObservation_of (p c : Nat) (chan : Vector Nat Config.cellCount) (m : Vector Measure Config.channelCount)
    (h : phaseOf c = p ∧ 256 ≤ tget chan c 0) : entryObservation p c chan m = some (tget m (channelOf c) .ok) := if_pos h

theorem entryObservation_none (p c : Nat) (chan : Vector Nat Config.cellCount) (m : Vector Measure Config.channelCount)
    (h : ¬(phaseOf c = p ∧ 256 ≤ tget chan c 0)) : entryObservation p c chan m = none := if_neg h

theorem passObservation_sees {s : State} {p : Nat} {mP mS : Vector Measure Config.channelCount} {d : Nat}
    (h : Sees s p mP mS d) : passObservation s p mP mS d = some (resultOf mP mS d) := by
  obtain ⟨hphase, hhalf⟩ := h
  unfold passObservation resultOf
  by_cases hs : d % 2 = 1
  · rw [if_pos hs] at hhalf ⊢
    rw [if_pos ((isSpareDie_iff d).mpr hs), if_pos hhalf.1, entryObservation_of _ _ _ _ ⟨hphase, hhalf.2⟩]
  · rw [if_neg hs] at hhalf ⊢
    rw [if_neg (fun hspare => hs ((isSpareDie_iff d).mp hspare)), if_pos hhalf.1, entryObservation_of _ _ _ _ ⟨hphase, hhalf.2⟩]

theorem passObservation_blind {s : State} {p : Nat} {mP mS : Vector Measure Config.channelCount} {d : Nat}
    (h : ¬Sees s p mP mS d) : passObservation s p mP mS d = none := by
  unfold passObservation
  unfold Sees at h
  by_cases hs : d % 2 = 1
  · rw [if_pos hs] at h
    rw [if_pos ((isSpareDie_iff d).mpr hs)]
    split
    · next htaken => exact entryObservation_none _ _ _ _ fun he => h ⟨he.1, htaken, he.2⟩
    · rfl
  · rw [if_neg hs] at h
    rw [if_neg fun hspare => hs ((isSpareDie_iff d).mp hspare)]
    split
    · next htaken => exact entryObservation_none _ _ _ _ fun he => h ⟨he.1, htaken, he.2⟩
    · rfl

/-! ## The Health Monitor's part of a pass -/

/-- The die records and period findings behind a pass, before its notices are handed over. -/
def passed (p : Nat) (mP mS : Vector Measure Config.channelCount) (s : State) : State :=
  s.setHealth
    { s.health with
      dies := tmapIdx (fun d r => afterPass (passObservation s p mP mS d) r) s.health.dies
      findings := findingsAfter (halfTaken p s.scan.chanP mP) (halfTaken p s.scan.chanS mS) s.health.findings }

/-- The dies whose notices a pass hands over. -/
def passLosses (p : Nat) (mP mS : Vector Measure Config.channelCount) (s : State) : List Nat :=
  newFailures s.health.dies (passed p mP mS s).health.dies

theorem takePass_eq (p : Nat) (mP mS : Vector Measure Config.channelCount) (s : State) :
    takePass p mP mS s = takeNotices (passLosses p mP mS s) (passed p mP mS s) := rfl

theorem takePass_health (p : Nat) (mP mS : Vector Measure Config.channelCount) (s : State) :
    (takePass p mP mS s).health = (passed p mP mS s).health := by
  rw [takePass_eq]
  simp

theorem dieAt_passed (p : Nat) (mP mS : Vector Measure Config.channelCount) (s : State) {d : Nat} (hd : d < Config.dieCount) :
    dieAt (passed p mP mS s) d = afterPass (passObservation s p mP mS d) (dieAt s d) :=
  tget_tmapIdx _ _ _ DieRec.fresh _ hd

theorem findingsAfter_eq (p q : Bool) (f : PeriodFindings) :
    findingsAfter p q f = if (p && q) = false then .anomalous else if f = .anomalous then .anomalous else .clean := by
  cases p <;> cases q <;> cases f <;> rfl

/-- Beyond the dies there is nothing to fail. -/
theorem dieFailed_outside (s : State) {d : Nat} (hd : Config.dieCount ≤ d) : dieFailed s d = false := by
  rw [dieFailed, dieAt, tget_outside _ _ _ hd]
  rfl

theorem mem_passLosses (p : Nat) (mP mS : Vector Measure Config.channelCount) (s : State) (d : Nat) :
    d ∈ passLosses p mP mS s ↔ dieFailed s d ≠ dieFailed (passed p mP mS s) d := by
  rw [passLosses, mem_newFailures]
  obtain hd | hd := Nat.lt_or_ge d Config.dieCount
  · have hkeeps : dieFailed s d = true → dieFailed (passed p mP mS s) d = true := fun hfailed => by
      rw [dieFailed, dieAt_passed p mP mS s hd]
      unfold afterPass
      split
      · exact hfailed
      · rw [(observe_failed _ _ _ hfailed).1]; exact hfailed
    show d < Config.dieCount ∧ dieFailed s d = false ∧ dieFailed (passed p mP mS s) d = true ↔ _
    cases hs : dieFailed s d with
    | false => simp [hd]
    | true => simp [hkeeps hs]
  · simp [dieFailed_outside _ hd, Nat.not_lt.mpr hd]

theorem passLosses_lt {p : Nat} {mP mS : Vector Measure Config.channelCount} {s : State} {d : Nat}
    (h : d ∈ passLosses p mP mS s) : d < Config.dieCount := ((mem_newFailures _ _ _).mp h).1

/-- A pass names the cells that lose a die. -/
theorem named_passLosses (p : Nat) (mP mS : Vector Measure Config.channelCount) (s : State) (c : Nat) :
    named (passLosses p mP mS s) c = losesDie s (passed p mP mS s) c := by
  rw [Bool.eq_iff_iff, named_iff]
  simp only [mem_passLosses, losesDie, Bool.or_eq_true, bne_iff_ne]
  constructor
  · rintro ⟨d, hd, rfl⟩
    obtain hp | hs := die_cases d
    · exact .inl (hp ▸ hd)
    · exact .inr (hs ▸ hd)
  · rintro (hp | hs)
    · exact ⟨_, hp, cellOfDie_primaryDie c⟩
    · exact ⟨_, hs, cellOfDie_spareDie c⟩

/-! ## The Map Controller's part (R58, R59, R70) -/

theorem cellAt_takePass (p : Nat) (mP mS : Vector Measure Config.channelCount) (s : State) {c : Nat} (hc : c < Config.cellCount) :
    cellAt (takePass p mP mS s) c =
      if losesDie s (passed p mP mS s) c then transitioned (passed p mP mS s) c else cellAt s c := by
  rw [takePass_eq, cellAt_takeNotices, ← named_passLosses]
  cases hname : named (passLosses p mP mS s) c with
  | true => rw [if_pos ⟨(named_iff _ _).mp hname, hc⟩, if_pos rfl]
  | false =>
    have hnot : ¬∃ d ∈ passLosses p mP mS s, cellOfDie d = c := fun h => by
      rw [(named_iff _ _).mpr h] at hname
      exact Bool.false_ne_true hname.symm
    rw [if_neg fun h => hnot h.1, if_neg Bool.false_ne_true]
    rfl

theorem dirty_takePass (p : Nat) (mP mS : Vector Measure Config.channelCount) (s : State) {c : Nat} (hc : c < Config.cellCount) :
    tget (takePass p mP mS s).store.dirty c false = (losesDie s (passed p mP mS s) c || tget s.store.dirty c false) := by
  have htrigger : (takePass p mP mS s).store =
      ((passLosses p mP mS s).foldl (fun u d => takeNotice d u) (passed p mP mS s)).store := by
    rw [takePass_eq, takeNotices]
    simp
  rw [htrigger, foldNotices_dirty, named_passLosses]
  simp [hc, passed]

theorem takeNotices_store (ds : List Nat) (v : State) :
    (takeNotices ds v).store = { v.store with dirty := (takeNotices ds v).store.dirty } := by
  have hfold : ∀ v : State, (ds.foldl (fun u d => takeNotice d u) v).store =
      { v.store with dirty := (ds.foldl (fun u d => takeNotice d u) v).store.dirty } := by
    induction ds with
    | nil => exact fun _ => rfl
    | cons d ds ih =>
      intro v
      have hone : (takeNotice d v).store = { v.store with dirty := (takeNotice d v).store.dirty } := by
        have hposted : (takeNotice d v).store = (noticed d v).store := by rw [takeNotice_eq]; simp
        rw [hposted]
        rfl
      rw [List.foldl_cons, ih, hone]
  have hstore : (takeNotices ds v).store = (ds.foldl (fun u d => takeNotice d u) v).store := by
    rw [takeNotices]; simp
  rw [hstore]
  exact hfold v

/-- No die became FAILED: the pass is the Health Monitor's alone. -/
theorem takePass_of_kept (p : Nat) (mP mS : Vector Measure Config.channelCount) (s : State)
    (h : ∀ d, d < Config.dieCount → dieFailed (passed p mP mS s) d = dieFailed s d) : takePass p mP mS s = passed p mP mS s := by
  have hnil : passLosses p mP mS s = [] := by
    refine List.eq_nil_iff_forall_not_mem.mpr fun d hd => ?_
    exact (mem_passLosses p mP mS s d).mp hd (h d (passLosses_lt hd)).symm
  rw [takePass_eq, hnil, takeNotices_nil]

/-- One trigger for all the cells that enter HOLE (R70, R96). -/
theorem takePass_triggers (p : Nat) (mP mS : Vector Measure Config.channelCount) (s : State) :
    ((∀ c, c < Config.cellCount → isHole (cellAt (takePass p mP mS s) c) = isHole (cellAt s c)) →
        (takePass p mP mS s).conceal = s.conceal) ∧
      ((∃ c, c < Config.cellCount ∧ isHole (cellAt (takePass p mP mS s) c) ≠ isHole (cellAt s c)) →
        Triggered s.conceal (takePass p mP mS s)) := by
  have hcells : ∀ c, cellAt (takePass p mP mS s) c =
      cellAt ((passLosses p mP mS s).foldl (fun u d => takeNotice d u) (passed p mP mS s)) c := fun c => by
    rw [takePass_eq, takeNotices, cellAt_triggerIf]
  have hconceal : ((passLosses p mP mS s).foldl (fun u d => takeNotice d u) (passed p mP mS s)).conceal = s.conceal := by
    simp [passed]
  obtain ⟨hkept, htriggered⟩ := triggerIf_conceal
    ((passLosses p mP mS s).any fun d =>
      isHole (cellAt (passed p mP mS s) (cellOfDie d)) !=
        isHole (cellAt ((passLosses p mP mS s).foldl (fun u d => takeNotice d u) (passed p mP mS s)) (cellOfDie d)))
    ((passLosses p mP mS s).foldl (fun u d => takeNotice d u) (passed p mP mS s))
  rw [hconceal] at hkept htriggered
  refine ⟨fun hsame => hkept ?_, fun hdiffers => htriggered ?_⟩
  · refine List.any_eq_false.mpr fun d hd => ?_
    have hcell := hsame (cellOfDie d) (cellOfDie_lt (passLosses_lt hd))
    rw [hcells] at hcell
    rw [hcell]
    show ¬(isHole (cellAt s (cellOfDie d)) != isHole (cellAt s (cellOfDie d))) = true
    simp
  · obtain ⟨c, hc, hne⟩ := hdiffers
    have hloses : losesDie s (passed p mP mS s) c = true := by
      by_contra hnot
      rw [cellAt_takePass p mP mS s hc, if_neg hnot] at hne
      exact hne rfl
    obtain ⟨d, hd, rfl⟩ := (named_iff _ _).mp ((named_passLosses p mP mS s c).trans hloses)
    rw [hcells] at hne
    exact List.any_eq_true.mpr ⟨d, hd, bne_iff_ne.mpr hne.symm⟩

/-! ## The reports of a pass (R60, R69, R163) -/

theorem PassPosted.congr {s u v : State} (h : PassPosted s u) (hport : v.port = u.port) (hseam : v.seam = u.seam)
    (hcells : v.map.cells = u.map.cells) (hdies : v.health.dies = u.health.dies) : PassPosted s v := by
  have hcell : cellAt v = cellAt u := funext fun c => cellAt_congr u v c hcells
  have hdie : dieAt v = dieAt u := funext fun d => dieAt_congr u v d hdies
  have hfailed : dieFailed v = dieFailed u := funext fun d => dieFailed_congr d hdies
  have hloses : losesDie s v = losesDie s u := funext fun c => by rw [losesDie, losesDie, hfailed]
  have hcause : passCause s v = passCause s u := funext fun c => by unfold passCause; rw [hfailed, hdie, hcell]
  unfold PassPosted at h ⊢
  rwa [hport, hseam, hcell, hdie, hloses, hcause]

/-- The event of a cell that loses a die in a pass: its content as it stands, with the cause of its spare's failure before its
primary's (R60, R69). -/
theorem eventOf_pass (p : Nat) (mP mS : Vector Measure Config.channelCount) (s : State) {u : State} {c : Nat}
    (hcell : cellAt u c = transitioned (passed p mP mS s) c) (hdies : u.health.dies = (passed p mP mS s).health.dies) (b : Bool) :
    eventOf (passed p mP mS s) (passLosses p mP mS s) c b =
      ⟨c, (cellAt u c).state, (dieAt u (primaryDie c)).health, (dieAt u (spareDie c)).health, passCause s u c, b⟩ := by
  have hcause : passCause s u c =
      failureCause (if spareDie c ∈ passLosses p mP mS s then spareDie c else primaryDie c)
        (dieAt u (if spareDie c ∈ passLosses p mP mS s then spareDie c else primaryDie c)).health (cellAt u c).state := by
    have hspare : (spareDie c) % 2 = 1 := (isSpareDie_iff _).mp (isSpareDie_spareDie c)
    have hprimary : ¬(primaryDie c) % 2 = 1 := fun h => by
      rw [← isSpareDie_iff, isSpareDie_primaryDie] at h
      exact Bool.false_ne_true h
    have hlost : dieFailed s (spareDie c) ≠ dieFailed u (spareDie c) ↔ spareDie c ∈ passLosses p mP mS s := by
      rw [mem_passLosses, dieFailed_congr _ hdies]
    rw [failureCause_eq]
    unfold passCause
    simp only [hlost]
    by_cases hl : spareDie c ∈ passLosses p mP mS s
    · simp only [hl, if_true, true_and, hspare]
    · simp only [hl, if_false, false_and, hprimary]
  unfold eventOf noticeReport
  rw [hcause, hcell, dieAt_congr _ u _ hdies, dieAt_congr _ u _ hdies, dieAt_congr _ u _ hdies]
  split <;> simp

theorem losesDie_lt {s u : State} {c : Nat} (h : losesDie s u c = true) : c < Config.cellCount := by
  by_contra hge
  have hp : Config.dieCount ≤ primaryDie c := by simp only [primaryDie, Config.dieCount, Config.cellCount] at *; omega
  have hs : Config.dieCount ≤ spareDie c := by simp only [spareDie, Config.dieCount, Config.cellCount] at *; omega
  simp [losesDie, dieFailed_outside _ hp, dieFailed_outside _ hs] at h

theorem takePass_posted (p : Nat) (mP mS : Vector Measure Config.channelCount) (s : State) :
    PassPosted s (takePass p mP mS s) := by
  obtain ⟨added, h⟩ := foldNotices_posted (passed p mP mS s) (passLosses p mP mS s) (tindexes_sorted _ _)
    fun d hd => passLosses_lt hd
  have hdies : (takePass p mP mS s).health.dies = (passed p mP mS s).health.dies := by rw [takePass_health]
  have hloses : ∀ c, losesDie s (takePass p mP mS s) c = named (passLosses p mP mS s) c := fun c => by
    rw [named_passLosses, losesDie, losesDie, dieFailed_congr _ hdies, dieFailed_congr _ hdies]
  have hport : (takePass p mP mS s).port =
      ((passLosses p mP mS s).foldl (fun u d => takeNotice d u) (passed p mP mS s)).port := by
    rw [takePass_eq, takeNotices]; simp
  have hseam : (takePass p mP mS s).seam =
      ((passLosses p mP mS s).foldl (fun u d => takeNotice d u) (passed p mP mS s)).seam := by
    rw [takePass_eq, takeNotices]; simp
  have hevent : ∀ c b, named (passLosses p mP mS s) c = true →
      eventOf (passed p mP mS s) (passLosses p mP mS s) c b =
        ⟨c, (cellAt (takePass p mP mS s) c).state, (dieAt (takePass p mP mS s) (primaryDie c)).health,
          (dieAt (takePass p mP mS s) (spareDie c)).health, passCause s (takePass p mP mS s) c, b⟩ := fun c b hname => by
    have hloses' : losesDie s (passed p mP mS s) c = true := by rw [← named_passLosses, hname]
    refine eventOf_pass p mP mS s ?_ hdies b
    rw [cellAt_takePass p mP mS s (losesDie_lt hloses'), if_pos hloses']
  unfold PassPosted
  dsimp only
  rw [hport, hseam]
  simp only [hloses]
  refine ⟨added, ?_, fun r hr => ?_, h.ascending, h.room, h.marked, h.unmarked, h.head⟩
  · rw [h.queue]
    refine congrArg (· ++ added) (List.map_congr_left fun r _ => ?_)
    unfold replaced
    split
    · next hname => rw [hevent _ _ hname]; rfl
    · rfl
  · obtain ⟨hlt, hname, hnew, heq, hupdated⟩ := h.fresh r hr
    exact ⟨hlt, hname, hnew, heq.trans (hevent _ _ hname), hupdated⟩

/-- A cell that loses a die has its event in the queue or its mark set (R163). -/
theorem PassPosted.queued_or_marked {s u : State} (h : PassPosted s u) {c : Nat} (hc : c < Config.cellCount)
    (hloses : losesDie s u c = true) : (∃ r ∈ u.port.queue, r.cell = c) ∨ tget u.port.marks c false = true := by
  obtain ⟨added, -, -, -, -, hmarked, -⟩ := h
  by_cases hin : ∃ r ∈ u.port.queue, r.cell = c
  · exact .inl hin
  · exact .inr (hmarked c hc hloses fun r hr hrc => hin ⟨r, hr, hrc⟩).2.2

end Sys2Proof.Machine

/-! ## The statement -/

section

open Sys2Proof Sys2Proof.Machine

/-- Settles O24: the pass is the Health Monitor's part, the notices in ascending order and one trigger, and then the cycle goes on. -/
theorem sensePassIsTaken : Obligations.SensePassIsTaken := by
  unfold Obligations.SensePassIsTaken
  intro s p lit mP mS h hblank hseen
  refine ⟨afterObserve p (takePass p.val mP mS s), exec_observeEnd_taken mP mS h hblank hseen, ?_⟩
  have hafter := afterObserve_eq p (takePass p.val mP mS s)
  have hmid : p ≠ 3 → afterObserve p (takePass p.val mP mS s) = toGap (.observe (p + 1)) (takePass p.val mP mS s) :=
    fun hp => afterObserve_of_ne hp _
  have hlast : p = 3 → afterObserve p (takePass p.val mP mS s) = reachProbeSlot (takePass p.val mP mS s) :=
    fun hp => if_pos hp
  have hbeam := afterObserve_scan p (takePass p.val mP mS s)
  generalize afterObserve p (takePass p.val mP mS s) = u at *
  have hscan : (takePass p.val mP mS s).scan = s.scan := by simp
  have htaken := takePass_health p.val mP mS s
  have hhealth : u.health =
      { (passed p.val mP mS s).health with plan := u.health.plan, cursor := u.health.cursor } := by
    rw [← htaken]
    exact congrArg State.health hafter
  have hdies : u.health.dies = (passed p.val mP mS s).health.dies := (congrArg HealthMon.dies hhealth).trans rfl
  have hfindings : u.health.findings = (passed p.val mP mS s).health.findings :=
    (congrArg HealthMon.findings hhealth).trans rfl
  have hmap : u.map = (takePass p.val mP mS s).map := (congrArg State.map hafter).trans rfl
  have hport : u.port = (takePass p.val mP mS s).port := (congrArg State.port hafter).trans rfl
  have hseam : u.seam = (takePass p.val mP mS s).seam := (congrArg State.seam hafter).trans rfl
  have hstore : u.store = (takePass p.val mP mS s).store := (congrArg State.store hafter).trans rfl
  have hconceal : u.conceal = (takePass p.val mP mS s).conceal := (congrArg State.conceal hafter).trans rfl
  have hfailed : ∀ d, dieFailed u d = dieFailed (passed p.val mP mS s) d := fun d => dieFailed_congr d hdies
  have hcell : ∀ c, cellAt u c = cellAt (takePass p.val mP mS s) c := fun c => cellAt_congr _ _ c (by rw [hmap])
  have hloses : ∀ c, losesDie s (passed p.val mP mS s) c = losesDie s u c := fun c => by
    rw [losesDie, losesDie, hfailed, hfailed]
  have hposted : PassPosted s u :=
    (takePass_posted p.val mP mS s).congr hport hseam (by rw [hmap]) (hdies.trans (by rw [htaken]))
  obtain ⟨hsame, htriggered⟩ := takePass_triggers p.val mP mS s
  obtain ⟨hportOnly, hseamOnly⟩ := takeNotices_reportsOnly (passLosses p.val mP mS s) (passed p.val mP mS s)
  refine ⟨?_, ?_, hposted, ?_, ?_, ?_, ?_, ?_, ?_, ?_, ?_, ?_, ?_, ?_, ?_, ?_, ?_, ?_, ?_⟩
  · intro phase channel faulty cleanP cleanS sees result
    have hfaulty : ∀ chan m, faulty chan m = faultyEntries p.val chan m := fun chan m => (faultyEntries_eq p.val chan m).symm
    have hcleanP : cleanP = halfTaken p.val s.scan.chanP mP := congrArg (fun n => decide (n < 64)) (hfaulty _ _)
    have hcleanS : cleanS = halfTaken p.val s.scan.chanS mS := congrArg (fun n => decide (n < 64)) (hfaulty _ _)
    have hsees : ∀ d, sees d ↔ Sees s p.val mP mS d := fun d => by
      show (_ ∧ if d % 2 = 1 then cleanS = true ∧ _ else cleanP = true ∧ _) ↔ _
      rw [hcleanP, hcleanS]
      rfl
    have hdie : ∀ d, d < Config.dieCount → dieAt u d = afterPass (passObservation s p.val mP mS d) (dieAt s d) := fun d hd => by
      rw [← dieAt_passed p.val mP mS s hd]
      exact dieAt_congr _ _ d hdies
    refine ⟨fun d hd hseen => ?_, fun d hd hblind => ?_, ?_⟩
    · rw [hdie d hd, passObservation_sees ((hsees d).mp hseen)]
      rfl
    · rw [hdie d hd, passObservation_blind fun h => hblind ((hsees d).mpr h)]
      rfl
    · rw [hfindings, hcleanP, hcleanS]
      exact findingsAfter_eq _ _ _
  · intro c hc
    have hat := cellAt_takePass p.val mP mS s hc
    have hdirty := dirty_takePass p.val mP mS s hc
    rw [hloses] at hat hdirty
    refine ⟨fun ⟨hp, hs⟩ => ?_, fun hlost => ?_⟩
    · have hkeeps : losesDie s u c = false := by simp [losesDie, hp, hs]
      rw [hkeeps] at hat hdirty
      exact ⟨(hcell c).trans hat, hstore ▸ hdirty⟩
    · have hlosesNow : losesDie s u c = true := by simpa [losesDie] using hlost
      rw [hlosesNow] at hat hdirty
      refine ⟨?_, hstore ▸ hdirty, hposted.queued_or_marked hc hlosesNow⟩
      rw [hcell, hat, hfailed, hfailed]
      rfl
  · intro hkept
    have htake := takePass_of_kept p.val mP mS s fun d hd => (hfailed d).symm.trans (hkept d hd)
    rw [hport, hseam, hstore, hmap, htake]
    exact ⟨rfl, rfl, rfl, rfl⟩
  · intro hp
    rw [hmid hp]
    refine ⟨?_, by simp, by simp⟩
    rw [toGap, setScan_scan, hscan, hblank, ← hseen]
  · intro hp
    have hback : { u with
        scan := s.scan, health := { u.health with plan := s.health.plan, cursor := s.health.cursor } } =
        takePass p.val mP mS s := by
      have hplan : s.health.plan = (takePass p.val mP mS s).health.plan := by simp
      have hcursor : s.health.cursor = (takePass p.val mP mS s).health.cursor := by simp
      rw [hafter, ← hscan, hplan, hcursor]
    rw [hback]
    exact hlast hp
  · intro hholes
    exact hconceal.trans (hsame fun c hc => (hcell c) ▸ hholes c hc)
  · rintro ⟨c, hc, hne⟩
    exact (htriggered ⟨c, hc, (hcell c) ▸ hne⟩).congr hconceal (by rw [hmap])
  · rw [hbeam, hscan, hblank, ← hseen]
  · rw [hhealth]; rfl
  · rw [hmap]
    exact congrArg (fun g => MapCtl.mk (takePass p.val mP mS s).map.cells g) (by simp)
  · rw [hstore]
    exact takeNotices_store (passLosses p.val mP mS s) (passed p.val mP mS s)
  · rw [hport]; exact hportOnly
  · rw [hseam]; exact hseamOnly
  · exact (congrArg State.sup hafter).trans (by simp)
  · exact (congrArg State.rx hafter).trans (by simp)
  · exact (congrArg State.drive hafter).trans (by simp)
  · exact (congrArg State.gov hafter).trans (by simp)
  · exact (congrArg State.pending hafter).trans (by simp)

end

end

section
/-! PROOF. What a frame shows, and how the banks are filled (R113, R133 to R136, R156, R164, R165). -/

namespace Sys2Proof.Machine

/-! ## What the frames of the items are made from -/

/-- A report without its updated mark, which no frame shows. -/
def plainReport (r : Report) : Report := { r with updated := false }

/-- Two states that agree in what a frame shows: all but the peak and the carried peak, the replies' slots, the re-raise and updated
marks, and the Seam Link Controller but for its station. -/
structure SameContent (s t : State) : Prop where
  sup : t.sup = s.sup
  rx : t.rx = s.rx
  scan : t.scan = s.scan
  health : t.health = s.health
  map : t.map = s.map
  conceal : t.conceal = s.conceal
  store : t.store = s.store
  own : t.seam.own = s.seam.own
  clip : t.drive.clip = s.drive.clip
  load : t.drive.load = s.drive.load
  gov : { t.gov with carried := none } = { s.gov with carried := none }
  marks : t.port.marks = s.port.marks
  queue : t.port.queue.map plainReport = s.port.queue.map plainReport

section Content

variable {s t u : State}

theorem SameContent.refl (s : State) : SameContent s s := by constructor <;> rfl

theorem SameContent.trans (h : SameContent s t) (h' : SameContent t u) : SameContent s u where
  sup := h'.sup.trans h.sup
  rx := h'.rx.trans h.rx
  scan := h'.scan.trans h.scan
  health := h'.health.trans h.health
  map := h'.map.trans h.map
  conceal := h'.conceal.trans h.conceal
  store := h'.store.trans h.store
  own := h'.own.trans h.own
  clip := h'.clip.trans h.clip
  load := h'.load.trans h.load
  gov := h'.gov.trans h.gov
  marks := h'.marks.trans h.marks
  queue := h'.queue.trans h.queue

theorem SameContent.queued (h : SameContent s t) (c : Nat) : queued t c = queued s c := by
  have hplain : ∀ v : State, Machine.queued v c = (v.port.queue.map plainReport).any (fun r => r.cell == c) := fun v => by
    rw [List.any_map]; rfl
  rw [hplain, hplain, h.queue]

theorem SameContent.statusRecord (h : SameContent s t) : statusRecord t = statusRecord s := by
  have hlen : t.port.queue.length = s.port.queue.length := by simpa using congrArg List.length h.queue
  have hfactor : t.gov.factor = s.gov.factor := (congrArg Governor.factor h.gov :)
  have hestimate : t.gov.estimate = s.gov.estimate := (congrArg Governor.estimate h.gov :)
  have hover : t.gov.overFlag = s.gov.overFlag := (congrArg Governor.overFlag h.gov :)
  have hlimit : t.gov.limit = s.gov.limit := (congrArg Governor.limit h.gov :)
  have hpeers : t.gov.peers = s.gov.peers := (congrArg Governor.peers h.gov :)
  unfold Machine.statusRecord countState countForced countSuspect countMarks dirtyCount
  rw [h.sup, h.rx, h.scan, h.health, h.map, h.conceal, h.store, h.own, h.clip, h.load, h.marks, hlen, hfactor, hestimate, hover,
    hlimit, hpeers]

theorem SameContent.cellRecordBytes (h : SameContent s t) (c : Nat) : cellRecordBytes t c = cellRecordBytes s c := by
  unfold Machine.cellRecordBytes cellAt dieAt factoryGainAt activeEntry
  rw [h.health, h.map, h.conceal, h.store, h.marks, h.queued]

theorem SameContent.faultListBytes (h : SameContent s t) (start : Nat) : faultListBytes t start = faultListBytes s start := by
  unfold Machine.faultListBytes faultList
  rw [h.map]

theorem SameContent.replyBytes (h : SameContent s t) (r : Reply) : replyBytes t r = replyBytes s r := by
  have htail : replyTail t r.body = replyTail s r.body := by
    cases r.body with
    | status => exact h.statusRecord
    | cell i => exact h.cellRecordBytes i
    | faults n => exact h.faultListBytes n
    | _ => rfl
  unfold Machine.replyBytes
  rw [htail]

theorem SameContent.fixReply (h : SameContent s t) : fixReply t = fixReply s :=
  funext fun r => by rw [Machine.fixReply, Machine.fixReply, h.replyBytes]

theorem SameContent.loadBody (h : SameContent s t) (hpeak : t.drive.peak = s.drive.peak) : loadBody t = loadBody s := by
  have hfactor : t.gov.factor = s.gov.factor := (congrArg Governor.factor h.gov :)
  have hover : t.gov.overFlag = s.gov.overFlag := (congrArg Governor.overFlag h.gov :)
  unfold Machine.loadBody countState
  rw [h.own, hpeak, hfactor, h.map, hover]

theorem SameContent.headBody (h : SameContent s t) : headBody t = headBody s := by
  have hplain : ∀ v : State, Machine.headBody v = match v.port.queue.map plainReport with | [] => [] | r :: _ => reportBody r := by
    intro v
    unfold Machine.headBody
    cases v.port.queue <;> rfl
  rw [hplain, hplain, h.queue]

/-- The frame of a reply slot. -/
def replyFrame (s : State) (it : Item) (slot : Option Reply) : Composed :=
  match slot with
  | none => ⟨it, none, []⟩
  | some r => ⟨it, none, frameBytes kindReply s.seam.own r.station (Machine.replyBytes s r)⟩

theorem frameOf_edge (s : State) (e : Edge) :
    frameOf s (.edge e) =
      ⟨.edge e, some (edgeContent s e),
        frameBytes kindEdge s.seam.own ((s.conceal.far.get e).source.getD Config.allStations) (edgeBody e (edgeContent s e))⟩ := rfl

theorem frameOf_load (s : State) :
    frameOf s .load = ⟨.load, none, frameBytes kindLoad s.seam.own Config.allStations (Machine.loadBody s)⟩ := rfl

theorem frameOf_longReply (s : State) : frameOf s .longReply = replyFrame s .longReply s.port.long := by
  unfold frameOf replyFrame
  cases s.port.long <;> rfl

theorem frameOf_immediateReply (s : State) : frameOf s .immediateReply = replyFrame s .immediateReply s.port.immediate := by
  unfold frameOf replyFrame
  cases s.port.immediate <;> rfl

theorem frameOf_tileNotice (s : State) :
    frameOf s .tileNotice =
      ⟨.tileNotice, none, frameBytes kindReport s.seam.own Config.allStations (1#8 :: Machine.statusRecord s)⟩ := rfl

theorem frameOf_reportHead (s : State) :
    frameOf s .reportHead =
      ⟨.reportHead, none, frameBytes kindReport s.seam.own Config.allStations (Machine.headBody s)⟩ := rfl

theorem SameContent.replyFrame (h : SameContent s t) (it : Item) (slot : Option Reply) :
    replyFrame t it slot = replyFrame s it slot := by
  cases slot with
  | none => rfl
  | some r => unfold Machine.replyFrame; dsimp only; rw [h.own, h.replyBytes]

/-- A frame shows no more than its item's content. -/
theorem SameContent.frameOf (h : SameContent s t) (it : Item) (hpeak : it = .load → t.drive.peak = s.drive.peak)
    (hlong : it = .longReply → t.port.long = s.port.long) (himmediate : it = .immediateReply → t.port.immediate = s.port.immediate) :
    frameOf t it = frameOf s it := by
  cases it with
  | edge e =>
    have hcontent : edgeContent t e = edgeContent s e := edgeContent_congr (by rw [h.conceal]) e
    rw [frameOf_edge, frameOf_edge, hcontent, h.own, h.conceal]
  | load => rw [frameOf_load, frameOf_load, h.own, h.loadBody (hpeak rfl)]
  | longReply => rw [frameOf_longReply, frameOf_longReply, hlong rfl, h.replyFrame]
  | immediateReply => rw [frameOf_immediateReply, frameOf_immediateReply, himmediate rfl, h.replyFrame]
  | tileNotice => rw [frameOf_tileNotice, frameOf_tileNotice, h.own, h.statusRecord]
  | reportHead => rw [frameOf_reportHead, frameOf_reportHead, h.own, h.headBody]

end Content

/-! ## What composition does at the item's owner -/

theorem clearUpdated_plain (q : List Report) : (clearUpdated q).map plainReport = q.map plainReport := by cases q <;> rfl

theorem afterCompose_content (it : Item) (s : State) : SameContent s (afterCompose it s) := by
  cases it with
  | reportHead =>
    constructor
    case queue => exact clearUpdated_plain _
    all_goals rfl
  | _ => constructor <;> rfl

/-- The port behind the composition of the items that `newly` names (R156, R164, R165). -/
def portFilled (s : State) (newly : Item → Bool) : Port :=
  { s.port with
    reraise := s.port.reraise && !newly .tileNotice
    queue := if newly .reportHead then clearUpdated s.port.queue else s.port.queue
    long := if newly .longReply then s.port.long.map (fixReply s) else s.port.long
    immediate := if newly .immediateReply then s.port.immediate.map (fixReply s) else s.port.immediate }

theorem afterCompose_port (it : Item) (s : State) : (afterCompose it s).port = portFilled s (fun x => decide (it = x)) := by
  cases it <;> simp [portFilled, afterCompose]

theorem portFilled_none (s : State) : portFilled s (fun _ => false) = s.port := by simp [portFilled]

theorem clearUpdated_idem (q : List Report) : clearUpdated (clearUpdated q) = clearUpdated q := by cases q <;> rfl

/-- The filling of the banks, as what is newly composed shows it. -/
structure Filled (s t : State) : Prop where
  content : SameContent s t
  mono : ∀ it, isComposed s it = true → isComposed t it = true
  port : t.port = portFilled s (fun it => isComposed t it && !isComposed s it)
  seam : t.seam = { s.seam with lineBank := t.seam.lineBank, nextBank := t.seam.nextBank }
  drive : t.drive =
    { s.drive with peak := if (isComposed t .load && !isComposed s .load) = true then 0 else s.drive.peak }
  gov : t.gov =
    { s.gov with carried := if (isComposed t .load && !isComposed s .load) = true then some s.drive.peak else s.gov.carried }
  rest : t = { s with seam := t.seam, drive := t.drive, gov := t.gov, port := t.port }

theorem Filled.refl (s : State) : Filled s s where
  content := .refl s
  mono := fun _ h => h
  port := by simp [portFilled]
  seam := rfl
  drive := by simp
  gov := by simp
  rest := rfl

/-- What the first filling has composed, the second does not compose anew. -/
theorem portFilled_trans {s t : State} {n m : Item → Bool} (h : SameContent s t) (hport : t.port = portFilled s n)
    (hdisjoint : ∀ it, n it = true → m it = false) : portFilled t m = portFilled s (fun it => n it || m it) := by
  have hlong : (if m .longReply then t.port.long.map (fixReply s) else t.port.long) =
      if n .longReply || m .longReply then s.port.long.map (fixReply s) else s.port.long := by
    rw [hport]
    cases hn : n .longReply with
    | true => simp [portFilled, hn, hdisjoint _ hn]
    | false => simp [portFilled, hn]
  have himmediate : (if m .immediateReply then t.port.immediate.map (fixReply s) else t.port.immediate) =
      if n .immediateReply || m .immediateReply then s.port.immediate.map (fixReply s) else s.port.immediate := by
    rw [hport]
    cases hn : n .immediateReply with
    | true => simp [portFilled, hn, hdisjoint _ hn]
    | false => simp [portFilled, hn]
  have hqueue : (if m .reportHead then clearUpdated t.port.queue else t.port.queue) =
      if n .reportHead || m .reportHead then clearUpdated s.port.queue else s.port.queue := by
    rw [hport]
    cases hn : n .reportHead <;> cases hm : m .reportHead <;> simp [portFilled, hn, clearUpdated_idem]
  have hreraise : (t.port.reraise && !m .tileNotice) = (s.port.reraise && !(n .tileNotice || m .tileNotice)) := by
    rw [hport, Bool.not_or, ← Bool.and_assoc]
    rfl
  unfold portFilled
  rw [h.fixReply, hlong, himmediate, hqueue, hreraise, hport]
  rfl

theorem Filled.trans {s t u : State} (h : Filled s t) (h' : Filled t u) : Filled s u := by
  have hnewly : ∀ it, (isComposed u it && !isComposed s it) =
      ((isComposed t it && !isComposed s it) || (isComposed u it && !isComposed t it)) := fun it => by
    have hst := h.mono it
    have htu := h'.mono it
    cases hs : isComposed s it <;> cases ht : isComposed t it <;> cases hu : isComposed u it <;> simp_all
  have hdisjoint : ∀ it, (isComposed t it && !isComposed s it) = true → (isComposed u it && !isComposed t it) = false :=
    fun it hn => by
      rw [Bool.and_eq_true] at hn
      rw [hn.1, Bool.not_true, Bool.and_false]
  refine ⟨h.content.trans h'.content, fun it hs => h'.mono it (h.mono it hs), ?_, ?_, ?_, ?_, ?_⟩
  · rw [h'.port, portFilled_trans h.content h.port hdisjoint]
    exact congrArg (portFilled s) (funext fun it => (hnewly it).symm)
  · rw [h'.seam, h.seam]
  · rw [h'.drive, h.drive, hnewly]
    cases hn : (isComposed t .load && !isComposed s .load) with
    | true => simp [hdisjoint _ hn]
    | false => simp
  · rw [h'.gov, h.gov, h.drive, hnewly]
    cases hn : (isComposed t .load && !isComposed s .load) with
    | true => simp [hdisjoint _ hn]
    | false => simp
  · rw [h'.rest, h.rest]

/-- One item composed into an EMPTY bank. -/
theorem Filled.of_compose {s t : State} {it : Item} (hfree : isComposed s it = false)
    (hcomposed : ∀ x, isComposed t x = (decide (it = x) || isComposed s x))
    (ht : t = { afterCompose it s with seam := { s.seam with lineBank := t.seam.lineBank, nextBank := t.seam.nextBank } }) :
    Filled s t := by
  have hnewly : ∀ x, (isComposed t x && !isComposed s x) = decide (it = x) := fun x => by
    rw [hcomposed]
    by_cases hx : it = x
    · subst hx; simp [hfree]
    · simp [hx]
  have hdrive : t.drive = (afterCompose it s).drive := (congrArg State.drive ht :)
  have hgov : t.gov = (afterCompose it s).gov := (congrArg State.gov ht :)
  have hport : t.port = (afterCompose it s).port := (congrArg State.port ht :)
  have hcontent := afterCompose_content it s
  refine ⟨?_, fun x hs => by rw [hcomposed, hs, Bool.or_true], ?_, (congrArg State.seam ht :), ?_, ?_, ?_⟩
  · rw [ht]
    exact ⟨hcontent.sup, hcontent.rx, hcontent.scan, hcontent.health, hcontent.map, hcontent.conceal, hcontent.store, rfl,
      hcontent.clip, hcontent.load, hcontent.gov, hcontent.marks, hcontent.queue⟩
  · rw [hport, afterCompose_port]
    exact congrArg (portFilled s) (funext fun x => (hnewly x).symm)
  · rw [hdrive, hnewly]
    cases it <;> rfl
  · rw [hgov, hnewly]
    cases it <;> rfl
  · rw [hdrive, hgov, hport, ht]
    cases it <;> rfl

theorem isComposed_composeLine {s : State} (it : Item) (h : s.seam.lineBank = none) (x : Item) :
    isComposed (composeLine it s) x = (decide (it = x) || isComposed s x) := by
  simp [isComposed, h]

theorem isComposed_composeNext {s : State} (it : Item) (h : s.seam.nextBank = none) (x : Item) :
    isComposed (composeNext it s) x = (decide (it = x) || isComposed s x) := by
  simp [isComposed, h, Bool.or_comm]

theorem fillOne_filled (s : State) : Filled s (fillOne s) := by
  obtain hsame | ⟨it, hit, -, ⟨hempty, hline⟩ | ⟨-, hempty, hnext⟩⟩ := fillOne_cases s
  · rw [hsame]; exact .refl s
  · obtain ⟨-, -, hfree, -⟩ := nextItem_some s it hit
    rw [hline]
    refine .of_compose hfree (isComposed_composeLine it hempty) ?_
    cases it <;> rfl
  · obtain ⟨-, -, hfree, -⟩ := nextItem_some s it hit
    rw [hnext]
    refine .of_compose hfree (isComposed_composeNext it hempty) ?_
    cases it <;> rfl

theorem fillBanks_filled (s : State) : Filled s (fillBanks s) := (fillOne_filled s).trans (fillOne_filled (fillOne s))

/-! ## Which item is composed next (R133, R134) -/

theorem mayCompose_iff (st : SupState) (it : Item) :
    mayCompose st it = true ↔ st = .running ∨ st = .readyWait ∧ (it = .longReply ∨ it = .immediateReply) := by
  cases st <;> cases it <;> simp [mayCompose]

/-- An item is waiting, and the tile's state lets it be composed. -/
def ready (s : State) (it : Item) : Bool := isWaiting s it && mayCompose s.sup.state it

theorem nextItem_of_split {s : State} {before after : List Item} {it : Item} (horder : itemOrder = before ++ it :: after)
    (hit : ready s it = true) (hbefore : ∀ x ∈ before, ready s x = false) : nextItem s = some it := by
  refine List.find?_eq_some_iff_append.mpr ⟨hit, before, after, horder, fun x hx => ?_⟩
  exact (congrArg (fun b => !b) (hbefore x hx)).trans rfl

theorem nextItem_of_none {s : State} (h : ∀ it, ready s it = false) : nextItem s = none :=
  List.find?_eq_none.mpr fun it _ hr => Bool.false_ne_true ((h it).symm.trans hr)

theorem fillOne_of_none {s : State} (h : nextItem s = none) : fillOne s = s := by
  unfold fillOne
  rw [h]
  split <;> rfl

theorem fillOne_of_full {s : State} (hline : s.seam.lineBank ≠ none) (hnext : s.seam.nextBank ≠ none) : fillOne s = s := by
  obtain hsame | ⟨it, -, -, ⟨hempty, -⟩ | ⟨-, hempty, -⟩⟩ := fillOne_cases s
  · exact hsame
  · exact absurd hempty hline
  · exact absurd hempty hnext

theorem fillOne_of_clash {s : State} (h : s.seam.clash = true) : fillOne s = s := if_pos h

theorem fillOne_line {s : State} {it : Item} (hclash : s.seam.clash = false) (h : nextItem s = some it)
    (hline : s.seam.lineBank = none) : fillOne s = composeLine it s := by
  rw [fillOne, if_neg (by rw [hclash]; exact Bool.false_ne_true), h, hline]

theorem fillOne_next {s : State} {it : Item} {b : Composed} (hclash : s.seam.clash = false) (h : nextItem s = some it)
    (hline : s.seam.lineBank = some b) (hnext : s.seam.nextBank = none) : fillOne s = composeNext it s := by
  rw [fillOne, if_neg (by rw [hclash]; exact Bool.false_ne_true), h, hline, hnext]

theorem fillBanks_of_fixed {s : State} (h : fillOne s = s) : fillBanks s = s := by rw [fillBanks, h, h]

end Sys2Proof.Machine

end

section
/-! PROOF. The filling of the banks in the manual's order (R127, R133 to R135, 12.4). -/

namespace Sys2Proof.Machine

/-- An item that may be composed in the tile's state (R133), as the statement writes it. -/
def Allowed (s : State) (it : Item) : Prop :=
  s.sup.state = .running ∨ s.sup.state = .readyWait ∧ (it = .longReply ∨ it = .immediateReply)

/-- An item that is not pending, or that READY_WAIT holds back. -/
def Idle (s : State) (it : Item) : Prop :=
  s.seam.items.has it = false ∨ s.sup.state = .readyWait ∧ it ≠ .longReply ∧ it ≠ .immediateReply

theorem ready_iff (s : State) (it : Item) :
    ready s it = true ↔ s.seam.items.has it = true ∧ isComposed s it = false ∧ Allowed s it := by
  unfold ready isWaiting Allowed
  rw [Bool.and_eq_true, Bool.and_eq_true, Bool.not_eq_true', mayCompose_iff, and_assoc]

theorem ready_false_of_idle {s : State} {it : Item} (h : Idle s it) : ready s it = false := by
  rw [Bool.eq_false_iff, Ne, ready_iff]
  rintro ⟨hhas, -, hallowed⟩
  obtain hno | ⟨hwait, hlong, himmediate⟩ := h
  · exact Bool.false_ne_true (hno.symm.trans hhas)
  · obtain hrun | ⟨-, hl | hi⟩ := hallowed
    · exact SupState.noConfusion (hwait.symm.trans hrun)
    · exact hlong hl
    · exact himmediate hi

theorem ready_false_of_composed {s : State} {it : Item} (h : isComposed s it = true) : ready s it = false := by
  rw [Bool.eq_false_iff, Ne, ready_iff]
  exact fun hready => Bool.false_ne_true (hready.2.1.symm.trans h)

theorem nodup_itemOrder : itemOrder.Nodup := by decide

theorem isComposed_of_empty {s : State} (hline : s.seam.lineBank = none) (hnext : s.seam.nextBank = none) (it : Item) :
    isComposed s it = false := by
  simp [isComposed, hline, hnext]

/-- Both banks EMPTY: the first item is composed into the line bank. -/
theorem fillOne_into_line {s : State} {before after : List Item} {it : Item} (horder : itemOrder = before ++ it :: after)
    (hclash : s.seam.clash = false) (hline : s.seam.lineBank = none) (hnext : s.seam.nextBank = none) (hallowed : Allowed s it)
    (hhas : s.seam.items.has it = true) (hbefore : ∀ x ∈ before, Idle s x) : fillOne s = composeLine it s := by
  have hready : ready s it = true := (ready_iff s it).mpr ⟨hhas, isComposed_of_empty hline hnext it, hallowed⟩
  exact fillOne_line hclash (nextItem_of_split horder hready fun x hx => ready_false_of_idle (hbefore x hx)) hline

/-- A frame in the line bank is not touched by the filling. -/
theorem fillOne_keeps_line {s : State} {b : Composed} (h : s.seam.lineBank = some b) : (fillOne s).seam.lineBank = some b := by
  obtain hsame | ⟨it, -, -, ⟨hempty, -⟩ | ⟨-, -, hnext⟩⟩ := fillOne_cases s
  · rw [hsame, h]
  · cases hempty.symm.trans h
  · rw [hnext]; simpa using h

/-- Only the next bank EMPTY: the first item that is waiting is composed into it. -/
theorem fillOne_into_next {s : State} {before after : List Item} {it : Item} {b : Composed}
    (horder : itemOrder = before ++ it :: after) (hclash : s.seam.clash = false) (hline : s.seam.lineBank = some b)
    (hnext : s.seam.nextBank = none) (hallowed : Allowed s it) (hhas : s.seam.items.has it = true) (hne : it ≠ b.item)
    (hbefore : ∀ x ∈ before, x = b.item ∨ Idle s x) : fillOne s = composeNext it s := by
  have hcomposed : ∀ x, isComposed s x = decide (b.item = x) := fun x => by simp [isComposed, hline, hnext]
  have hready : ready s it = true :=
    (ready_iff s it).mpr ⟨hhas, by rw [hcomposed]; exact decide_eq_false hne.symm, hallowed⟩
  refine fillOne_next hclash (nextItem_of_split horder hready fun x hx => ?_) hline hnext
  obtain rfl | hidle := hbefore x hx
  · exact ready_false_of_composed (by rw [hcomposed]; exact decide_eq_true rfl)
  · exact ready_false_of_idle hidle

/-- The line bank filled from EMPTY, the next bank takes the next item, with the frame it had before. -/
theorem frameOf_composeLine {s : State} {it second : Item} (hne : second ≠ it) :
    frameOf (composeLine it s) second = frameOf s second := by
  have hcontent : SameContent s (composeLine it s) := by
    have h := afterCompose_content it s
    exact ⟨by simp, by simp, by simp, by simp, by simp, by simp, by simp, by simp, by simp, by simp, h.gov, h.marks, h.queue⟩
  refine hcontent.frameOf second ?_ ?_ ?_
  · rintro rfl
    cases it with
    | load => exact absurd rfl hne
    | _ => rfl
  · rintro rfl
    cases it with
    | longReply => exact absurd rfl hne
    | _ => rfl
  · rintro rfl
    cases it with
    | immediateReply => exact absurd rfl hne
    | _ => rfl

theorem Idle.composeLine {s : State} {it x : Item} (h : Idle s x) : Idle (composeLine it s) x := by
  unfold Idle at *
  simpa using h

theorem fillBanks_next {s : State} {before between rest : List Item} {it second : Item}
    (horder : itemOrder = before ++ it :: (between ++ second :: rest)) (hclash : s.seam.clash = false)
    (hnext : s.seam.nextBank = none) (hfirst : fillOne s = composeLine it s)
    (hbefore : ∀ x ∈ before, Idle s x) (hhas : s.seam.items.has second = true) (hallowed : Allowed s second)
    (hbetween : ∀ x ∈ between, Idle s x) : (fillBanks s).seam.nextBank = some (frameOf s second) := by
  have hne : second ≠ it := by
    rintro rfl
    have hnodup := horder ▸ nodup_itemOrder
    exact (List.nodup_cons.mp (List.nodup_append.mp hnodup).2.1).1 (by simp)
  have hsplit : itemOrder = (before ++ it :: between) ++ second :: rest := by rw [horder]; simp
  have hsecond : fillOne (composeLine it s) = composeNext second (composeLine it s) := by
    refine fillOne_into_next (b := frameOf s it) hsplit (by simpa using hclash) (composeLine_lineBank s it) (by simpa using hnext)
      ?_ (by simpa using hhas) (by simpa using hne) fun x hx => ?_
    · unfold Allowed at *
      simpa using hallowed
    · obtain hx | rfl | hx : x ∈ before ∨ x = it ∨ x ∈ between := by simpa using hx
      · exact .inr (hbefore x hx).composeLine
      · exact .inl (frameOf_item s x).symm
      · exact .inr (hbetween x hx).composeLine
  rw [fillBanks, hfirst, hsecond, composeNext_nextBank, frameOf_composeLine hne]

theorem fillBanks_alone {s : State} {before after : List Item} {it : Item}
    (horder : itemOrder = before ++ it :: after) (hnext : s.seam.nextBank = none)
    (hfirst : fillOne s = composeLine it s) (hbefore : ∀ x ∈ before, Idle s x) (hafter : ∀ x ∈ after, Idle s x) :
    (fillBanks s).seam.nextBank = none := by
  have hnone : nextItem (composeLine it s) = none := by
    refine nextItem_of_none fun x => ?_
    have hx : x ∈ itemOrder := by cases x with | edge e => cases e <;> decide | _ => decide
    rw [horder] at hx
    obtain hx | rfl | hx : x ∈ before ∨ x = it ∨ x ∈ after := by simpa using hx
    · exact ready_false_of_idle (hbefore x hx).composeLine
    · exact ready_false_of_composed (by simp [isComposed])
    · exact ready_false_of_idle (hafter x hx).composeLine
  rw [fillBanks, hfirst, fillOne_of_none hnone]
  simpa using hnext

/-- Nothing is composed in CLASH, with both banks full, or when no item is both waiting and allowed (R133, R134). -/
theorem fillBanks_unmoved {s : State}
    (h : s.seam.clash = true ∨ (s.seam.lineBank ≠ none ∧ s.seam.nextBank ≠ none) ∨ ∀ it, ready s it = false) :
    fillBanks s = s := by
  obtain hclash | ⟨hline, hnext⟩ | hnone := h
  · exact fillBanks_of_fixed (fillOne_of_clash hclash)
  · exact fillBanks_of_fixed (fillOne_of_full hline hnext)
  · exact fillBanks_of_fixed (fillOne_of_none (nextItem_of_none hnone))

theorem ready_false_of_state {s : State} (h : s.sup.state ≠ .running ∧ s.sup.state ≠ .readyWait) (it : Item) :
    ready s it = false := by
  rw [Bool.eq_false_iff, Ne, ready_iff]
  rintro ⟨-, -, hrun | ⟨hwait, -⟩⟩
  · exact h.1 hrun
  · exact h.2 hwait

/-! ## What the frames hold (R127, R135, 12.4) -/

theorem holeMap_getD (e : Edge) (content : EdgeContent) :
    (List.range 12).map (fun j => (edgeBody e content).getD (j + 1) 0#8) = (List.range 12).map (holeMapByte content) := by
  refine List.map_congr_left fun j hj => ?_
  have hlt : j < 12 := List.mem_range.mp hj
  have hlen : j < ((List.range 12).map (holeMapByte content)).length := by simpa using hlt
  simp [edgeBody, List.getElem?_append_left hlen, hlt]

theorem holeMap_bit (content : EdgeContent) {i : Nat} (hi : i < 96) :
    (((List.range 12).map (holeMapByte content)).getD (i / 8) 0#8).getLsbD (7 - i % 8) = true ↔ tget content i .working ≠ .working := by
  have hlt : i / 8 < 12 := by omega
  have hbyte : ((List.range 12).map (holeMapByte content)).getD (i / 8) 0#8 = holeMapByte content (i / 8) := by simp [hlt]
  rw [hbyte, getLsbD_holeMapByte content i]
  cases tget content i .working <;> simp [EdgeEntry.isHole]

theorem portFilled_eq (s : State) (newly : Item → Bool) :
    portFilled s newly =
      { s.port with
        reraise := s.port.reraise && !newly .tileNotice
        queue :=
          match s.port.queue with
          | [] => []
          | r :: rest => { r with updated := r.updated && !newly .reportHead } :: rest
        long := s.port.long.map fun r => if newly .longReply then { r with fixed := some (replyBytes s r) } else r
        immediate :=
          s.port.immediate.map fun r => if newly .immediateReply then { r with fixed := some (replyBytes s r) } else r } := by
  have hqueue : (if newly .reportHead then clearUpdated s.port.queue else s.port.queue) =
      match s.port.queue with
      | [] => []
      | r :: rest => { r with updated := r.updated && !newly .reportHead } :: rest := by
    cases s.port.queue <;> cases newly .reportHead <;> simp [clearUpdated]
  have hslot : ∀ (b : Bool) (o : Option Reply), (if b then o.map (fixReply s) else o) =
      o.map fun r => if b then { r with fixed := some (replyBytes s r) } else r := fun b o => by
    cases b
    · cases o <;> rfl
    · rfl
  unfold portFilled
  rw [hqueue, hslot, hslot]

end Sys2Proof.Machine

/-! ## The statement -/

section

open Sys2Proof Sys2Proof.Machine

/-- Settles O40: each bank is filled by the first item of the order that is ready. -/
theorem banksAreFilledInOrder : Obligations.BanksAreFilledInOrder := by
  unfold Obligations.BanksAreFilledInOrder
  refine ⟨?_, ?_, ?_, ?_, fun _ _ _ _ => rfl, ?_, ?_, ?_, fun _ => rfl, ?_, ?_⟩
  · intro s before after it horder hclash hline hnext hallowed hhas hbefore
    have hfirst := fillOne_into_line horder hclash hline hnext hallowed hhas hbefore
    refine ⟨?_, fun between rest second hafter hsecond hmay hbetween => ?_, fun hafter => ?_⟩
    · rw [fillBanks, hfirst]
      exact fillOne_keeps_line (composeLine_lineBank s it)
    · exact fillBanks_next (hafter ▸ horder) hclash hnext hfirst hbefore hsecond hmay hbetween
    · exact fillBanks_alone horder hnext hfirst hbefore hafter
  · intro s before after it b horder hclash hline hnext hallowed hhas hne hbefore
    have hfirst := fillOne_into_next horder hclash hline hnext hallowed hhas hne hbefore
    have hfull : fillOne (composeNext it s) = composeNext it s := fillOne_of_full (by simp [hline]) (by simp)
    rw [fillBanks, hfirst, hfull]
    exact ⟨by simpa using hline, composeNext_nextBank s it⟩
  · intro s h
    refine fillBanks_unmoved ?_
    obtain hclash | hfull | hnone | hreset | hloading | hcheck | hwait := h
    · exact .inl hclash
    · exact .inr (.inl hfull)
    · exact .inr (.inr fun it => ready_false_of_idle (.inl (hnone it)))
    · exact .inr (.inr (ready_false_of_state (by simp [hreset])))
    · exact .inr (.inr (ready_false_of_state (by simp [hloading])))
    · exact .inr (.inr (ready_false_of_state (by simp [hcheck])))
    · refine .inr (.inr fun it => ?_)
      rw [Bool.eq_false_iff, Ne, ready_iff]
      rintro ⟨hhas, hfree, hallowed⟩
      obtain ⟨b, hbank, rfl⟩ | ⟨hrun, hno⟩ := hwait it hhas
      · obtain hline | hnext := hbank <;> simp [isComposed, *] at hfree
      · exact hallowed.elim hrun hno
  · intro s
    have h := fillBanks_filled s
    refine ⟨h.seam, ?_, ?_, ?_, ?_, ?_, ?_, ?_, ?_, ?_, ?_, h.content.queue, h.rest⟩
    · rw [h.drive]
    · rw [h.gov]
    · intro hsame
      have hnewly : (isComposed (fillBanks s) .load && !isComposed s .load) = false := by rw [hsame, Bool.and_not_self]
      exact ⟨h.drive.trans (by rw [hnewly]; rfl), h.gov.trans (by rw [hnewly]; rfl)⟩
    · intro hnow hbefore
      rw [h.drive, h.gov, hnow, hbefore]
      exact ⟨rfl, rfl⟩
    · rw [h.port]; rfl
    · rw [h.port]; rfl
    · rw [h.port]; rfl
    · rw [h.port]; rfl
    · rw [h.port, portFilled_eq]; exact Option.isSome_map
    · rw [h.port, portFilled_eq]; exact Option.isSome_map
  · intro s e
    dsimp only
    rw [holeMap_getD]
    exact ⟨rfl, rfl, fun i hi => holeMap_bit _ hi⟩
  · intro s
    exact (fillBanks_filled s).port.trans (portFilled_eq s _)
  · intro s
    rfl
  · intro s r rest hq
    rw [frameOf_reportHead, headBody, hq]
    rfl
  · intro s r
    refine ⟨fun hlong => ?_, fun himmediate => ?_, fun hopen => ?_⟩
    · rw [frameOf_longReply, hlong]; rfl
    · rw [frameOf_immediateReply, himmediate]; rfl
    · rw [replyBytes, hopen]
      cases r.body <;> rfl

end

end

section
/-! PROOF. What a frame that is heard does behind R132's test of its source, and the owners' taking of EDGE and LOAD frames (R105,
R106, R115, R125, R127, R132). -/

namespace Sys2Proof.Machine

/-! ## The test of R132 and the end of the frame -/

theorem enterClash_of_clear {s : State} (h : s.seam.clash = false) :
    enterClash s =
      { s with
        drive :=
          { s.drive with
            peak := if isComposed s .load then max s.drive.peak (s.gov.carried.getD 0) else s.drive.peak }
        gov := { s.gov with carried := if isComposed s .load then none else s.gov.carried }
        seam := { s.seam with clash := true, tx := .quiet, lineBank := none, nextBank := none } } := by
  rw [enterClash, if_neg (by rw [h]; exact Bool.false_ne_true)]
  cases isComposed s .load <;> rfl

theorem enterClash_of_set {s : State} (h : s.seam.clash = true) : enterClash s = s := if_pos h

theorem ownTested_eq (source : Nat) (s : State) :
    ownTested source s = if source = s.seam.own then enterClash s else s := by
  unfold ownTested
  by_cases hown : source = s.seam.own
  · cases hclash : s.seam.clash with
    | true => rw [if_neg fun h => Bool.false_ne_true h.2.symm, if_pos hown, enterClash_of_set hclash]
    | false => rw [if_pos ⟨hown, rfl⟩, if_pos hown, enterClash_of_clear hclash]
  · rw [if_neg fun h => hown h.1, if_neg hown]

theorem ownTested_endFrame (source : Nat) (s : State) : ownTested source (endFrame s) = endFrame (ownTested source s) := by
  unfold ownTested
  by_cases h : source = s.seam.own ∧ s.seam.clash = false
  · rw [if_pos h, if_pos (show source = (endFrame s).seam.own ∧ (endFrame s).seam.clash = false from h)]
    rfl
  · rw [if_neg h, if_neg (show ¬(source = (endFrame s).seam.own ∧ (endFrame s).seam.clash = false) from h)]

/-- The test touches the peak, the carried peak, and the Seam Link Controller's attempt and banks alone. -/
theorem ownTested_frame (source : Nat) (s : State) :
    ownTested source s =
      { s with
        drive := { s.drive with peak := (ownTested source s).drive.peak }
        gov := { s.gov with carried := (ownTested source s).gov.carried }
        seam :=
          { s.seam with
            clash := (ownTested source s).seam.clash
            tx := (ownTested source s).seam.tx
            lineBank := (ownTested source s).seam.lineBank
            nextBank := (ownTested source s).seam.nextBank } } := by
  unfold ownTested
  split <;> rfl

theorem judged_eq (source : Nat) (target : Byte) (hand : State → State) (s : State) :
    judged source target hand (endFrame s) =
      if target.toNat = s.seam.own ∨ target.toNat = Config.allStations then hand (endFrame (ownTested source s))
      else endFrame (ownTested source s) := by
  rw [← ownTested_endFrame, ownTested_eq]
  rfl

/-- A frame that is heard and addressed to this tile ends, behind the test of its source, and its owner takes it. -/
theorem hearFrame_of_heard {o : State} {source : Nat} {target : Byte} (h : Heard o source target) (hand : State → State) :
    hearFrame true source target hand o = settle (hand (endFrame (ownTested source o))) := by
  obtain ⟨hhears, -, htarget⟩ := h
  rw [hearFrame, if_pos hhears, if_pos rfl, judged_eq, if_pos htarget]

theorem frameEnded_endFrame (s : State) : FrameEnded s (endFrame s) := rfl

theorem triggerIf_eq (b : Bool) (s : State) : triggerIf b s = { s with conceal := (triggerIf b s).conceal } := by
  cases b
  · rfl
  · exact trigger_eq s

/-! ## EDGE frames (R105, R106) -/

theorem exec_edgeNotice {o : State} {source : Nat} {target : Byte} {body : List Byte} (h : Heard o source target)
    (hlen : bodyLengthOk kindEdge body.length = true) :
    exec (.edgeNotice source target body) o = .next (settle (takeEdge source body (endFrame (ownTested source o)))) := by
  show Host.Outcome.next (hearFrame (decide (source ≤ 30) && bodyLengthOk kindEdge body.length) source target _ o) = _
  rw [hlen, decide_eq_true h.2.1]
  exact congrArg _ (hearFrame_of_heard h _)

/-- An accepted notice renews its record, with a trigger if the record was INVALID or its entries change (R105). -/
theorem renewFar_renews (e : Edge) (content : EdgeContent) (s : State) :
    let r := s.conceal.far.get e
    let u := renewFar e content (endFrame s)
    u.conceal.far.get e = { r with valid := true, age := 0, entries := content } ∧
      (∀ f, f ≠ e → u.conceal.far.get f = s.conceal.far.get f) ∧
      (r.valid = false ∨ r.entries ≠ content → Triggered { s.conceal with far := u.conceal.far } u) ∧
      (r.valid = true → r.entries = content → u.conceal = { s.conceal with far := u.conceal.far }) ∧
      FrameEnded { s with conceal := u.conceal } u := by
  intro r u
  have hfar : u.conceal.far = s.conceal.far.put e { r with valid := true, age := 0, entries := content } := by
    simp [u, renewFar, r]
  obtain ⟨hkept, htriggered⟩ := triggerIf_conceal (!r.valid || decide (r.entries ≠ content))
    ((endFrame s).setConceal
      { s.conceal with far := s.conceal.far.put e { r with valid := true, age := 0, entries := content } })
  rw [hfar]
  refine ⟨by rw [get_put, if_pos rfl], fun f hf => by rw [get_put, if_neg hf], fun hnew => htriggered ?_, fun hvalid hsame => ?_,
    triggerIf_eq _ _⟩
  · obtain hinvalid | hchanged := hnew
    · simp [hinvalid]
    · simp [hchanged]
  · exact hkept (by simp [hvalid, hsame])

/-- Any other notice is a mismatch, raised when it is the first (R106). -/
theorem setMismatch_marks (s : State) :
    let u := setMismatch (endFrame s)
    u.conceal = { s.conceal with mismatch := true } ∧ (s.conceal.mismatch = true → FrameEnded s u) ∧
      (s.conceal.mismatch = false → NoticeRaised s u ∧ u.seam.items = { s.seam.items with tileNotice := u.seam.items.tileNotice }) ∧
      FrameEnded { s with conceal := u.conceal, port := u.port, seam := { s.seam with items := u.seam.items } } u := by
  intro u
  have hu : u = if s.conceal.mismatch then endFrame s
      else raiseNotice ((endFrame s).setConceal { s.conceal with mismatch := true }) := rfl
  cases h : s.conceal.mismatch with
  | true =>
    rw [h, if_pos rfl] at hu
    rw [hu]
    refine ⟨?_, fun _ => rfl, fun hno => absurd hno.symm Bool.false_ne_true, rfl⟩
    rw [← h]; rfl
  | false =>
    rw [h, if_neg Bool.false_ne_true] at hu
    rw [hu]
    have honly := raiseNotice_only ((endFrame s).setConceal { s.conceal with mismatch := true })
    refine ⟨congrArg State.conceal honly |>.trans rfl, fun hyes => absurd hyes Bool.false_ne_true, fun _ => ⟨?_, ?_⟩, ?_⟩
    · exact raiseNotice_raises ((endFrame s).setConceal { s.conceal with mismatch := true })
    · exact (congrArg (fun v => v.seam.items) honly).trans rfl
    · unfold FrameEnded
      rw [honly]
      rfl

/-! ## LOAD frames (R115) -/

theorem exec_loadFrame {o : State} {source : Nat} {target : Byte} {body : List Byte} (h : Heard o source target)
    (hlen : body.length = 8) :
    exec (.loadFrame source target body) o = .next (settle (takeLoad source body (endFrame (ownTested source o)))) := by
  show Host.Outcome.next (hearFrame (decide (source ≤ 30) && bodyLengthOk kindLoad body.length) source target _ o) = _
  rw [hlen, decide_eq_true h.2.1]
  exact congrArg _ (hearFrame_of_heard h _)

theorem takeLoad_discards {source : Nat} {body : List Byte} {s : State}
    (h : s.sup.findings.strapFault = true ∨ 16 ≤ source ∨ source = s.seam.own ∨ 3071 < loadFigure body) :
    takeLoad source body s = s := by
  refine if_pos ?_
  simp only [Bool.or_eq_true, decide_eq_true_eq]
  obtain h | h | h | h := h
  · exact .inl (.inl (.inl h))
  · exact .inl (.inl (.inr h))
  · exact .inl (.inr h)
  · exact .inr h

theorem takeLoad_takes {source : Nat} {body : List Byte} {s : State} (hstraps : s.sup.findings.strapFault = false)
    (hsource : source < 16) (hown : source ≠ s.seam.own) (hfigure : loadFigure body ≤ 3071) :
    takeLoad source body s = s.setGov { s.gov with peers := insertPeer source (loadFigure body) s.gov.peers } := by
  refine if_neg ?_
  simp only [Bool.or_eq_true, decide_eq_true_eq, hstraps, not_or]
  exact ⟨⟨⟨Bool.false_ne_true, Nat.not_le.mpr hsource⟩, hown⟩, Nat.not_lt.mpr hfigure⟩

/-- The station's entry is made or renewed, and every other entry stays (R115). -/
theorem mem_insertPeer_iff {l : List Peer} (h : Ascending l) (station load : Nat) (p : Peer) :
    p ∈ insertPeer station load l ↔ p = ⟨station, load, 0⟩ ∨ p ∈ l ∧ p.station ≠ station := by
  induction l with
  | nil => simp [insertPeer]
  | cons q qs ih =>
    obtain ⟨hhead, htail⟩ := List.pairwise_cons.mp h
    have hbehind : ∀ r ∈ qs, station ≤ q.station → r.station ≠ station := fun r hr hle =>
      (lt_of_le_of_lt hle (hhead r hr)).ne'
    unfold insertPeer
    split
    · next hlt =>
      have hall : ∀ r ∈ q :: qs, r.station ≠ station := fun r hr => by
        obtain rfl | hr := List.mem_cons.mp hr
        · exact hlt.ne'
        · exact hbehind r hr hlt.le
      rw [List.mem_cons]
      exact or_congr_right ⟨fun hp => ⟨hp, hall p hp⟩, And.left⟩
    · split
      · next heq =>
        rw [List.mem_cons, List.mem_cons]
        refine or_congr_right ⟨fun hp => ⟨.inr hp, hbehind p hp heq.le⟩, fun hp => hp.1.resolve_left ?_⟩
        rintro rfl
        exact hp.2 heq.symm
      · next hne =>
        rw [List.mem_cons, ih htail, List.mem_cons]
        have hq : p = q → p.station ≠ station := fun hp => hp ▸ Ne.symm hne
        constructor
        · rintro (hp | hp | ⟨hp, hs⟩)
          · exact .inr ⟨.inl hp, hq hp⟩
          · exact .inl hp
          · exact .inr ⟨.inr hp, hs⟩
        · rintro (hp | ⟨hp | hp, hs⟩)
          · exact .inr (.inl hp)
          · exact .inl hp
          · exact .inr (.inr ⟨hp, hs⟩)

end Sys2Proof.Machine

/-! ## The statements -/

section

open Sys2Proof Sys2Proof.Machine

/-- Settles O30, by whether the body is read and whether the receiving edge takes it. -/
theorem edgeNoticeIsJudged : Obligations.EdgeNoticeIsJudged := by
  unfold Obligations.EdgeNoticeIsJudged
  intro o source target body hheard hlen s
  refine ⟨_, exec_edgeNotice hheard hlen, ?_⟩
  show match readEdgeBody body with | none => FrameEnded s (takeEdge source body (endFrame s)) | some (sending, content) => _
  unfold takeEdge
  cases readEdgeBody body with
  | none => exact frameEnded_endFrame s
  | some p =>
    obtain ⟨sending, content⟩ := p
    dsimp only
    have haccepts : edgeAccepts (endFrame s) sending.opposite source = true ↔
        (s.conceal.far.get sending.opposite).present = true ∧ (s.conceal.far.get sending.opposite).source = some source := by
      unfold edgeAccepts
      rw [Bool.and_eq_true, decide_eq_true_eq]
      rfl
    by_cases h : edgeAccepts (endFrame s) sending.opposite source = true
    · rw [if_pos h, if_pos (haccepts.mp h)]
      exact renewFar_renews sending.opposite content s
    · rw [if_neg h, if_neg fun hyes => h (haccepts.mpr hyes)]
      exact setMismatch_marks s

/-- Settles O31: the frame is discarded, or its entry stands in the ascending list. -/
theorem loadFrameEntersTheList : Obligations.LoadFrameEntersTheList := by
  unfold Obligations.LoadFrameEntersTheList
  intro o source target body hheard hlen hascending s
  refine ⟨_, exec_loadFrame hheard hlen, fun hdiscard => ?_, fun hstraps hsource hown hfigure => ?_⟩
  · rw [takeLoad_discards (s := endFrame s) hdiscard]
    exact frameEnded_endFrame s
  · rw [takeLoad_takes (s := endFrame s) hstraps hsource hown hfigure]
    have hpeers : s.gov.peers = o.gov.peers := by rw [show s = ownTested source o from rfl, ownTested_frame]
    have hsorted : Ascending s.gov.peers := hpeers ▸ hascending
    exact ⟨mem_insertPeer_iff hsorted _ _, hsorted.insertPeer _ _, rfl⟩

end

end

section
/-! PROOF. A frame's line as a row of its own, what is discarded, and CLASH from the tile's own source (R115, R124, R125, R127, R132). -/

namespace Sys2Proof.Machine

/-! ## The judgement of a frame (R127) -/

theorem bodyLengthOk_iff (kind n : Nat) :
    bodyLengthOk kind n = true ↔
      (kind = 1 ∧ 13 ≤ n ∧ n ≤ 109) ∨ (kind = 2 ∧ n = 8) ∨ (kind = 3 ∧ 4 ≤ n ∧ n ≤ 88) ∨
        (kind = 4 ∧ n ∈ [1, 2, 3, 5, 7, 8]) ∨ (kind = 5 ∧ (n = 7 ∨ 40 ≤ n ∧ n ≤ 85)) := by
  unfold bodyLengthOk
  split
  · simp
  · simp
  · simp
  · simp [or_assoc]
  · simp
  · next h1 h2 h3 h4 h5 =>
    refine ⟨fun h => absurd h Bool.false_ne_true, ?_⟩
    rintro (⟨h, -⟩ | ⟨h, -⟩ | ⟨h, -⟩ | ⟨h, -⟩ | ⟨h, -⟩)
    · exact absurd h h1
    · exact absurd h h2
    · exact absurd h h3
    · exact absurd h h4
    · exact absurd h h5

theorem bodyLengthOk_bounds {kind n : Nat} (h : bodyLengthOk kind n = true) : 1 ≤ kind ∧ kind ≤ 5 ∧ n ≤ 109 := by
  obtain ⟨rfl, _, h⟩ | ⟨rfl, rfl⟩ | ⟨rfl, _, h⟩ | ⟨rfl, hmem⟩ | ⟨rfl, h⟩ := (bodyLengthOk_iff kind n).mp h
  · omega
  · omega
  · omega
  · simp only [List.mem_cons, List.not_mem_nil, or_false] at hmem; omega
  · omega

/-- Two bytes are a value's exactly when they read back as it. -/
theorem eq_bytes16_iff {a b : Byte} {n : Nat} (h : n < 65536) : [a, b] = bytes16 n ↔ be16 a b = n := by
  constructor
  · intro heq
    obtain ⟨rfl, rfl⟩ : a = byteOf (n / 256) ∧ b = byteOf n := by simpa [bytes16] using heq
    exact be16_byteOf n h
  · rintro rfl
    exact (bytes16_be16 a b).symm

/-- The two bytes behind a body. -/
theorem drop_of_length {rest : List Byte} {n : Nat} (h : rest.length = n + 2) :
    rest.drop n = [rest.getD n 0#8, rest.getD (n + 1) 0#8] := by
  have h0 : n < rest.length := by omega
  have h1 : n + 1 < rest.length := by omega
  have hnil : rest.drop (n + 2) = [] := List.drop_eq_nil_of_le h.le
  rw [List.drop_eq_getElem_cons h0, List.drop_eq_getElem_cons h1, hnil]
  simp [h0, h1]

theorem judgeFrame_cons (arb target len : Byte) (rest : List Byte) (count : Nat) :
    judgeFrame (arb :: target :: len :: rest) count =
      if arb.toNat / 32 ≠ 0 ∧ arb.toNat / 32 ≤ 5 ∧ arb.toNat % 32 ≠ 31 ∧ bodyLengthOk (arb.toNat / 32) len.toNat = true ∧
          count = len.toNat + 5 ∧ rest.length = len.toNat + 2 ∧
          be16 (rest.getD len.toNat 0#8) (rest.getD (len.toNat + 1) 0#8) =
            crc (arb :: target :: len :: rest.take len.toNat) then
        some ⟨arb.toNat / 32, arb.toNat % 32, target, rest.take len.toNat⟩
      else none := by
  refine if_congr ?_ rfl rfl
  have hsource : arb.toNat % 32 < 32 := Nat.mod_lt _ (by decide)
  constructor
  · rintro ⟨hlo, hhi, hs, -, hok, hcount, hlen, hcheck⟩
    rw [drop_of_length hlen, eq_bytes16_iff (crc_lt _)] at hcheck
    exact ⟨by omega, hhi, by omega, hok, by omega, hlen, hcheck⟩
  · rintro ⟨hlo, hhi, hs, hok, hcount, hlen, hcheck⟩
    have hbound := (bodyLengthOk_bounds hok).2.2
    rw [← eq_bytes16_iff (crc_lt _), ← drop_of_length hlen] at hcheck
    exact ⟨by omega, hhi, by omega, by omega, hok, by omega, hlen, hcheck⟩

/-- A frame's bytes are judged as the frame they carry. -/
theorem judgeFrame_frameBytes {kind source : Nat} (target : Byte) {body : List Byte} (hsource : source ≤ 30)
    (hok : bodyLengthOk kind body.length = true) :
    judgeFrame ((frameBytes kind source target.toNat body).take Config.maxFrameBytes)
        (frameBytes kind source target.toNat body).length =
      some ⟨kind, source, target, body⟩ := by
  obtain ⟨hlo, hhi, hlen⟩ := bodyLengthOk_bounds hok
  have harb : (byteOf (kind * 32 + source)).toNat = kind * 32 + source := by rw [byteOf_toNat]; omega
  have hbody : (byteOf body.length).toNat = body.length := by rw [byteOf_toNat]; omega
  have hkind : (kind * 32 + source) / 32 = kind := by omega
  have hstation : (kind * 32 + source) % 32 = source := by omega
  have hbytes : frameBytes kind source target.toNat body =
      byteOf (kind * 32 + source) :: target :: byteOf body.length ::
        (body ++ bytes16 (crc (byteOf (kind * 32 + source) :: target :: byteOf body.length :: body))) := by
    rw [frameBytes, byteOf_toNat_self]
    rfl
  have htotal : (frameBytes kind source target.toNat body).length = body.length + 5 := by
    rw [hbytes]; simp
  have hshort : (frameBytes kind source target.toNat body).length ≤ Config.maxFrameBytes := by
    rw [htotal]; show _ ≤ 125; omega
  rw [List.take_of_length_le hshort, htotal, hbytes, judgeFrame_cons, harb, hbody, hkind, hstation, List.take_left]
  refine if_pos ⟨by omega, hhi, by omega, hok, rfl, by simp, ?_⟩
  rw [← eq_bytes16_iff (crc_lt _), ← drop_of_length (by simp), List.drop_left]

/-! ## A frame's line and its row (R124, R127) -/

theorem exec_seamFrameEnd_read {s : State} {line : List LineRun} {bytes : List Byte} (hown : s.seam.ownSent = false)
    (hread : readLine line = some bytes) : exec (.seamFrameEnd line) s = .next (endHeard bytes s) := by
  show execSeamFrameEnd line s = _
  rw [execSeamFrameEnd, if_neg (by rw [hown]; exact Bool.false_ne_true), hread]

theorem endHeard_of_some {s : State} {bytes : List Byte} {f : HeardFrame} (h : heardFrame s bytes = some f) :
    endHeard bytes s = hearFrame true f.source f.target (handOver f) s := by
  rw [endHeard, h]

theorem endHeard_of_none {s : State} {bytes : List Byte} (h : heardFrame s bytes = none) :
    endHeard bytes s = hearFrame false 0 0#8 id s := by
  rw [endHeard, h]

theorem heardFrame_of_empty {s : State} (bytes : List Byte) (hbuffer : s.seam.buffer = []) (hcount : s.seam.count = 0) :
    heardFrame s bytes = judgeFrame (bytes.take 125) bytes.length := by
  rw [heardFrame, hbuffer, hcount, List.nil_append, Nat.zero_add]
  rfl

/-- The line of a frame, heard whole, is what its owner does with it. -/
theorem exec_frameLine {s : State} {kind source : Nat} (target : Byte) {body : List Byte} (hbuffer : s.seam.buffer = [])
    (hcount : s.seam.count = 0) (hown : s.seam.ownSent = false) (hsource : source ≤ 30)
    (hok : bodyLengthOk kind body.length = true) :
    exec (.seamFrameEnd (frameLine (frameBytes kind source target.toNat body))) s =
      .next (hearFrame true source target (handOver ⟨kind, source, target, body⟩) s) := by
  have hheard : heardFrame s (frameBytes kind source target.toNat body) = some ⟨kind, source, target, body⟩ :=
    (heardFrame_of_empty _ hbuffer hcount).trans (judgeFrame_frameBytes target hsource hok)
  rw [exec_seamFrameEnd_read hown (readLine_frameLine _), endHeard_of_some hheard]

/-- A request row is the hearing of its request. -/
theorem exec_request {c : Instr} {source : Nat} {target : Byte} {r : Request} (h : requestOf c = some (source, target, r))
    (s : State) : exec c s = .next (hearRequest source target r s) := by
  cases c <;> simp only [requestOf, reduceCtorEq, Option.some.injEq, Prod.mk.injEq] at h <;> obtain ⟨rfl, rfl, rfl⟩ := h <;> rfl

theorem readRequest_half (v : Half) : be16 (byteOf (v.toNat / 256)) (byteOf v.toNat) = v.toNat :=
  be16_byteOf _ (by have := v.isLt; omega)

/-- A request row's body reads as its request, and has its kind's length (12.4.1). -/
theorem readRequest_requestBody {c : Instr} {source : Nat} {target : Byte} {r : Request}
    (h : requestOf c = some (source, target, r)) :
    readRequest (requestBody r) = r ∧ bodyLengthOk kindRequest (requestBody r).length = true := by
  cases c <;> simp only [requestOf, reduceCtorEq, Option.some.injEq, Prod.mk.injEq] at h <;> obtain ⟨rfl, rfl, rfl⟩ := h
  case listFaults v => exact ⟨congrArg Request.listFaults (readRequest_half v), rfl⟩
  case setGain f mode v => exact ⟨congrArg (Request.setGain f mode) (readRequest_half v), rfl⟩
  case setLimit v => exact ⟨congrArg Request.setLimit (readRequest_half v), rfl⟩
  case setConceal k => exact ⟨congrArg (fun b : Byte => Request.setConceal b.toNat) (byteOf_toNat_self k), rfl⟩
  all_goals exact ⟨rfl, rfl⟩

/-! ## Discarded frames (R125, R127, R131) -/

theorem hearFrame_broken {s : State} (h : hearing s = true) (source : Nat) (target : Byte) (hand : State → State) :
    hearFrame false source target hand s = endFrame s := by
  rw [hearFrame, if_pos h]
  rfl

theorem hearFrame_judged {s : State} (h : hearing s = true) (source : Nat) (target : Byte) (hand : State → State) :
    hearFrame true source target hand s = settle (judged source target hand (endFrame s)) := by
  rw [hearFrame, if_pos h, if_pos rfl]

/-- REPLY and REPORT are taken by no block (R127). -/
theorem handOver_none {f : HeardFrame} (h : f.kind = 3 ∨ f.kind = 5) (s : State) : handOver f s = s := by
  unfold handOver
  obtain h | h := h <;> rw [h] <;> rfl

end Sys2Proof.Machine

/-! ## The statements -/

section

open Sys2Proof Sys2Proof.Machine

/-- Settles O32: a frame's line reads back as its bytes, and these are judged as the frame. -/
theorem framesAreHeardAsTheirRows : Obligations.FramesAreHeardAsTheirRows := by
  unfold Obligations.FramesAreHeardAsTheirRows
  refine ⟨fun s hbuffer hcount hown => ⟨?_, ?_, ?_⟩, ?_⟩
  · intro source target body hsource hok
    refine ⟨_, exec_frameLine target hbuffer hcount hown hsource hok, ?_⟩
    show execEdgeNotice source target body s = _
    rw [execEdgeNotice, hok, decide_eq_true hsource]
    rfl
  · intro source target body hsource hlen
    have hok : bodyLengthOk kindLoad body.length = true := by rw [hlen]; rfl
    refine ⟨_, exec_frameLine target hbuffer hcount hown hsource hok, ?_⟩
    show execLoadFrame source target body s = _
    rw [execLoadFrame, hok, decide_eq_true hsource]
    rfl
  · intro c source target r hr hsource
    obtain ⟨hread, hok⟩ := readRequest_requestBody hr
    refine ⟨_, exec_frameLine target hbuffer hcount hown hsource hok, ?_⟩
    have hhand : handOver ⟨kindRequest, source, target, requestBody r⟩ = takeRequest source target r := by
      funext u
      show takeRequest source target (readRequest (requestBody r)) u = _
      rw [hread]
    rw [exec_request hr, hearRequest, decide_eq_true hsource, hhand]
  · intro source target f code clear mode k v
    refine ⟨⟨_, rfl, rfl⟩, ⟨_, rfl, rfl⟩, ⟨_, rfl, rfl⟩, ⟨_, rfl, rfl⟩, ⟨_, rfl, rfl⟩, ⟨_, rfl, rfl⟩, ⟨_, rfl, rfl⟩,
      ⟨_, rfl, ?_⟩, ⟨_, rfl, rfl⟩, ⟨_, rfl, rfl⟩, ⟨_, rfl, rfl⟩⟩
    show [8#8, byteOf k.toNat] = _
    rw [byteOf_toNat_self]

/-- Settles O33, by what the line reads as and how its bytes are judged. -/
theorem badFramesAreDiscarded : Obligations.BadFramesAreDiscarded := by
  unfold Obligations.BadFramesAreDiscarded
  refine ⟨?_, ?_, ?_, ?_, fun s bytes hbuffer hcount => heardFrame_of_empty bytes hbuffer hcount, judgeFrame_cons, bodyLengthOk_iff⟩
  · intro s line hhears hbad
    refine ⟨endFrame s, ?_, frameEnded_endFrame s⟩
    cases hown : s.seam.ownSent with
    | true =>
      show execSeamFrameEnd line s = _
      rw [execSeamFrameEnd, if_pos hown, hearFrame_broken hhears]
    | false =>
      obtain hsent | ⟨bytes, hread, hnone⟩ := hbad
      · exact absurd (hown.symm.trans hsent) Bool.false_ne_true
      · rw [exec_seamFrameEnd_read hown hread, endHeard_of_none hnone, hearFrame_broken hhears]
  · intro s line hhears hown hread
    show execSeamFrameEnd line s = _
    rw [execSeamFrameEnd, if_neg (by rw [hown]; exact Bool.false_ne_true), hread]
    show Host.Outcome.next (frameBroken s) = _
    rw [frameBroken, if_pos hhears]
    rfl
  · intro s line bytes f hhears hown hread hheard hsource hother
    refine ⟨judged f.source f.target (handOver f) (endFrame s), ?_, ?_⟩
    · rw [exec_seamFrameEnd_read hown hread, endHeard_of_some hheard, hearFrame_judged hhears]
    · have htested : ownTested f.source s = s := by rw [ownTested_eq, if_neg hsource]
      rw [judged_eq, htested]
      obtain ⟨hown', hall⟩ | hkind := hother
      · rw [if_neg fun htarget => htarget.elim hown' hall]
        exact frameEnded_endFrame s
      · rw [handOver_none hkind, ite_self]
        exact frameEnded_endFrame s
  · intro s line hdeaf
    exact seamFrameEnd_deaf line hdeaf

end

end

section
/-! PROOF. CLASH from the tile's own source: no item is lost, and nothing more is composed (R114, R115, R132). -/

namespace Sys2Proof.Machine

/-! ## Items that stay pending -/

/-- Every item pending in `s` is pending in `t`. -/
def ItemsGrow (s t : State) : Prop := ∀ it, s.seam.items.has it = true → t.seam.items.has it = true

theorem ItemsGrow.of_same {s t : State} (h : t.seam.items = s.seam.items) : ItemsGrow s t := fun _ hs => by rwa [h]

theorem ItemsGrow.trans {s t u : State} (h : ItemsGrow s t) (h' : ItemsGrow t u) : ItemsGrow s u := fun it hs => h' it (h it hs)

theorem pend_grows (it : Item) (s : State) : ItemsGrow s (pend it s) := fun x hs => by
  rw [pend_has, hs, Bool.or_true]

theorem raiseNotice_grows (s : State) : ItemsGrow s (raiseNotice s) := by
  unfold raiseNotice
  split
  · split <;> exact .of_same rfl
  · exact pend_grows .tileNotice (s.setPort { s.port with notice := true })

theorem postEvent_grows (c : Nat) (cause : Cause) (s : State) : ItemsGrow s (postEvent c cause s) := by
  unfold postEvent
  split
  · exact .of_same rfl
  · split
    · split
      · exact pend_grows .reportHead (s.setPort _)
      · exact .of_same rfl
    · exact .of_same rfl

theorem changeCell_grows (c : Nat) (r : CellRec) (cause : Cause) (s : State) : ItemsGrow s (changeCell c r cause s) :=
  ItemsGrow.trans (t := changeEffects c cause (setCell c r s)) (postEvent_grows c cause (markDirty c (setCell c r s)))
    (.of_same (by simp [changeCell]))

theorem judgeLong_grows (s : State) : ItemsGrow s (judgeLong s) := by
  unfold judgeLong
  split
  · exact .of_same rfl
  · split
    · exact pend_grows .longReply (s.setPort _)
    · exact .of_same rfl

theorem answer_grows {s t : State} (source : Nat) (r : Request) (result : ReplyResult) (body : ReplyBody) (h : ItemsGrow s t) :
    ItemsGrow s (answer source r result body t) := h.trans (pend_grows .immediateReply (t.setPort _))

theorem carryForce_grows (c : Nat) (st : CellState) (s : State) : ItemsGrow s (carryForce c st s) := by
  have hclear : ItemsGrow s (clearTarget c st s) := .of_same (by simp)
  unfold carryForce
  dsimp only
  split
  · exact hclear
  · exact hclear.trans (changeCell_grows _ _ _ _)

theorem carryOut_grows (source : Nat) (r : Request) (s : State) : ItemsGrow s (carryOut source r s) := by
  have hsame : ItemsGrow s s := .of_same rfl
  have hanswer : ∀ result body, ItemsGrow s (answer source r result body s) := fun _ _ => answer_grows _ _ _ _ hsame
  cases r with
  | status => exact hanswer _ _
  | readCell f => show ItemsGrow s (doReadCell _ _ f s); unfold doReadCell; split <;> exact hanswer _ _
  | listFaults n => show ItemsGrow s (doListFaults _ _ n s); unfold doListFaults; split <;> exact hanswer _ _
  | force f code clear =>
    show ItemsGrow s (doForce _ _ f code clear s)
    unfold doForce
    split
    · exact hanswer _ _
    · exact hanswer _ _
    · split
      · exact hanswer _ _
      · exact answer_grows _ _ _ _ (carryForce_grows _ _ s)
  | release f =>
    show ItemsGrow s (doRelease _ _ f s)
    unfold doRelease
    split
    · exact hanswer _ _
    · refine answer_grows _ _ _ _ ?_
      unfold carryRelease
      split
      · exact changeCell_grows _ _ _ s
      · exact hsame
  | setGain f mode code =>
    show ItemsGrow s (doSetGain _ _ f mode code s)
    unfold doSetGain
    split
    · exact hanswer _ _
    · refine answer_grows _ _ _ _ ?_
      unfold carrySetGain
      dsimp only
      split
      · exact hsame
      · exact changeCell_grows _ _ _ s
  | probe f =>
    show ItemsGrow s (doProbe _ _ f s)
    unfold doProbe
    split
    · exact hanswer _ _
    · split
      · exact hanswer _ _
      · split
        · exact answer_grows _ _ _ _ (.of_same rfl)
        · exact hanswer _ _
  | setConceal k => exact answer_grows _ _ _ _ (.of_same (by simp))
  | setLimit v => exact answer_grows _ _ _ _ (.of_same (by simp))
  | unknown _ => exact hsame
  | commit => exact hsame
  | restart => exact hsame

theorem takeRequest_grows (source : Nat) (target : Byte) (r : Request) (s : State) : ItemsGrow s (takeRequest source target r s) := by
  have hsame : ItemsGrow s s := .of_same rfl
  unfold takeRequest
  split
  · split
    · exact hsame
    · refine ItemsGrow.trans ?_ (judgeLong_grows _)
      exact .of_same rfl
  · split
    · exact hsame
    · exact answer_grows _ _ _ _ hsame
  · split
    · exact hsame
    · exact carryOut_grows _ _ s

/-- What an owner does with a frame loses no item. -/
theorem handOver_grows (f : HeardFrame) (s : State) : ItemsGrow s (handOver f s) := by
  have hsame : ItemsGrow s s := .of_same rfl
  unfold handOver
  split
  · unfold takeEdge
    split
    · exact hsame
    · split
      · exact .of_same (by simp)
      · unfold setMismatch
        split
        · exact hsame
        · refine ItemsGrow.trans ?_ (raiseNotice_grows _)
          exact .of_same rfl
  · exact .of_same (by simp)
  · exact takeRequest_grows _ _ _ s
  · exact hsame

/-! ## The Seam Link Controller behind a hand-off -/

theorem seam_eq {a b : Seam} (hown : a.own = b.own) (hrecv : a.recv = b.recv) (hbuffer : a.buffer = b.buffer)
    (hcount : a.count = b.count) (hline : a.lineBank = b.lineBank) (hnext : a.nextBank = b.nextBank) (htx : a.tx = b.tx)
    (hmismatches : a.mismatches = b.mismatches) (hclash : a.clash = b.clash) (hsent : a.ownSent = b.ownSent) :
    a = { b with items := a.items } := by
  cases a
  cases b
  simp_all

theorem handOver_seam (f : HeardFrame) (s : State) :
    (handOver f s).seam = { s.seam with items := (handOver f s).seam.items } := by
  refine seam_eq ?_ ?_ ?_ ?_ ?_ ?_ ?_ ?_ ?_ ?_ <;> simp

theorem settle_seam_of_clash {s : State} (h : s.seam.clash = true) : (settle s).seam = s.seam := by
  have hseam : (beginWrite s).seam = s.seam := by simp
  have hfill : fillBanks (beginWrite s) = beginWrite s := fillBanks_unmoved (.inl (by rw [hseam, h]))
  rw [settle, hfill, hseam]

end Sys2Proof.Machine

/-! ## The statement -/

section

open Sys2Proof Sys2Proof.Machine

/-- Settles O34: behind the test of R132 the tile is in CLASH, and what the owner does only adds items. -/
theorem ownSourceBringsClash : Obligations.OwnSourceBringsClash := by
  unfold Obligations.OwnSourceBringsClash
  intro s line bytes f hhears hown hread hheard hsource
  have hexec : exec (.seamFrameEnd line) s =
      .next (settle (judged f.source f.target (handOver f) (endFrame s))) := by
    rw [exec_seamFrameEnd_read hown hread, endHeard_of_some hheard, hearFrame_judged hhears]
  have htested : ownTested f.source s = enterClash s := by rw [ownTested_eq, if_pos hsource]
  have hclash : (endFrame (enterClash s)).seam.clash = true := by
    cases h : s.seam.clash with
    | true => rw [enterClash_of_set h]; exact h
    | false => rw [enterClash_of_clear h]; rfl
  have hitems : (endFrame (enterClash s)).seam.items = s.seam.items := by simp [endFrame]
  have hloadsOwn : f.source = (endFrame (enterClash s)).seam.own := by rw [hsource]; simp [endFrame]
  rw [judged_eq, htested] at hexec
  refine ⟨endFrame (enterClash s), _, hexec, ?_, fun h => ?_, fun h => ?_, fun h => ?_, fun h => if_pos h, fun it hhas => ?_, ?_⟩
  · refine settle_seam_of_clash ?_
    split
    · simpa using hclash
    · exact hclash
  · rw [enterClash_of_set h]
    exact frameEnded_endFrame s
  · rw [enterClash_of_clear h]
    rfl
  · obtain ⟨hnot, hall⟩ | hkind := h
    · exact if_neg fun htarget => htarget.elim hnot hall
    · have hsame : handOver f (endFrame (enterClash s)) = endFrame (enterClash s) := by
        obtain hload | hnone := hkind
        · unfold handOver
          rw [hload]
          exact takeLoad_discards (.inr (.inr (.inl hloadsOwn)))
        · exact handOver_none hnone _
      rw [hsame, ite_self]
  · have hhas : (endFrame (enterClash s)).seam.items.has it = true := hitems ▸ hhas
    split
    · exact handOver_grows f _ it hhas
    · exact hhas
  · split
    · exact handOver_seam f _
    · rfl

end

end

section
/-! PROOF. The seam line and its receiver (R124, R125, R128). -/

namespace Sys2Proof.Machine

/-! ## The line's levels (R124) -/

theorem byteLevels_data (b : Byte) {i : Nat} (h : i < 8) :
    (byteLevels b).getD (i + 1) .recessive = .dominant ↔ b.getLsbD (7 - i) = false := by
  have hget : (byteLevels b).getD (i + 1) .recessive = bitLevel (b.getLsbD (7 - i)) := by
    rw [byteLevels_eq]
    interval_cases i <;> rfl
  rw [hget]
  cases b.getLsbD (7 - i) <;> simp [bitLevel]

/-- Ten bit times behind each other end in a recessive stop bit. -/
theorem frameLevels_stop (bytes : List Byte) (i : Nat) (h : i % 10 = 9) : (frameLevels bytes).getD i .recessive = .recessive := by
  induction bytes generalizing i with
  | nil => rfl
  | cons b bs ih =>
    have hsplit : frameLevels (b :: bs) = byteLevels b ++ frameLevels bs := List.flatMap_cons
    have hlen : (byteLevels b).length = 10 := rfl
    rw [hsplit]
    obtain hlt | hge := Nat.lt_or_ge i 10
    · have hi : i = 9 := by omega
      rw [List.getD_append _ _ _ _ (by rw [hlen]; exact hlt), hi]
      rfl
    · rw [List.getD_append_right _ _ _ _ (by rw [hlen]; exact hge), hlen]
      exact ih (i - 10) (by omega)

theorem drivenLevel_quiet {s : State} (h : s.seam.tx = .quiet ∨ s.seam.lineBank = none) (k : Nat) :
    drivenLevel s k = .recessive := by
  unfold drivenLevel
  obtain h | h := h
  · rw [h]
  · rw [h]; cases s.seam.tx <;> rfl

theorem drivenLevel_attempt {s : State} {c : Composed} (htx : s.seam.tx ≠ .quiet) (hline : s.seam.lineBank = some c) (k : Nat) :
    drivenLevel s k = (frameLevels c.bytes).getD k .recessive := by
  unfold drivenLevel
  rw [hline]
  cases h : s.seam.tx with
  | quiet => exact absurd h htx
  | _ => rfl

/-- Never more than nine dominant bit times in a row. -/
theorem drivenLevel_stops (s : State) (k : Nat) : ∃ j, j ≤ 9 ∧ drivenLevel s (k + j) = .recessive := by
  refine ⟨9 - k % 10, by omega, ?_⟩
  by_cases hquiet : s.seam.tx = .quiet
  · exact drivenLevel_quiet (.inl hquiet) _
  · cases hline : s.seam.lineBank with
    | none => exact drivenLevel_quiet (.inr hline) _
    | some c =>
      rw [drivenLevel_attempt hquiet hline]
      exact frameLevels_stop _ _ (by omega)

theorem sum_ns_frameLine (bytes : List Byte) : ((frameLine bytes).map (fun r => r.ns)).sum = 20000 * bytes.length := by
  have hall : (frameLine bytes).map (fun r => r.ns) = List.replicate (10 * bytes.length) 2000 := by
    refine List.eq_replicate_iff.mpr ⟨by rw [List.length_map]; exact length_serialLine _ _, fun n hn => ?_⟩
    obtain ⟨r, hr, rfl⟩ := List.mem_map.mp hn
    exact serialLine_ns _ _ r hr
  rw [hall, List.sum_replicate, smul_eq_mul]
  ring

theorem wiredLevel_dominant (sent : List Level) : wiredLevel sent = .dominant ↔ .dominant ∈ sent := by
  unfold wiredLevel
  by_cases h : Level.dominant ∈ sent <;> simp [h]

/-! ## The filter (R124) -/

theorem dominantFor_append (l : List LineRun) (x : Nat) (rest : List LineRun) :
    dominantFor (l ++ ⟨.recessive, x⟩ :: rest) = dominantFor l := by
  induction l with
  | nil => rfl
  | cons r l ih =>
    obtain ⟨_ | _, n⟩ := r
    · exact congrArg (n + ·) ih
    · rfl

/-- A recessive stretch parts what the filter does before it from what it does behind it. -/
theorem filterFrom_append (k : Nat) (l : List LineRun) (x : Nat) (rest : List LineRun) :
    filterFrom k (l ++ ⟨.recessive, x⟩ :: rest) = filterFrom k l ++ ⟨.recessive, x⟩ :: filterFrom 0 rest := by
  induction l generalizing k with
  | nil => rfl
  | cons r l ih =>
    obtain ⟨_ | _, n⟩ := r
    · rw [List.cons_append, filterFrom, dominantFor_append, ih, filterFrom]
      rfl
    · rw [List.cons_append, filterFrom, ih, filterFrom]
      rfl

/-- A pulse between two recessive stretches, as the receiver sees it. -/
theorem filteredLine_pulse (before after : List LineRun) (level : Level) {x n y : Nat} (hx : 0 < x) (hn : 0 < n) (hy : 0 < y) :
    filteredLine (before ++ ⟨.recessive, x⟩ :: ⟨level, n⟩ :: ⟨.recessive, y⟩ :: after) =
      filterFrom 0 (realRuns before) ++ ⟨.recessive, x⟩ ::
        ⟨if level = .dominant ∧ 1000 ≤ n then .dominant else .recessive, n⟩ :: ⟨.recessive, y⟩ ::
          filterFrom 0 (realRuns after) := by
  have hreal : realRuns (before ++ ⟨.recessive, x⟩ :: ⟨level, n⟩ :: ⟨.recessive, y⟩ :: after) =
      realRuns before ++ ⟨.recessive, x⟩ :: ⟨level, n⟩ :: ⟨.recessive, y⟩ :: realRuns after := by
    rw [realRuns_append]
    simp [realRuns, hx, hn, hy]
  rw [filteredLine, hreal, filterFrom_append]
  cases level with
  | recessive => rfl
  | dominant =>
    have hpulse : (if 0 + n + dominantFor (⟨.recessive, y⟩ :: realRuns after) < Config.glitchNs then Level.recessive else .dominant) =
        if Level.dominant = .dominant ∧ 1000 ≤ n then .dominant else .recessive := by
      show (if 0 + n + 0 < 1000 then Level.recessive else .dominant) = _
      by_cases h : 1000 ≤ n
      · rw [if_neg (by omega), if_pos ⟨rfl, h⟩]
      · rw [if_pos (by omega), if_neg fun hc => h hc.2]
    rw [filterFrom, hpulse, filterFrom]

theorem filteredLine_glitch (before after : List LineRun) {x n y : Nat} (hx : 0 < x) (hy : 0 < y) (hn : n < 1000) :
    filteredLine (before ++ ⟨.recessive, x⟩ :: ⟨.dominant, n⟩ :: ⟨.recessive, y⟩ :: after) =
      filteredLine (before ++ ⟨.recessive, x⟩ :: ⟨.recessive, n⟩ :: ⟨.recessive, y⟩ :: after) := by
  obtain rfl | hpos := Nat.eq_zero_or_pos n
  · unfold filteredLine
    refine congrArg (filterFrom 0) ?_
    rw [realRuns_append, realRuns_append]
    rfl
  · rw [filteredLine_pulse before after .dominant hx hpos hy, filteredLine_pulse before after .recessive hx hpos hy,
      if_neg fun h => absurd h.2 (by omega), if_neg fun h => Level.noConfusion h.1]

/-! ## LINE_IDLE, FRAMING_ERROR and CONTENTION_START (R125, R128) -/

theorem exec_lineIdle (s : State) (us : Nat) :
    exec (.lineIdle us) s =
      .next (if s.seam.recv = .waitIdle ∧ 24 ≤ us then { s with seam := { s.seam with recv := .idle } } else s) := by
  show execLineIdle us s = _
  unfold execLineIdle
  split
  · next hwait =>
    split
    · next hshort => rw [if_neg fun h => absurd hshort (Nat.not_lt.mpr h.2)]
    · next hlong => rw [if_pos ⟨hwait, Nat.not_lt.mp hlong⟩]; rfl
  · next hother => rw [if_neg fun h => hother h.1]

theorem hearing_iff (s : State) : hearing s = true ↔ s.seam.recv = .idle ∨ s.seam.recv = .inFrame := by simp [hearing]

theorem exec_framingError (s : State) :
    exec .framingError s =
      .next (if s.seam.recv = .idle ∨ s.seam.recv = .inFrame then
          { s with seam := { s.seam with recv := .waitIdle, buffer := [], count := 0, ownSent := false } }
        else s) := by
  show Host.Outcome.next (frameBroken s) = _
  unfold frameBroken
  by_cases h : hearing s = true
  · rw [if_pos h, if_pos ((hearing_iff s).mp h)]; rfl
  · rw [if_neg h, if_neg fun hr => h ((hearing_iff s).mpr hr)]

theorem edgeSeen_iff (ns : Nat) (s : State) :
    edgeSeen ns s = true ↔ 1000 ≤ ns ∧ (s.seam.recv = .idle ∨ s.seam.recv = .inFrame ∧ s.seam.ownSent = true) := by
  simp only [edgeSeen, Bool.and_eq_true, Bool.or_eq_true, decide_eq_true_eq]
  rfl

theorem joins_iff (s : State) : joins s = true ↔ s.seam.lineBank ≠ none ∧ s.seam.clash = false := by
  simp [joins, Option.isSome_iff_ne_none]

theorem exec_contentionStart_seen {s : State} {ns : Nat} (h : edgeSeen ns s = true) :
    exec (.contentionStart ns) s =
      .next { s with
        seam :=
          { s.seam with
            recv := .inFrame
            buffer := []
            count := 0
            ownSent := false
            tx := if s.seam.lineBank ≠ none ∧ s.seam.clash = false then .contending else s.seam.tx } } := by
  have htx : (if joins s then TxState.contending else s.seam.tx) =
      if s.seam.lineBank ≠ none ∧ s.seam.clash = false then .contending else s.seam.tx := if_congr (joins_iff s) rfl rfl
  show execContentionStart s ns = _
  rw [execContentionStart, if_pos h, htx]
  rfl

theorem exec_contentionStart_unseen {s : State} {ns : Nat} (h : edgeSeen ns s = false) : exec (.contentionStart ns) s = .next s := by
  show execContentionStart s ns = _
  rw [execContentionStart, if_neg (by rw [h]; exact Bool.false_ne_true)]

end Sys2Proof.Machine

/-! ## The statement -/

section

open Sys2Proof Sys2Proof.Machine

/-- Settles O35. -/
theorem lineIsFollowed : Obligations.LineIsFollowed := by
  unfold Obligations.LineIsFollowed
  refine ⟨exec_lineIdle, exec_framingError, ?_, ?_, fun b => ⟨rfl, rfl, rfl, fun i hi => byteLevels_data b hi⟩,
    fun bytes => ⟨readLine_frameLine bytes, sum_ns_frameLine bytes⟩, ?_, wiredLevel_dominant, ?_⟩
  · intro s ns hlong hrecv
    exact exec_contentionStart_seen ((edgeSeen_iff ns s).mpr ⟨hlong, hrecv⟩)
  · intro s ns hnot
    refine exec_contentionStart_unseen ?_
    rw [Bool.eq_false_iff, Ne, edgeSeen_iff]
    rintro ⟨hlong, hrecv⟩
    obtain hshort | hoff | hwait | ⟨hin, hown⟩ := hnot
    · omega
    · obtain h | ⟨h, -⟩ := hrecv <;> cases hoff.symm.trans h
    · obtain h | ⟨h, -⟩ := hrecv <;> cases hwait.symm.trans h
    · obtain h | ⟨-, h⟩ := hrecv
      · cases hin.symm.trans h
      · cases hown.symm.trans h
  · intro s k
    exact ⟨fun hquiet => drivenLevel_quiet hquiet k, fun c htx hline => drivenLevel_attempt htx hline k, drivenLevel_stops s k⟩
  · intro before after x n y hx hy
    refine ⟨fun hshort => filteredLine_glitch before after hx hy hshort, fun hlong => ?_⟩
    show (⟨.dominant, n⟩ : LineRun) ∈ filteredLine (before ++ ⟨.recessive, x⟩ :: ⟨.dominant, n⟩ :: ⟨.recessive, y⟩ :: after)
    rw [filteredLine_pulse before after .dominant hx (by omega) hy, if_pos ⟨rfl, hlong⟩]
    simp

end

end

section
/-! PROOF. The ends of an attempt (R114, R129, R130, R132, R136), and a break (R108, R112, R116, R126). -/

namespace Sys2Proof.Machine

/-! ## Recomposition (R136) -/

/-- The composition of an item other than a LOAD into the line bank. -/
theorem composeLine_eq {it : Item} (h : it ≠ .load) (s : State) :
    composeLine it s =
      { s with
        port := portFilled s (fun x => decide (it = x))
        seam := { s.seam with lineBank := some (frameOf s it) } } := by
  rw [← afterCompose_port]
  cases it with
  | load => exact absurd rfl h
  | _ => rfl

theorem recompose_of_some {s : State} {b : Composed} (hline : s.seam.lineBank = some b) (h : b.item ≠ .load) :
    recompose s =
      { s with
        port := portFilled s (fun x => decide (b.item = x))
        seam := { s.seam with lineBank := some (frameOf s b.item) } } := by
  rw [recompose, hline]
  show composeLine b.item (giveBackIf (decide (b.item = .load)) s) = _
  rw [decide_eq_false h]
  exact composeLine_eq h s

/-- A LOAD is recomposed from the peak given back (R114). -/
theorem recompose_of_load {s : State} {b : Composed} (hline : s.seam.lineBank = some b) (h : b.item = .load) :
    recompose s =
      { s with
        drive := { s.drive with peak := 0 }
        gov := { s.gov with carried := some (max s.drive.peak (s.gov.carried.getD 0)) }
        seam :=
          { s.seam with
            lineBank :=
              some ⟨.load, none,
                frameBytes 2 s.seam.own 31
                  (byteOf s.seam.own ::
                    (bytes16 (max s.drive.peak (s.gov.carried.getD 0)) ++ bytes16 s.gov.factor ++ bytes16 (countState s .hole) ++
                      [flagByte s.gov.overFlag]))⟩ } } := by
  rw [recompose, hline]
  show composeLine b.item (giveBackIf (decide (b.item = .load)) s) = _
  rw [h]
  rfl

/-- What composition makes of a port, spelled out by the item. -/
theorem portFilled_item (s : State) (it : Item) :
    portFilled s (fun x => decide (it = x)) =
      { s.port with
        long := if it = .longReply then s.port.long.map (fixReply s) else s.port.long
        immediate := if it = .immediateReply then s.port.immediate.map (fixReply s) else s.port.immediate
        reraise := s.port.reraise && decide (it ≠ .tileNotice)
        queue := if it = .reportHead then clearUpdated s.port.queue else s.port.queue } := by
  unfold portFilled
  simp only [decide_eq_true_eq, decide_not]

/-! ## The ends of an attempt (R129, R130) -/

/-- The attempt's end, with the mismatch count `m`. -/
def attemptEnded (m : Nat) (s : State) : State := s.setSeam { s.seam with tx := .quiet, mismatches := m }

theorem attemptEnded_content (m : Nat) (s : State) : SameContent s (attemptEnded m s) := by constructor <;> rfl

theorem exec_arbitrationLoss {s : State} (h : s.seam.tx = .contending) :
    exec .arbitrationLoss s = .next (recompose (attemptEnded s.seam.mismatches s)) := by
  show execArbitrationLoss s = _
  rw [execArbitrationLoss, h]
  rfl

theorem exec_readbackAbort {s : State} (h : s.seam.tx ≠ .quiet) : exec .readbackAbort s = .next (abortAttempt s) := by
  show execReadbackAbort s = _
  unfold execReadbackAbort
  split
  · next hq => exact absurd hq h
  · rfl

theorem abortAttempt_below {s : State} (h : s.seam.mismatches < 2) :
    abortAttempt s = recompose (attemptEnded (s.seam.mismatches + 1) s) :=
  if_pos (show s.seam.mismatches + 1 < 3 by omega)

theorem abortAttempt_third {s : State} (h : s.seam.mismatches = 2) : abortAttempt s = enterClash (attemptEnded 3 s) := by
  have hthird : ¬s.seam.mismatches + 1 < 3 := by omega
  have habort : abortAttempt s = enterClash (attemptEnded (s.seam.mismatches + 1) s) := if_neg hthird
  rw [habort, h]

/-- An attempt that ends leaves its frame recomposed in its bank (R136). -/
theorem recompose_attemptEnded {s : State} {b : Composed} (m : Nat) (hline : s.seam.lineBank = some b) :
    let t := recompose (attemptEnded m s)
    t.seam = { s.seam with tx := .quiet, mismatches := m, lineBank := t.seam.lineBank } ∧
      (b.item ≠ .load → t.seam.lineBank = some (frameOf s b.item) ∧ t.drive = s.drive ∧ t.gov = s.gov) ∧
      (b.item = .load →
        let p := max s.drive.peak (s.gov.carried.getD 0)
        t.drive = { s.drive with peak := 0 } ∧ t.gov = { s.gov with carried := some p } ∧
          t.seam.lineBank =
            some ⟨.load, none,
              frameBytes 2 s.seam.own 31
                (byteOf s.seam.own ::
                  (bytes16 p ++ bytes16 s.gov.factor ++ bytes16 (countState s .hole) ++ [flagByte s.gov.overFlag]))⟩) ∧
      t = { s with seam := t.seam, drive := t.drive, gov := t.gov, port := t.port } ∧
      t.port =
        { s.port with
          long := if b.item = .longReply then s.port.long.map (fixReply s) else s.port.long
          immediate := if b.item = .immediateReply then s.port.immediate.map (fixReply s) else s.port.immediate
          reraise := s.port.reraise && decide (b.item ≠ .tileNotice)
          queue := if b.item = .reportHead then clearUpdated s.port.queue else s.port.queue } := by
  have hline' : (attemptEnded m s).seam.lineBank = some b := hline
  have hcontent := attemptEnded_content m s
  by_cases hload : b.item = .load
  · intro t
    have ht : t = _ := recompose_of_load hline' hload
    rw [ht]
    refine ⟨rfl, fun h => absurd hload h, fun _ => ⟨rfl, rfl, rfl⟩, rfl, ?_⟩
    rw [hload]
    simp
    rfl
  · intro t
    have ht : t = _ := recompose_of_some hline' hload
    rw [ht, portFilled_item, hcontent.fixReply, hcontent.frameOf b.item (fun _ => rfl) (fun _ => rfl) fun _ => rfl]
    exact ⟨rfl, fun _ => ⟨rfl, rfl, rfl⟩, fun h => absurd h hload, rfl, rfl⟩

end Sys2Proof.Machine

/-! ## The statement on the ends of an attempt -/

section

open Sys2Proof Sys2Proof.Machine

/-- Settles O36, by the item of the line bank's frame. -/
theorem attemptsEnd : Obligations.AttemptsEnd := by
  unfold Obligations.AttemptsEnd
  refine ⟨?_, ?_, ?_, ?_, ?_⟩
  · intro s
    show execArbitrationWon s = _
    unfold execArbitrationWon
    split
    · next h => rw [if_pos h]; rfl
    · next h => rw [if_neg h]
  · intro s h
    show execArbitrationLoss s = _
    unfold execArbitrationLoss
    split
    · next hc => exact absurd hc h
    · rfl
  · intro s h
    show execReadbackAbort s = _
    rw [execReadbackAbort, h]
  · intro s c b m hend hline _
    refine ⟨recompose (attemptEnded m s), ?_, recompose_attemptEnded m hline⟩
    obtain ⟨rfl, htx, rfl⟩ | ⟨rfl, htx, hlow, rfl⟩ := hend
    · exact exec_arbitrationLoss htx
    · rw [exec_readbackAbort htx, abortAttempt_below hlow]
  · intro s htx hcount hclash hcarried
    have hclear : (attemptEnded 3 s).seam.clash = false := hclash
    have hcomposed : isComposed (attemptEnded 3 s) .load = s.gov.carried.isSome := hcarried.symm
    rw [exec_readbackAbort htx, abortAttempt_third hcount, enterClash_of_clear hclear, hcomposed]
    cases hc : s.gov.carried with
    | some p => simp [attemptEnded, hc]
    | none => simp [attemptEnded, hc]

end

end

section
/-! PROOF. A break (R108, R112, R114, R116, R126, R136). -/

namespace Sys2Proof.Machine

/-! ## The hand-offs of a break -/

/-- The break's work before the attempt's frame is recomposed. -/
def breakHanded (s : State) : State := breakConceal (breakGovernor (breakSeam s))

theorem breakWork_eq (s : State) : breakWork s = breakAttempt (decide (s.seam.tx ≠ .quiet)) (breakHanded s) := rfl

theorem breakGovernor_eq (s : State) :
    breakGovernor s =
      { s with
        gov := { s.gov with peers := [] }
        seam :=
          { s.seam with
            items :=
              { s.seam.items with
                load := s.seam.items.load || (decide (s.sup.state = .running) && !s.sup.findings.strapFault) } } } := by
  show (if decide (s.sup.state = .running) then pendLoad (s.setGov { s.gov with peers := [] })
    else s.setGov { s.gov with peers := [] }) = _
  cases hrun : decide (s.sup.state = .running) with
  | true => rw [if_pos rfl, pendLoad_eq, pendLoad_load, Bool.true_and]; rfl
  | false => rw [if_neg Bool.false_ne_true, Bool.false_and, Bool.or_false]; rfl

/-- The far-edge records behind a break, with one trigger for all that were VALID (R108). -/
def farForgotten (s : State) : State :=
  triggerIf (allEdges.any fun e => (s.conceal.far.get e).valid)
    (s.setConceal { s.conceal with far := PerEdge.build fun e => invalidate (s.conceal.far.get e) })

theorem farForgotten_far (s : State) (e : Edge) :
    (farForgotten s).conceal.far.get e = { s.conceal.far.get e with valid := false } := by
  have hfar : (farForgotten s).conceal.far = PerEdge.build fun e => invalidate (s.conceal.far.get e) := by simp [farForgotten]
  rw [hfar, get_build]
  rfl

theorem anyValid_iff (far : PerEdge FarEdge) : (allEdges.any fun e => (far.get e).valid) = true ↔ ∃ e, (far.get e).valid = true := by
  rw [List.any_eq_true]
  constructor
  · rintro ⟨e, -, h⟩
    exact ⟨e, h⟩
  · rintro ⟨e, h⟩
    exact ⟨e, by cases e <;> decide, h⟩

theorem farForgotten_triggers (s : State) :
    ((∃ e, (s.conceal.far.get e).valid = true) →
        Triggered { s.conceal with far := (farForgotten s).conceal.far } (farForgotten s)) ∧
      ((∀ e, (s.conceal.far.get e).valid = false) → (farForgotten s).conceal = s.conceal) := by
  have hfar : (farForgotten s).conceal.far = PerEdge.build fun e => invalidate (s.conceal.far.get e) := by simp [farForgotten]
  obtain ⟨hkept, htriggered⟩ := triggerIf_conceal (allEdges.any fun e => (s.conceal.far.get e).valid)
    (s.setConceal { s.conceal with far := PerEdge.build fun e => invalidate (s.conceal.far.get e) })
  refine ⟨fun hany => ?_, fun hnone => ?_⟩
  · rw [hfar]
    exact htriggered ((anyValid_iff _).mpr hany)
  · have hno : (allEdges.any fun e => (s.conceal.far.get e).valid) = false := by
      rw [Bool.eq_false_iff, Ne, anyValid_iff]
      rintro ⟨e, he⟩
      exact Bool.false_ne_true ((hnone e).symm.trans he)
    have hsame : PerEdge.build (fun e => invalidate (s.conceal.far.get e)) = s.conceal.far := by
      have hone : ∀ r : FarEdge, r.valid = false → invalidate r = r := fun r hr => by rw [invalidate, ← hr]
      have hget : (fun e => invalidate (s.conceal.far.get e)) = s.conceal.far.get := funext fun e => hone _ (hnone e)
      rw [hget]
      rfl
    have hconceal := hkept hno
    rw [hsame] at hconceal
    rw [farForgotten, hsame]
    exact hconceal

theorem farForgotten_eq (s : State) : farForgotten s = { s with conceal := (farForgotten s).conceal } := triggerIf_eq _ _

theorem breakConceal_eq (s : State) :
    breakConceal s =
      { s with
        conceal := (farForgotten s).conceal
        seam := { s.seam with items := { s.seam.items with edges := (breakConceal s).seam.items.edges } } } := by
  have hsplit : breakConceal s =
      if decide (s.sup.state = .running) then pendEdges (fun _ => true) (farForgotten s) else farForgotten s := rfl
  cases hrun : decide (s.sup.state = .running) with
  | true => rw [hsplit, hrun, if_pos rfl, pendEdges_eq, farForgotten_eq]
  | false => rw [hsplit, hrun, if_neg Bool.false_ne_true, farForgotten_eq]

theorem breakConceal_edges (s : State) (e : Edge) :
    (breakConceal s).seam.items.edges.get e =
      (s.seam.items.edges.get e || (decide (s.sup.state = .running) && (s.conceal.far.get e).present)) := by
  have hsplit : breakConceal s =
      if decide (s.sup.state = .running) then pendEdges (fun _ => true) (farForgotten s) else farForgotten s := rfl
  have hedges : (farForgotten s).seam.items.edges = s.seam.items.edges := by rw [farForgotten_eq]
  cases hrun : decide (s.sup.state = .running) with
  | true => rw [hsplit, hrun, if_pos rfl, pendEdges_edges, hedges, farForgotten_far, Bool.and_true, Bool.true_and]
  | false => rw [hsplit, hrun, if_neg Bool.false_ne_true, hedges, Bool.false_and, Bool.or_false]

/-- A trigger reads the Concealment Unit and the cells alone (R97). -/
theorem triggerIf_conceal_congr {s t : State} (b : Bool) (hconceal : t.conceal = s.conceal) (hmap : t.map = s.map) :
    (triggerIf b t).conceal = (triggerIf b s).conceal := by
  cases b with
  | false => exact hconceal
  | true =>
    show (trigger t).conceal = (trigger s).conceal
    unfold trigger
    rw [hconceal]
    split
    · show { t.conceal with rebuild := Rebuild.running ⟨tmap isHole t.map.cells, t.conceal.far, t.conceal.k⟩ } = _
      rw [hconceal, hmap]
      rfl
    · rfl
    · rfl

/-- The tile behind the hand-offs of a break. -/
theorem breakHanded_eq (s : State) :
    breakHanded s =
      { s with
        conceal := (farForgotten s).conceal
        gov := { s.gov with peers := [] }
        seam :=
          { s.seam with
            recv := .waitIdle
            buffer := []
            count := 0
            ownSent := false
            tx := .quiet
            clash := false
            mismatches := 0
            items :=
              { s.seam.items with
                edges := (breakHanded s).seam.items.edges
                load := s.seam.items.load || (decide (s.sup.state = .running) && !s.sup.findings.strapFault) } } } := by
  have hforgets : ∀ v : State, v.conceal = s.conceal → v.map = s.map → (farForgotten v).conceal = (farForgotten s).conceal := by
    intro v hconceal hmap
    unfold farForgotten
    rw [hconceal]
    exact triggerIf_conceal_congr _ rfl hmap
  rw [breakHanded, breakConceal_eq, hforgets (breakGovernor (breakSeam s)) (by simp) (by simp), breakGovernor_eq]
  rfl

theorem breakHanded_edges (s : State) (e : Edge) :
    (breakHanded s).seam.items.edges.get e =
      (s.seam.items.edges.get e || (decide (s.sup.state = .running) && (s.conceal.far.get e).present)) := by
  have hgov := breakGovernor_eq (breakSeam s)
  rw [breakHanded, breakConceal_edges, hgov]
  rfl

/-- A reply whose content is fixed stays as it is (R136, R156). -/
theorem fixReply_of_fixed {s : State} {r : Reply} (h : r.fixed ≠ none) : fixReply s r = r := by
  obtain ⟨b, hb⟩ := Option.ne_none_iff_exists'.mp h
  have hbytes : replyBytes s r = b := by rw [replyBytes, hb]
  rw [fixReply, hbytes, ← hb]

/-! ## BREAK (R126) -/

theorem exec_breakSeen {s : State} {us : Nat} (hlong : 1000 ≤ us) (hrecv : s.seam.recv ≠ .off) :
    exec (.breakSeen us) s = .next (fillBanks (breakWork s)) := by
  have hshort : ¬us < Config.breakUs := Nat.not_lt.mpr hlong
  show execBreakSeen us s = _
  rw [execBreakSeen, decide_eq_false hshort, decide_eq_false hrecv]
  rfl

theorem exec_breakSeen_none {s : State} {us : Nat} (h : us < 1000 ∨ s.seam.recv = .off) : exec (.breakSeen us) s = .next s := by
  show execBreakSeen us s = _
  refine if_pos ?_
  rw [Bool.or_eq_true, decide_eq_true_eq, decide_eq_true_eq]
  exact h

/-- With no attempt on the line, or none to recompose, the break's work is its hand-offs. -/
theorem breakWork_of_quiet {s : State} (h : s.seam.tx = .quiet ∨ s.seam.lineBank = none) : breakWork s = breakHanded s := by
  rw [breakWork_eq]
  obtain hquiet | hnone := h
  · rw [decide_eq_false (fun h => h hquiet)]
    rfl
  · have hline : (breakHanded s).seam.lineBank = none := by rw [breakHanded_eq]; exact hnone
    cases decide (s.seam.tx ≠ .quiet)
    · rfl
    · exact recompose_of_none hline

theorem breakWork_of_attempt {s : State} (h : s.seam.tx ≠ .quiet) : breakWork s = recompose (breakHanded s) := by
  rw [breakWork_eq, decide_eq_true h]
  rfl

/-- The recomposition of a break touches the line bank, the peak, the carried peak and the port alone. -/
theorem breakWork_frame (s : State) :
    breakWork s =
      { breakHanded s with
        seam := { (breakHanded s).seam with lineBank := (breakWork s).seam.lineBank }
        drive := (breakWork s).drive
        gov := (breakWork s).gov
        port := (breakWork s).port } := by
  by_cases hquiet : s.seam.tx = .quiet
  · rw [breakWork_of_quiet (.inl hquiet)]
  · rw [breakWork_of_attempt hquiet]
    cases hline : (breakHanded s).seam.lineBank with
    | none => rw [recompose_of_none hline]
    | some b =>
      by_cases hload : b.item = .load
      · rw [recompose_of_load hline hload]
      · rw [recompose_of_some hline hload]

/-- The frame of an attempt behind a break (R136). -/
theorem breakWork_recomposes {s : State} {b : Composed} (htx : s.seam.tx ≠ .quiet) (hline : s.seam.lineBank = some b) :
    let u := breakWork s
    (b.item ≠ .load →
      u.seam.lineBank = some (frameOf { s with gov := u.gov, conceal := u.conceal } b.item) ∧ u.drive = s.drive ∧
        u.gov = { s.gov with peers := [] }) ∧
      (b.item = .load →
        let p := max s.drive.peak (s.gov.carried.getD 0)
        u.drive = { s.drive with peak := 0 } ∧ u.gov = { s.gov with peers := [], carried := some p } ∧
          u.seam.lineBank =
            some ⟨.load, none,
              frameBytes 2 s.seam.own 31
                (byteOf s.seam.own ::
                  (bytes16 p ++ bytes16 s.gov.factor ++ bytes16 (countState s .hole) ++ [flagByte s.gov.overFlag]))⟩) ∧
      u.port =
        { s.port with
          long := if b.item = .longReply then u.port.long else s.port.long
          immediate := if b.item = .immediateReply then u.port.immediate else s.port.immediate
          reraise := s.port.reraise && decide (b.item ≠ .tileNotice)
          queue := if b.item = .reportHead then clearUpdated s.port.queue else s.port.queue } ∧
      (∀ r, s.port.long = some r → r.fixed ≠ none → u.port.long = some r) ∧
      (∀ r, s.port.immediate = some r → r.fixed ≠ none → u.port.immediate = some r) := by
  have hhanded := breakHanded_eq s
  have hbank : (breakHanded s).seam.lineBank = some b := by rw [hhanded]; exact hline
  have hdrive : (breakHanded s).drive = s.drive := by rw [hhanded]
  have hgov : (breakHanded s).gov = { s.gov with peers := [] } := by rw [hhanded]
  have hport : (breakHanded s).port = s.port := by rw [hhanded]
  have hmap : (breakHanded s).map = s.map := by rw [hhanded]
  have hown : (breakHanded s).seam.own = s.seam.own := by rw [hhanded]
  have hcount : countState (breakHanded s) .hole = countState s .hole := by rw [countState, hmap]; rfl
  have hcontent : SameContent { s with gov := (breakHanded s).gov, conceal := (breakHanded s).conceal } (breakHanded s) := by
    constructor <;> rw [hhanded]
  intro u
  have hu : u = _ := breakWork_of_attempt htx
  by_cases hload : b.item = .load
  · rw [recompose_of_load hbank hload, hcount, hdrive, hgov, hown] at hu
    rw [hu]
    refine ⟨fun h => absurd hload h, fun _ => ⟨rfl, rfl, rfl⟩, ?_, fun r hr _ => ?_, fun r hr _ => ?_⟩
    · rw [hload]
      simp [hport]
    · exact (congrArg Port.long hport).trans hr
    · exact (congrArg Port.immediate hport).trans hr
  · rw [recompose_of_some hbank hload, portFilled_item, hport] at hu
    have hlineBank : u.seam.lineBank = some (frameOf (breakHanded s) b.item) := by rw [hu]
    have hgov' : u.gov = (breakHanded s).gov := by rw [hu]
    have hconceal' : u.conceal = (breakHanded s).conceal := by rw [hu]
    refine ⟨fun _ => ⟨?_, ?_, ?_⟩, fun h => absurd h hload, ?_, fun r hr hfixed => ?_, fun r hr hfixed => ?_⟩
    · rw [hlineBank, hgov', hconceal']
      refine congrArg some (hcontent.frameOf b.item (fun _ => ?_) (fun _ => ?_) fun _ => ?_)
      · rw [hdrive]
      · rw [hport]
      · rw [hport]
    · rw [hu]; exact hdrive
    · rw [hgov', hgov]
    · rw [hu]
      dsimp only
      split <;> split <;> simp
    · rw [hu]
      dsimp only
      rw [hr, Option.map_some, fixReply_of_fixed hfixed, ite_self]
    · rw [hu]
      dsimp only
      rw [hr, Option.map_some, fixReply_of_fixed hfixed, ite_self]

end Sys2Proof.Machine

/-! ## The statement -/

section

open Sys2Proof Sys2Proof.Machine

/-- Settles O39: the hand-offs of the break, and then the frame of an attempt recomposed. -/
theorem breakForgetsTheNeighbours : Obligations.BreakForgetsTheNeighbours := by
  unfold Obligations.BreakForgetsTheNeighbours
  refine ⟨fun s us hlong hrecv => ⟨breakWork s, exec_breakSeen hlong hrecv, ?_⟩, fun s us h => exec_breakSeen_none h⟩
  have hhanded := breakHanded_eq s
  have hwork := breakWork_frame s
  have hedges := breakHanded_edges s
  obtain ⟨htriggered, hkept⟩ := farForgotten_triggers s
  have hconceal : (breakWork s).conceal = (farForgotten s).conceal := by rw [hwork, hhanded]
  have hcells : (breakWork s).map.cells = (farForgotten s).map.cells := by rw [hwork, hhanded, farForgotten_eq]
  have hitems : (breakWork s).seam.items = (breakHanded s).seam.items := by rw [hwork]
  refine ⟨?_, fun e => ?_, ?_, fun e => ?_, fun hany => ?_, fun hnone => ?_, fun hquiet => ?_,
    fun b htx hline => breakWork_recomposes htx hline, ?_, ?_, ?_, ?_, ?_, ?_, ?_⟩
  · rw [hwork, hhanded]
  · rw [hitems]; exact hedges e
  · rw [hitems, hhanded]
  · rw [hconceal]; exact farForgotten_far s e
  · rw [hconceal]; exact (htriggered hany).congr hconceal hcells
  · rw [hconceal]; exact hkept hnone
  · rw [breakWork_of_quiet hquiet, hhanded]
    exact ⟨rfl, rfl⟩
  · rw [hwork, hhanded]
  · rw [hwork, hhanded]
  · rw [hwork, hhanded]
  · rw [hwork, hhanded]
  · rw [hwork, hhanded]
  · rw [hwork, hhanded]
  · rw [hwork, hhanded]

end

end

section
/-! PROOF. The completion of a frame: the banks move up, and the owner of its item acts (R102, R114, R131, R156, R164, R165). -/

namespace Sys2Proof.Machine

/-! ## FRAME_COMPLETE (R131) -/

theorem exec_frameComplete {s : State} {b : Composed} (pins : Pins) (htx : s.seam.tx = .sending) (hline : s.seam.lineBank = some b)
    (hends : endsRestart b s = false) :
    exec (.frameComplete pins) s = .next (fillBanks (ownerCompletes b (advanceBanks b s))) := by
  show execFrameComplete pins s = _
  rw [execFrameComplete, htx, hline]
  show (if endsRestart b s then _ else _) = _
  rw [hends]
  rfl

theorem exec_frameComplete_none {s : State} (pins : Pins) (htx : s.seam.tx ≠ .sending) :
    exec (.frameComplete pins) s = .next s := by
  show execFrameComplete pins s = _
  unfold execFrameComplete
  split
  · next h _ => exact absurd h htx
  · rfl

theorem endsRestart_of_item {s : State} {b : Composed} (h : b.item ≠ .longReply) : endsRestart b s = false := by
  rw [endsRestart, decide_eq_false h, Bool.false_and]

theorem restartReplying_iff (s : State) :
    restartReplying s = true ↔ ∃ source, s.port.request = some ⟨.restart, source, .replying⟩ := by
  unfold restartReplying
  split
  · next source h => exact ⟨fun _ => ⟨source, h⟩, fun _ => rfl⟩
  · next h => exact ⟨fun hf => absurd hf Bool.false_ne_true, fun ⟨source, hs⟩ => absurd hs (h source)⟩

theorem endsRestart_of_request {s : State} {b : Composed}
    (h : b.item = .longReply → ∀ source, s.port.request ≠ some ⟨.restart, source, .replying⟩) : endsRestart b s = false := by
  by_cases hitem : b.item = .longReply
  · have hno : restartReplying s = false := by
      rw [Bool.eq_false_iff, Ne, restartReplying_iff]
      exact fun ⟨source, hs⟩ => h hitem source hs
    rw [endsRestart, hno, Bool.and_false]
  · exact endsRestart_of_item hitem

/-! ## What the owner does -/

theorem advanceBanks_has (b : Composed) (s : State) (it : Item) :
    (advanceBanks b s).seam.items.has it = if it = b.item then false else s.seam.items.has it := has_put _ _ _ _

theorem pend_eq (it : Item) (s : State) : pend it s = { s with seam := { s.seam with items := (pend it s).seam.items } } := rfl

theorem completeEdge_eq (e : Edge) (content : Option EdgeContent) (s : State) :
    completeEdge e content s =
        { s with
          conceal := { s.conceal with lastSent := s.conceal.lastSent.put e content }
          seam := { s.seam with items := (completeEdge e content s).seam.items } } ∧
      ∀ it, (completeEdge e content s).seam.items.has it =
        (decide (it = .edge e ∧ content ≠ some (edgeContent s e)) || s.seam.items.has it) := by
  have hstale : edgeStale (s.setConceal { s.conceal with lastSent := s.conceal.lastSent.put e content }) e =
      decide (content ≠ some (edgeContent s e)) := by
    have hget : (s.conceal.lastSent.put e content).get e = content := by rw [get_put, if_pos rfl]
    exact congrArg (fun x => decide (x ≠ some (edgeContent s e))) hget
  unfold completeEdge
  dsimp only
  rw [hstale]
  by_cases h : content ≠ some (edgeContent s e)
  · rw [decide_eq_true h, if_pos rfl]
    exact ⟨rfl, fun it => by rw [pend_has]; simp [h]⟩
  · rw [decide_eq_false h, if_neg Bool.false_ne_true]
    exact ⟨rfl, fun it => by simp [h]⟩

theorem completeNotice_eq (s : State) :
    completeNotice s =
      { s with
        port := { s.port with notice := s.port.notice && s.port.reraise, reraise := false }
        seam :=
          { s.seam with
            items := { s.seam.items with tileNotice := s.port.reraise || s.seam.items.tileNotice } } } := by
  have hsame : ∀ b : Bool, s.port.reraise = b → s.port = { s.port with reraise := b } := fun b h => by rw [← h]
  unfold completeNotice
  cases h : s.port.reraise with
  | true =>
    rw [if_pos rfl, Bool.and_true, Bool.true_or]
    rfl
  | false =>
    rw [if_neg Bool.false_ne_true, Bool.and_false, Bool.false_or]
    show { s with port := { s.port with notice := false } } = _
    rw [hsame false h]

/-! ## The report head (R164) -/

/-- The queue behind the leaving of its head, before the refill. -/
def headLeft (rest : List Report) (s : State) : State := s.setPort { s.port with queue := rest }

theorem completeHead_updated {s : State} {r : Report} {rest : List Report} (hqueue : s.port.queue = r :: rest)
    (hupdated : r.updated = true) :
    completeHead s = pend .reportHead (s.setPort { s.port with queue := { r with updated := false } :: rest }) := by
  rw [completeHead, hqueue]
  show (if r.updated then _ else _) = _
  rw [hupdated, if_pos rfl]

theorem completeHead_leaves {s : State} {r : Report} {rest : List Report} (hqueue : s.port.queue = r :: rest)
    (hupdated : r.updated = false) : completeHead s = pendHead (refill (headLeft rest s)) := by
  rw [completeHead, hqueue]
  show (if r.updated then _ else _) = _
  rw [hupdated, if_neg Bool.false_ne_true]
  rfl

theorem refillCell_eq (s : State) :
    refillCell s = findFrom Config.cellCount s.port.refillCursor (fun c => tget s.port.marks c false) := rfl

theorem refill_of_none {s : State} (h : ∀ c, c < Config.cellCount → tget s.port.marks c false = false) : refill s = s := by
  unfold refill
  split
  · rfl
  · next c hsome =>
    obtain ⟨hlt, hmark⟩ := findFrom_some _ _ _ _ ((refillCell_eq s).symm.trans hsome)
    exact absurd ((h c hlt).symm.trans hmark) Bool.false_ne_true

theorem refill_of_some {s : State} {c n : Nat} (hn : n < Config.cellCount)
    (hc : c = (s.port.refillCursor + n) % Config.cellCount) (hmark : tget s.port.marks c false = true)
    (hbefore : ∀ m, m < n → tget s.port.marks ((s.port.refillCursor + m) % Config.cellCount) false = false) :
    refill s =
      s.setPort
        { s.port with
          marks := tset s.port.marks c false
          queue := s.port.queue ++ [reportOf s c .refill false]
          refillCursor := (c + 1) % Config.cellCount } := by
  have hfound : refillCell s = some c :=
    (refillCell_eq s).trans ((findFrom_eq_some_iff _ _ _ _).mpr ⟨n, hn, hc, hmark, hbefore⟩)
  unfold refill
  split
  · next hnone => exact absurd (hnone.symm.trans hfound) (Option.some_ne_none c).symm
  · next d hsome =>
    obtain rfl : d = c := Option.some.inj (hsome.symm.trans hfound)
    rfl

theorem pendHead_eq (s : State) :
    pendHead s =
      { s with
        seam :=
          { s.seam with
            items := { s.seam.items with reportHead := !s.port.queue.isEmpty || s.seam.items.reportHead } } } := by
  unfold pendHead
  cases s.port.queue.isEmpty <;> rfl

theorem refill_frame_eq (s : State) : refill s = { s with port := (refill s).port } := by
  unfold refill
  split <;> rfl

theorem completeHead_eq (s : State) :
    completeHead s =
      { s with
        port := (completeHead s).port
        seam := { s.seam with items := { s.seam.items with reportHead := (completeHead s).seam.items.reportHead } } } := by
  cases hqueue : s.port.queue with
  | nil =>
    have hsame : completeHead s = s := by rw [completeHead, hqueue]
    rw [hsame]
  | cons r rest =>
    cases hupdated : r.updated with
    | true => rw [completeHead_updated hqueue hupdated]; rfl
    | false =>
      have hrefill := refill_frame_eq (headLeft rest s)
      rw [completeHead_leaves hqueue hupdated]
      generalize refill (headLeft rest s) = w at hrefill ⊢
      rw [pendHead_eq, hrefill]
      rfl

/-- The owner's part touches the items of the Seam Link Controller alone, and of these only its own. -/
theorem ownerCompletes_seam (b : Composed) (s : State) :
    (ownerCompletes b s).seam = { s.seam with items := (ownerCompletes b s).seam.items } ∧
      ∀ it, it ≠ b.item → (ownerCompletes b s).seam.items.has it = s.seam.items.has it := by
  unfold ownerCompletes
  split
  · next e he =>
    obtain ⟨heq, hhas⟩ := completeEdge_eq e b.content s
    refine ⟨(congrArg State.seam heq :), fun it hit => ?_⟩
    rw [hhas, decide_eq_false fun h => hit (h.1.trans he.symm), Bool.false_or]
  · exact ⟨rfl, fun _ _ => rfl⟩
  · exact ⟨rfl, fun _ _ => rfl⟩
  · exact ⟨rfl, fun _ _ => rfl⟩
  · next h =>
    rw [completeNotice_eq, h]
    refine ⟨rfl, fun it hit => ?_⟩
    cases it with
    | tileNotice => exact absurd rfl hit
    | _ => rfl
  · next h =>
    rw [completeHead_eq, h]
    refine ⟨rfl, fun it hit => ?_⟩
    cases it with
    | reportHead => exact absurd rfl hit
    | _ => rfl

end Sys2Proof.Machine

/-! ## The statements -/

section

open Sys2Proof Sys2Proof.Machine

/-- Settles O37, by the item of the completed frame. -/
theorem completedFrameLeavesItsBank : Obligations.CompletedFrameLeavesItsBank := by
  unfold Obligations.CompletedFrameLeavesItsBank
  refine ⟨fun s pins b htx hline hrequest => ?_, fun s pins htx => exec_frameComplete_none pins htx⟩
  refine ⟨_, exec_frameComplete pins htx hline (endsRestart_of_request hrequest), ?_⟩
  obtain ⟨hseam, hothers⟩ := ownerCompletes_seam b (advanceBanks b s)
  refine ⟨hseam, fun it hit => ?_, fun e he => ?_, fun hload => ?_, fun hlong => ?_, fun himmediate => ?_⟩
  · rw [hothers it hit, advanceBanks_has, if_neg hit]
  · obtain ⟨heq, hhas⟩ := completeEdge_eq e b.content (advanceBanks b s)
    have howner : ownerCompletes b (advanceBanks b s) = completeEdge e b.content (advanceBanks b s) := by
      rw [ownerCompletes, he]
    rw [howner, he, hhas, advanceBanks_has, he, if_pos rfl, Bool.or_false]
    refine ⟨(congrArg State.conceal heq :), ?_, ?_⟩
    · simp only [true_and]
      rfl
    · generalize completeEdge e b.content (advanceBanks b s) = w at heq ⊢
      rw [heq]
      rfl
  · have howner : ownerCompletes b (advanceBanks b s) =
        (advanceBanks b s).setGov { s.gov with carried := none } := by rw [ownerCompletes, hload]; rfl
    have hitem := advanceBanks_has b s .load
    rw [if_pos hload.symm] at hitem
    rw [howner]
    exact ⟨hitem, rfl⟩
  · have howner : ownerCompletes b (advanceBanks b s) =
        (advanceBanks b s).setPort { s.port with long := none } := by rw [ownerCompletes, hlong]; rfl
    have hitem := advanceBanks_has b s .longReply
    rw [if_pos hlong.symm] at hitem
    rw [howner]
    exact ⟨hitem, rfl⟩
  · have howner : ownerCompletes b (advanceBanks b s) =
        (advanceBanks b s).setPort { s.port with immediate := none } := by rw [ownerCompletes, himmediate]; rfl
    have hitem := advanceBanks_has b s .immediateReply
    rw [if_pos himmediate.symm] at hitem
    rw [howner]
    exact ⟨hitem, rfl⟩

/-- Settles O38: the notice by its re-raise mark, the head by its updated mark, and the refill by its search. -/
theorem completedReportLeavesTheQueue : Obligations.CompletedReportLeavesTheQueue := by
  unfold Obligations.CompletedReportLeavesTheQueue
  intro s pins b htx hline
  refine ⟨fun hnotice => ?_, fun r rest hhead hqueue => ?_⟩
  · have hends : endsRestart b s = false := endsRestart_of_item (by rw [hnotice]; exact nofun)
    refine ⟨_, exec_frameComplete pins htx hline hends, ?_⟩
    have hitem := advanceBanks_has b s .tileNotice
    rw [if_pos hnotice.symm] at hitem
    have hitem : (advanceBanks b s).seam.items.tileNotice = false := hitem
    have howner : ownerCompletes b (advanceBanks b s) = completeNotice (advanceBanks b s) := by rw [ownerCompletes, hnotice]
    rw [howner, completeNotice_eq, hitem, Bool.or_false]
    exact ⟨rfl, rfl, rfl⟩
  · have hends : endsRestart b s = false := endsRestart_of_item (by rw [hhead]; exact nofun)
    refine ⟨_, exec_frameComplete pins htx hline hends, ?_⟩
    have hitem := advanceBanks_has b s .reportHead
    rw [if_pos hhead.symm] at hitem
    have hitem : (advanceBanks b s).seam.items.reportHead = false := hitem
    have howner : ownerCompletes b (advanceBanks b s) = completeHead (advanceBanks b s) := by rw [ownerCompletes, hhead]
    have hqueue' : (advanceBanks b s).port.queue = r :: rest := hqueue
    rw [howner]
    refine ⟨(by rw [completeHead_eq]; rfl), fun hupdated => ?_, fun hplain hnone => ?_, fun c n hplain hn hc hmark hbefore => ?_⟩
    · rw [completeHead_updated hqueue' hupdated]
      exact ⟨rfl, rfl⟩
    · have hleft : refill (headLeft rest (advanceBanks b s)) = headLeft rest (advanceBanks b s) := refill_of_none hnone
      rw [completeHead_leaves hqueue' hplain, hleft, pendHead_eq]
      refine ⟨rfl, ?_⟩
      show (!rest.isEmpty || (advanceBanks b s).seam.items.reportHead) = _
      rw [hitem, Bool.or_false]
    · have hfilled := refill_of_some (s := headLeft rest (advanceBanks b s)) hn hc hmark hbefore
      rw [completeHead_leaves hqueue' hplain, hfilled, pendHead_eq]
      refine ⟨rfl, ?_⟩
      show (!(rest ++ [_]).isEmpty || _) = true
      simp

end

end
section
/-! PROOF. The begin and the end of a write (R145 to R150). -/

namespace Sys2Proof.Machine

/-! ## The dirty set (R144) -/

/-- The dirty count is 0 exactly when no mark is set. -/
theorem dirtyCount_eq_zero_iff (s : State) :
    dirtyCount s = 0 ↔
      s.store.settingsDirty = false ∧ ∀ c, c < Config.cellCount → tget s.store.dirty c false = false := by
  have hcells : tcount id s.store.dirty = 0 ↔ ∀ c, c < Config.cellCount → tget s.store.dirty c false = false := by
    rw [tcount_eq_countP_range id s.store.dirty false, List.countP_eq_zero]
    simp only [List.mem_range, id, Bool.not_eq_true]
  have hsettings : (if s.store.settingsDirty then 1 else 0) = 0 ↔ s.store.settingsDirty = false := by
    cases s.store.settingsDirty <;> simp
  rw [dirtyCount, Nat.add_eq_zero_iff, hcells, hsettings, and_comm]

/-! ## The test of R145 -/

/-- The store, the supply and the state leave a write free to begin (R145). -/
def WriteFree (s : State) : Prop :=
  s.store.state = .idle ∧ s.sup.supply = .ok ∧ s.sup.state = .running ∧ s.store.restartHold = false

theorem writeMayBegin_iff (s : State) : writeMayBegin s = true ↔ WriteFree s ∧ 0 < dirtyCount s := by
  simp only [writeMayBegin, isRunning, WriteFree, Bool.and_eq_true, decide_eq_true_eq, Bool.not_eq_true', and_assoc]

theorem beginWrite_of_settings {s : State} (hfree : WriteFree s) (hmark : s.store.settingsDirty = true) :
    beginWrite s = beginSettings s := by
  have hdirty : dirtyCount s ≠ 0 := fun h => absurd (((dirtyCount_eq_zero_iff s).mp h).1.symm.trans hmark) Bool.false_ne_true
  rw [beginWrite, if_pos ((writeMayBegin_iff s).mpr ⟨hfree, Nat.pos_of_ne_zero hdirty⟩), if_pos hmark]

theorem beginWrite_of_cell {s : State} {c : Nat} (hfree : WriteFree s) (hmark : s.store.settingsDirty = false)
    (hfound : findFrom Config.cellCount s.store.cursor (fun c => tget s.store.dirty c false) = some c) :
    beginWrite s = beginCell c s := by
  obtain ⟨hc, hset⟩ := findFrom_some _ _ _ _ hfound
  have hdirty : dirtyCount s ≠ 0 := fun h =>
    absurd ((((dirtyCount_eq_zero_iff s).mp h).2 c hc).symm.trans hset) Bool.false_ne_true
  rw [beginWrite, if_pos ((writeMayBegin_iff s).mpr ⟨hfree, Nat.pos_of_ne_zero hdirty⟩), if_neg (by rw [hmark]; exact Bool.false_ne_true)]
  split
  · next hnone => exact absurd (hnone.symm.trans hfound) (Option.some_ne_none c).symm
  · next d hsome =>
    obtain rfl : d = c := Option.some.inj (hsome.symm.trans hfound)
    rfl

theorem beginWrite_of_not_free {s : State} (h : ¬WriteFree s ∨ dirtyCount s = 0) : beginWrite s = s := by
  refine if_neg fun hmay => ?_
  obtain ⟨hfree, hdirty⟩ := (writeMayBegin_iff s).mp hmay
  obtain h | h := h
  · exact h hfree
  · exact absurd h hdirty.ne'

/-- A slot's health bytes save SUSPECT as GOOD (R146). -/
theorem slotBytes_healths (c : Nat) (r : CellRec) (p q : Health) :
    (slotBytes c r p q).primary = byteOf (if p = .suspect then Health.good else p).code ∧
      (slotBytes c r p q).spare = byteOf (if q = .suspect then Health.good else q).code := by
  refine ⟨?_, ?_⟩
  · cases p <;> rfl
  · cases q <;> rfl

/-! ## The end of a write (R148, R150) -/

theorem dirtyCount_completeWrite (job : WriteJob) (s : State) : dirtyCount (completeWrite job s) = dirtyCount s := by
  cases job <;> rfl

/-- Behind a completed write no request is answered STORE_FAULT, and none that has something unwritten is answered DONE (R161). -/
theorem longOutcome_completeWrite (job : WriteJob) (s : State) :
    longOutcome (completeWrite job s) =
      if s.sup.supply = .low ∨ dirtyCount s = 0 then
        some (if s.sup.supply = .low then .supplyLow else .done, dirtyCount s)
      else none := by
  have hidle : (completeWrite job s).store.state = .idle := rfl
  have hsup : (completeWrite job s).sup = s.sup := rfl
  simp only [longOutcome, hidle, hsup, dirtyCount_completeWrite, reduceCtorEq, if_false, and_true]
  by_cases hlow : s.sup.supply = .low
  · simp only [hlow, if_true, true_or]
  · simp only [hlow, if_false, false_or]
    split
    · next hclean => rw [hclean]
    · rfl

/-- A long request whose outcome is not reached stays in execution (R161). -/
theorem judgeLong_of_outcome_none {s : State} (h : longOutcome s = none) : judgeLong s = s := by
  unfold judgeLong
  split
  · rfl
  · split
    · next hout => exact absurd (h.symm.trans hout) nofun
    · rfl

theorem exec_writeComplete {s : State} {job : WriteJob} (pins : Pins) (hstate : s.store.state = .writing)
    (hjob : s.store.inFlight = some job) :
    exec (.writeComplete pins) s =
      if s.store.restartHold then .next (takeHeldRestart pins (completeWrite job s))
      else .next (settle (judgeLong (completeWrite job s))) := by
  show execWriteComplete pins s = _
  simp only [execWriteComplete, hstate, hjob]

theorem exec_writeTimeout {s : State} {job : WriteJob} (pins : Pins) (hstate : s.store.state = .writing)
    (hjob : s.store.inFlight = some job) :
    exec (.writeTimeout pins) s =
      if s.store.restartHold then .next (takeHeldRestart pins (timeoutWrite job s))
      else .next (fillBanks (judgeLong (raiseNotice (timeoutWrite job s)))) := by
  show execWriteTimeout pins s = _
  simp only [execWriteTimeout, hstate, hjob]

theorem exec_writeEnd_of_not_writing {s : State} (pins : Pins) (h : s.store.state ≠ .writing) :
    exec (.writeComplete pins) s = .next s ∧ exec (.writeTimeout pins) s = .next s := by
  refine ⟨?_, ?_⟩
  · show execWriteComplete pins s = _
    unfold execWriteComplete
    split
    · next hstate _ => exact absurd hstate h
    · rfl
  · show execWriteTimeout pins s = _
    unfold execWriteTimeout
    split
    · next hstate _ => exact absurd hstate h
    · rfl

theorem store_completeWrite (job : WriteJob) (s : State) :
    (completeWrite job s).store =
      { s.store with
        state := .idle
        inFlight := none
        settings := match job with
          | .settings b => .bytes b
          | .cell _ _ => s.store.settings
        slots := match job with
          | .settings _ => s.store.slots
          | .cell c b => tset s.store.slots c (.bytes b)
        cursor := match job with
          | .settings _ => s.store.cursor
          | .cell c _ => (c + 1) % Config.cellCount } := by
  cases job <;> rfl

theorem store_timeoutWrite (job : WriteJob) (s : State) :
    (timeoutWrite job s).store =
      { s.store with
        state := .faulted
        inFlight := none
        settings := match job with
          | .settings _ => .cut
          | .cell _ _ => s.store.settings
        slots := match job with
          | .settings _ => s.store.slots
          | .cell c _ => tset s.store.slots c .cut
        settingsDirty := match job with
          | .settings _ => true
          | .cell _ _ => s.store.settingsDirty
        dirty := match job with
          | .settings _ => s.store.dirty
          | .cell c _ => tset s.store.dirty c true } := by
  cases job <;> rfl

/-- The judging changes the long reply slot and the request of the port, and the long reply's item. -/
theorem judgeLong_only (s : State) :
    (judgeLong s).port = { s.port with long := (judgeLong s).port.long, request := (judgeLong s).port.request } ∧
      (judgeLong s).seam =
        { s.seam with items := { s.seam.items with longReply := (judgeLong s).seam.items.longReply } } := by
  unfold judgeLong
  split
  · exact ⟨rfl, rfl⟩
  · split <;> exact ⟨rfl, rfl⟩

theorem dirtyCount_congr {s t : State} (h : s.store = t.store) : dirtyCount s = dirtyCount t := by
  rw [dirtyCount, dirtyCount, h]

theorem judgeLong_store (s : State) : (judgeLong s).store = s.store := by rw [judgeLong_eq]

end Sys2Proof.Machine

/-! ## The statements -/

section
open Sys2Proof Sys2Proof.Machine

/-- Settles O51, by R145's test and the search from the write cursor on. -/
theorem writeBeginsWithItsSnapshot : Obligations.WriteBeginsWithItsSnapshot := by
  unfold Obligations.WriteBeginsWithItsSnapshot
  intro s
  refine ⟨fun hfree hmark => beginWrite_of_settings hfree hmark, fun n hfree hmark hn hset hbefore => ?_, fun h => ?_, rfl,
    fun c r p q => slotBytes_healths c r p q⟩
  · have hfound : findFrom Config.cellCount s.store.cursor (fun c => tget s.store.dirty c false) =
        some ((s.store.cursor + n) % Config.cellCount) :=
      (findFrom_eq_some_iff _ _ _ _).mpr ⟨n, hn, rfl, hset, hbefore⟩
    exact beginWrite_of_cell hfree hmark hfound
  · exact beginWrite_of_not_free (h.imp_right (dirtyCount_eq_zero_iff s).mpr)

/-- Settles O52, by the write that ends and the long request it judges. -/
theorem writesEnd : Obligations.WritesEnd := by
  unfold Obligations.WritesEnd
  refine ⟨fun s pins job hstate hjob hheld => ?_, fun s pins h => exec_writeEnd_of_not_writing pins h⟩
  have hfree : ¬s.store.restartHold = true := by rw [hheld]; exact Bool.false_ne_true
  constructor
  · refine ⟨judgeLong (completeWrite job s), by rw [exec_writeComplete pins hstate hjob, if_neg hfree],
      (judgeLong_store _).trans (store_completeWrite job s), fun r hr hphase hends => ?_, fun hstays => ?_, ?_⟩
    · have hout := longOutcome_completeWrite job s
      rw [if_pos hends] at hout
      rw [judgeLong_answers (s := completeWrite job s) (r := r) hr hphase hout, afterResult_eq]
      exact ⟨rfl, rfl⟩
    · have hsame : judgeLong (completeWrite job s) = completeWrite job s := by
        by_cases hends : s.sup.supply = .low ∨ dirtyCount s = 0
        · refine judgeLong_of_replying fun r hr => (hstays r hr).resolve_right ?_
          rintro ⟨hok, hdirty⟩
          exact hends.elim (fun hlow => by rw [hok] at hlow; cases hlow) hdirty
        · exact judgeLong_of_outcome_none ((longOutcome_completeWrite job s).trans (if_neg hends))
      rw [hsame]
      exact ⟨rfl, rfl⟩
    · rw [judgeLong_store]
      exact judgeLong_eq _
  · obtain ⟨⟨hport, hitem⟩, honly, hraised⟩ := raiseNotice_on (s := s) (r := timeoutWrite job s) rfl rfl
    have hstore : (raiseNotice (timeoutWrite job s)).store = (timeoutWrite job s).store := by rw [hraised]
    unfold OnlyNoticeItem at honly
    obtain ⟨hjport, hjseam⟩ := judgeLong_only (raiseNotice (timeoutWrite job s))
    refine ⟨judgeLong (raiseNotice (timeoutWrite job s)), by rw [exec_writeTimeout pins hstate hjob, if_neg hfree], ?_, ?_, ?_,
      (judgeLong_store _).trans (hstore.trans (store_timeoutWrite job s)), fun r hr hphase => ?_, fun hstays => ?_, ?_⟩
    · rw [hport] at hjport
      exact hjport
    · rw [hjseam, honly, hitem]
    · rw [hjseam, honly]
    · have hout : longOutcome (raiseNotice (timeoutWrite job s)) = some (.storeFault, dirtyCount (raiseNotice (timeoutWrite job s))) :=
        longOutcome_faulted (by rw [hstore, store_timeoutWrite])
      have hrequest : (raiseNotice (timeoutWrite job s)).port.request = some r := by rw [hport]; exact hr
      rw [dirtyCount_congr (judgeLong_store (raiseNotice (timeoutWrite job s))), judgeLong_answers hrequest hphase hout,
        afterResult_eq]
      exact ⟨rfl, rfl, rfl⟩
    · have hsame := judgeLong_of_replying (s := raiseNotice (timeoutWrite job s)) (by rw [hport]; exact hstays)
      rw [hsame, hport, honly]
      exact ⟨rfl, rfl, rfl⟩
    · rw [judgeLong_store, judgeLong_eq, hraised]
      rfl

end

end
section
/-! PROOF. The RESTART's reset, at its reply or its wait's end, or behind the write in flight (R152, R162, R167). -/

namespace Sys2Proof.Machine

/-- A RESTART reset that is taken: the blocks' values, its cause, the regions, and the start that begins. -/
theorem restart_taken (pins : Pins) (s : State) :
    StartBegun pins (resetTile .restart s) (beginStart pins (resetTile .restart s)) ∧ ResetValues (resetTile .restart s) ∧
      (resetTile .restart s).sup.cause = .restart ∧ (resetTile .restart s).sup.supply = s.sup.supply ∧
      (resetTile .restart s).store.factory = s.store.factory ∧ (resetTile .restart s).store.slots = s.store.slots ∧
      (resetTile .restart s).store.settings = s.store.settings ∧ (resetTile .restart s).pending = s.pending :=
  ⟨beginStart_begun pins _, resetTile_values .restart s, rfl, rfl, rfl, rfl, rfl, rfl⟩

theorem exec_restartWaitExpiry {s : State} {source : Nat} (pins : Pins)
    (h : s.port.request = some ⟨.restart, source, .replying⟩) :
    exec (.restartWaitExpiry pins) s = .next (handRestart pins s) := by
  show execRestartWaitExpiry pins s = _
  rw [execRestartWaitExpiry, if_pos ((restartReplying_iff s).mpr ⟨source, h⟩)]

theorem exec_restartWaitExpiry_none {s : State} (pins : Pins)
    (h : ∀ source, s.port.request ≠ some ⟨.restart, source, .replying⟩) : exec (.restartWaitExpiry pins) s = .next s := by
  show execRestartWaitExpiry pins s = _
  rw [execRestartWaitExpiry, if_neg]
  rw [restartReplying_iff]
  exact fun ⟨source, hs⟩ => h source hs

theorem exec_frameComplete_restart {s : State} {b : Composed} {source : Nat} (pins : Pins) (htx : s.seam.tx = .sending)
    (hline : s.seam.lineBank = some b) (hitem : b.item = .longReply)
    (h : s.port.request = some ⟨.restart, source, .replying⟩) :
    exec (.frameComplete pins) s = .next (handRestart pins (completeFrame b s)) := by
  have hends : endsRestart b s = true := by
    rw [endsRestart, decide_eq_true hitem, Bool.true_and]
    exact (restartReplying_iff s).mpr ⟨source, h⟩
  show execFrameComplete pins s = _
  rw [execFrameComplete, htx, hline]
  show (if endsRestart b s then _ else _) = _
  rw [hends]
  rfl

/-- The completion of a long reply empties its slot and takes its item away (R131, R156). -/
theorem completeFrame_longReply {s : State} {b : Composed} (hitem : b.item = .longReply) :
    (completeFrame b s).store = s.store ∧ (completeFrame b s).sup = s.sup ∧ (completeFrame b s).pending = s.pending ∧
      (completeFrame b s).port.long = none ∧ (completeFrame b s).seam.items.longReply = false := by
  have howner : ownerCompletes b (advanceBanks b s) = (advanceBanks b s).setPort { s.port with long := none } := by
    rw [ownerCompletes, hitem]
    rfl
  have hitems : (advanceBanks b s).seam.items.has .longReply = false := by rw [advanceBanks_has, if_pos hitem.symm]
  have hfilled := fillBanks_filled ((advanceBanks b s).setPort { s.port with long := none })
  rw [completeFrame, howner]
  refine ⟨?_, ?_, ?_, ?_, ?_⟩
  · rw [hfilled.rest]
    rfl
  · rw [hfilled.rest]
    rfl
  · rw [hfilled.rest]
    rfl
  · rw [hfilled.port]
    exact ite_self _
  · rw [hfilled.seam]
    exact hitems

end Sys2Proof.Machine

/-! ## The statement -/

section
open Sys2Proof Sys2Proof.Machine

/-- Settles O50, by the event that hands the reset over and the write that may be in flight. -/
theorem restartResetsTheTile : Obligations.RestartResetsTheTile := by
  unfold Obligations.RestartResetsTheTile
  refine ⟨fun s pins source hr hfree => ?_, fun s pins source hr hwriting => ?_, fun s pins h => exec_restartWaitExpiry_none pins h,
    fun s pins source b hr htx hline hitem => ?_, fun s pins job hstate hjob hheld => ⟨?_, ?_⟩⟩
  · exact ⟨_, _, (exec_restartWaitExpiry pins hr).trans (congrArg _ (handRestart_free pins hfree)), restart_taken pins s⟩
  · exact (exec_restartWaitExpiry pins hr).trans (congrArg _ (handRestart_writing pins hwriting))
  · obtain ⟨hstore, hsup, hpending, hlong, hreply⟩ := completeFrame_longReply (s := s) hitem
    refine ⟨fun hfree => ?_, fun hwriting => ?_⟩
    · have hfree' : (completeFrame b s).store.state ≠ .writing := by rw [hstore]; exact hfree
      obtain ⟨hbegun, hvalues, hcause, -, hfactory, hslots, hsettings, hqueue⟩ := restart_taken pins (completeFrame b s)
      rw [hstore] at hfactory hslots hsettings
      exact ⟨_, _, (exec_frameComplete_restart pins htx hline hitem hr).trans (congrArg _ (handRestart_free pins hfree')),
        hbegun, hvalues, hcause, hfactory, hslots, hsettings, hqueue.trans hpending⟩
    · have hwriting' : (completeFrame b s).store.state = .writing := by rw [hstore]; exact hwriting
      refine ⟨_, (exec_frameComplete_restart pins htx hline hitem hr).trans (congrArg _ (handRestart_writing pins hwriting')),
        ?_, rfl, hlong, hsup, hreply⟩
      rw [← hstore]
      rfl
  · obtain ⟨hbegun, hvalues, hcause, -, hfactory, hslots, hsettings, hqueue⟩ := restart_taken pins (completeWrite job s)
    refine ⟨_, _, (exec_writeComplete pins hstate hjob).trans (if_pos hheld), hbegun, hvalues, hcause, hqueue, ?_, ?_, ?_⟩
    · rw [hfactory, store_completeWrite]
    · rintro b rfl
      exact ⟨hsettings, hslots⟩
    · rintro c b rfl
      exact ⟨hslots, hsettings⟩
  · obtain ⟨hbegun, hvalues, hcause, -, hfactory, hslots, hsettings, hqueue⟩ := restart_taken pins (timeoutWrite job s)
    refine ⟨_, _, (exec_writeTimeout pins hstate hjob).trans (if_pos hheld), hbegun, hvalues, hcause, hqueue, ?_, ?_, ?_⟩
    · rw [hfactory, store_timeoutWrite]
    · rintro b rfl
      exact ⟨hsettings, hslots⟩
    · rintro c b rfl
      exact ⟨hslots, hsettings⟩

end

end
section
/-! PROOF. How a request that is heard is decided and answered (R155 to R158): the layer under the statements of requests. -/

namespace Sys2Proof.Machine

/-! ## The hearing of a request row -/

theorem ownTested_sup (source : Nat) (s : State) : (ownTested source s).sup = s.sup := by rw [ownTested_frame]

theorem ownTested_port (source : Nat) (s : State) : (ownTested source s).port = s.port := by rw [ownTested_frame]

/-- A frame that has ended, behind the test of its source, leaves the Supervisor and the Service Port. -/
theorem endFrame_ownTested_sup (source : Nat) (s : State) : (endFrame (ownTested source s)).sup = s.sup := ownTested_sup source s

theorem endFrame_ownTested_port (source : Nat) (s : State) : (endFrame (ownTested source s)).port = s.port :=
  ownTested_port source s

theorem ownTested_own (source : Nat) (s : State) : (ownTested source s).seam.own = s.seam.own := by rw [ownTested_frame]

/-- A request row that is heard: the Service Port takes its request behind the frame's end. -/
theorem exec_request_heard {i : Instr} {o : State} {source : Nat} {target : Byte} {r : Request}
    (hi : requestOf i = some (source, target, r)) (h : Heard o source target) :
    exec i o = .next (settle (takeRequest source target r (endFrame (ownTested source o)))) := by
  rw [exec_request hi, hearRequest, decide_eq_true h.2.1, hearFrame_of_heard h]

theorem Taken.heard {o : State} {source : Nat} {target : Byte} (h : Taken o source target) : Heard o source target := by
  obtain ⟨hhears, hsource, -, htarget, -⟩ := h
  exact ⟨hhears, hsource, .inl htarget⟩

theorem requestOf_known {i : Instr} {source : Nat} {target : Byte} {r : Request} (h : requestOf i = some (source, target, r)) :
    r.isUnknown = false := by
  cases i <;> simp only [requestOf, reduceCtorEq, Option.some.injEq, Prod.mk.injEq] at h <;> obtain ⟨-, -, rfl⟩ := h <;> rfl

/-! ## The steps of R155 -/

theorem isStatus_eq_false {r : Request} (h : r ≠ .status) : r.isStatus = false := by
  cases r with
  | status => exact absurd rfl h
  | _ => rfl

theorem longKind_eq_some_iff (r : Request) (k : LongKind) :
    r.longKind = some k ↔ (r = .commit ∧ k = .commit) ∨ (r = .restart ∧ k = .restart) := by
  cases r <;> cases k <;> simp [Request.longKind]

theorem isRunning_of {s : State} (h : s.sup.state = .running) : isRunning s = true := decide_eq_true h

theorem isRunning_of_not {s : State} (h : s.sup.state ≠ .running) : isRunning s = false := decide_eq_false h

theorem requestDecision_unknown (s : State) (target : Byte) {r : Request} (h : r.isUnknown = true) :
    requestDecision s target r = .refuse .badValue := if_pos h

theorem requestDecision_notReady {s : State} (target : Byte) {r : Request} (hknown : r.isUnknown = false)
    (hstate : s.sup.state ≠ .running) (hstatus : r ≠ .status) : requestDecision s target r = .refuse .notReady := by
  simp [requestDecision, hknown, isRunning_of_not hstate, isStatus_eq_false hstatus]

theorem requestDecision_badTarget {s : State} {target : Byte} {r : Request} (hknown : r.isUnknown = false)
    (hstate : s.sup.state = .running) (htarget : target.toNat = Config.allStations) (hstatus : r ≠ .status)
    (hlong : r.longKind = none) : requestDecision s target r = .refuse .badTarget := by
  simp [requestDecision, hknown, isRunning_of hstate, htarget, isStatus_eq_false hstatus, hlong]

theorem requestDecision_busy {s : State} {target : Byte} {r : Request} (hknown : r.isUnknown = false)
    (hstate : s.sup.state = .running) (htarget : target.toNat ≠ Config.allStations ∨ r.longKind.isSome = true)
    (hrequest : s.port.request ≠ none) (hwaits : r.answeredWhileBusy = false) : requestDecision s target r = .refuse .busy := by
  have hstep : (decide (target.toNat = Config.allStations) && !r.isStatus && r.longKind.isNone) = false := by
    obtain h | h := htarget
    · rw [decide_eq_false h]; rfl
    · cases hk : r.longKind with
      | none => rw [hk] at h; cases h
      | some k => rw [Option.isNone_some, Bool.and_false]
  simp [requestDecision, hknown, isRunning_of hstate, hstep, Option.isSome_iff_ne_none.mpr hrequest, hwaits]

theorem requestDecision_long {s : State} (target : Byte) {r : Request} {k : LongKind} (hk : r.longKind = some k)
    (hstate : s.sup.state = .running) (hrequest : s.port.request = none) : requestDecision s target r = .long k := by
  have hknown : r.isUnknown = false := by obtain ⟨rfl, -⟩ | ⟨rfl, -⟩ := (longKind_eq_some_iff r k).mp hk <;> rfl
  simp [requestDecision, hknown, isRunning_of hstate, hk, hrequest]

/-- Only a COMMIT or RESTART in RUNNING, with none in execution, is taken into execution (R155 step 5). -/
theorem requestDecision_ne_long {s : State} {target : Byte} {r : Request} {k : LongKind}
    (h : ¬((r = .commit ∨ r = .restart) ∧ s.sup.state = .running ∧ s.port.request = none)) :
    requestDecision s target r ≠ .long k := by
  intro hdec
  have hlong : r.longKind ≠ none → r = .commit ∨ r = .restart := by
    intro hk
    obtain ⟨k', hk'⟩ := Option.ne_none_iff_exists'.mp hk
    exact ((longKind_eq_some_iff r k').mp hk').imp (fun p => p.1) (fun p => p.1)
  unfold requestDecision at hdec
  split at hdec
  · cases hdec
  split at hdec
  · cases hdec
  next hrunning =>
  split at hdec
  · cases hdec
  split at hdec
  · cases hdec
  next hfree =>
  split at hdec
  · next k' hk' =>
    have hkind := hlong (by rw [hk']; exact Option.some_ne_none k')
    refine h ⟨hkind, ?_, ?_⟩
    · by_contra hstate
      exact hrunning (by rw [isRunning_of_not hstate]; obtain rfl | rfl := hkind <;> rfl)
    · by_contra hrequest
      exact hfree (by rw [Option.isSome_iff_ne_none.mpr hrequest]; obtain rfl | rfl := hkind <;> rfl)
  · cases hdec

/-- In RUNNING, to this tile alone, with no long request in execution: step 6 (R155). -/
theorem requestDecision_carryOut {s : State} {target : Byte} {r : Request} (hknown : r.isUnknown = false)
    (hstate : s.sup.state = .running) (htarget : target.toNat ≠ Config.allStations)
    (hrequest : s.port.request = none ∨ r.answeredWhileBusy = true) (hlong : r.longKind = none) :
    requestDecision s target r = .carryOut := by
  have hbusy : (s.port.request.isSome && !r.answeredWhileBusy) = false := by
    obtain h | h := hrequest
    · rw [h]; rfl
    · rw [h, Bool.not_true, Bool.and_false]
  simp [requestDecision, hknown, isRunning_of hstate, htarget, hbusy, hlong]

/-- STATUS is carried out in every state and to every target (R155). -/
theorem requestDecision_status (s : State) (target : Byte) : requestDecision s target .status = .carryOut := by
  simp [requestDecision, Request.isUnknown, Request.isStatus, Request.answeredWhileBusy, Request.longKind]

/-! ## The taking of a request -/

theorem takeRequest_refused {s : State} {source : Nat} {target : Byte} {r : Request} {result : ReplyResult}
    (hdec : requestDecision s target r = .refuse result) (hroom : s.port.immediate = none) :
    takeRequest source target r s = answer source r result .empty s := by
  rw [takeRequest, hdec]
  exact if_neg (by rw [hroom]; exact Bool.false_ne_true)

theorem takeRequest_carried {s : State} {source : Nat} {target : Byte} {r : Request}
    (hdec : requestDecision s target r = .carryOut) (hroom : s.port.immediate = none) :
    takeRequest source target r s = carryOut source r s := by
  rw [takeRequest, hdec]
  exact if_neg (by rw [hroom]; exact Bool.false_ne_true)

theorem takeRequest_dropped {s : State} {source : Nat} {target : Byte} {r : Request}
    (hdec : ∀ k, requestDecision s target r ≠ .long k) (hfull : s.port.immediate ≠ none) : takeRequest source target r s = s := by
  have hsome : s.port.immediate.isSome = true := Option.isSome_iff_ne_none.mpr hfull
  unfold takeRequest
  split
  · next k hk => exact absurd hk (hdec k)
  · exact if_pos hsome
  · exact if_pos hsome

theorem takeRequest_long {s : State} {source : Nat} {target : Byte} {r : Request} {k : LongKind}
    (hdec : requestDecision s target r = .long k) :
    takeRequest source target r s = if s.port.long.isSome then s else takeLong source k s := by
  rw [takeRequest, hdec]

/-- A request row that reaches step 6 of R155 is carried out. -/
theorem exec_request_taken {i : Instr} {o : State} {source : Nat} {target : Byte} {r : Request}
    (hi : requestOf i = some (source, target, r)) (h : Taken o source target) (hlong : r.longKind = none) :
    exec i o = .next (settle (carryOut source r (endFrame (ownTested source o)))) := by
  have hheard := h.heard
  obtain ⟨-, -, hown, htarget, hstate, hrequest, hroom⟩ := h
  have hall : target.toNat ≠ Config.allStations := by
    show target.toNat ≠ 31
    omega
  have hdec : requestDecision (endFrame (ownTested source o)) target r = .carryOut :=
    requestDecision_carryOut (requestOf_known hi) (by rw [endFrame_ownTested_sup]; exact hstate) hall
      (.inl (by rw [endFrame_ownTested_port]; exact hrequest)) hlong
  rw [exec_request_heard hi hheard, takeRequest_carried hdec (by rw [endFrame_ownTested_port]; exact hroom)]

/-! ## Replies (R156) -/

theorem answer_replied (source : Nat) (r : Request) (result : ReplyResult) (body : ReplyBody) (s : State) :
    Replied (answer source r result body s) source r.kind result body := ⟨rfl, rfl⟩

theorem OnlyServed.answer {s v : State} (h : OnlyServed s v) (source : Nat) (r : Request) (result : ReplyResult)
    (body : ReplyBody) : OnlyServed s (answer source r result body v) := by
  obtain ⟨hsup, hrx, hscan, hdrive, hpending, hseam, hrest⟩ := h
  refine ⟨hsup, hrx, hscan, hdrive, hpending, ?_, hrest⟩
  exact congrArg (fun x : Seam => { x with items := x.items.put .immediateReply true }) hseam

theorem Unchanged.answer {s v : State} (h : Unchanged s v) (source : Nat) (r : Request) (result : ReplyResult)
    (body : ReplyBody) : Unchanged s (answer source r result body v) := h

theorem onlyServed_endFrame (s : State) : OnlyServed s (endFrame s) :=
  ⟨rfl, rfl, rfl, rfl, rfl, rfl, fun _ => rfl, rfl, rfl, rfl, rfl, rfl, rfl, rfl, rfl⟩

theorem unchanged_endFrame (s : State) : Unchanged s (endFrame s) := ⟨rfl, rfl, rfl, rfl, rfl⟩

/-- A reply right behind the frame's end is all that the request does. -/
theorem answer_onlyReplied (source : Nat) (r : Request) (result : ReplyResult) (body : ReplyBody) (s : State) :
    OnlyReplied s (answer source r result body (endFrame s)) source r.kind result body :=
  ⟨answer_replied source r result body _, (onlyServed_endFrame s).answer source r result body,
    (unchanged_endFrame s).answer source r result body, rfl, rfl, rfl⟩

end Sys2Proof.Machine

/-! ## The statement -/

section
open Sys2Proof Sys2Proof.Machine

/-- Settles O41, by the steps of R155 that each query passes. -/
theorem queriesAreAnswered : Obligations.QueriesAreAnswered := by
  unfold Obligations.QueriesAreAnswered
  refine ⟨fun o source target h hroom => ?_, fun o source target f c h hroom hstate htarget hc => ?_,
    fun o source target n h hn => ?_⟩
  · have hroom' : (endFrame (ownTested source o)).port.immediate = none := by rw [endFrame_ownTested_port]; exact hroom
    refine ⟨_, ?_, answer_onlyReplied source .status .done .status _⟩
    rw [exec_request_heard rfl h, takeRequest_carried (requestDecision_status _ target) hroom']
    rfl
  · have hroom' : (endFrame (ownTested source o)).port.immediate = none := by rw [endFrame_ownTested_port]; exact hroom
    have hdec : requestDecision (endFrame (ownTested source o)) target (.readCell f) = .carryOut :=
      requestDecision_carryOut rfl (by rw [endFrame_ownTested_sup]; exact hstate) htarget (.inr rfl) rfl
    refine ⟨_, ?_, answer_onlyReplied source (.readCell f) .done (.cell c) _⟩
    rw [exec_request_heard rfl h, takeRequest_carried hdec hroom', carryOut, doReadCell, hc]
  · refine ⟨_, ?_, answer_onlyReplied source (.listFaults n.toNat) .done (.faults n.toNat) _⟩
    rw [exec_request_taken rfl h rfl, carryOut, doListFaults, if_pos hn]

end

end
section
/-! PROOF. The refusals of a request (R155 steps 1 to 5, R176) and of its operands (R2, R43, R62, R158). -/

namespace Sys2Proof.Machine

/-! ## The kinds and lengths of REQUEST bodies (12.4.1) -/

/-- What reads the parameters of one kind: exactly the lists of its length, and as a request of that kind. -/
structure Reads (read : List Byte → Option Request) (length kind : Nat) : Prop where
  value : ∀ l r, read l = some r → r.isUnknown = false ∧ r.kind.toNat = kind
  none_iff : ∀ l, read l = none ↔ l.length ≠ length

theorem reads_none {r : Request} {kind : Nat} (h : r.isUnknown = false ∧ r.kind.toNat = kind) : Reads (readNone r) 0 kind where
  value
    | [], _, hr => Option.some.inj hr ▸ h
    | _ :: _, _, hr => by cases hr
  none_iff l := by cases l <;> simp [readNone]

theorem reads_byte {f : Byte → Request} {kind : Nat} (h : ∀ a, (f a).isUnknown = false ∧ (f a).kind.toNat = kind) :
    Reads (readByte f) 1 kind where
  value l r hr := by
    unfold readByte at hr
    split at hr
    · exact Option.some.inj hr ▸ h _
    · cases hr
  none_iff l := by obtain _ | ⟨a, _ | ⟨b, l⟩⟩ := l <;> simp [readByte]

theorem reads_half {f : Nat → Request} {kind : Nat} (h : ∀ v, (f v).isUnknown = false ∧ (f v).kind.toNat = kind) :
    Reads (readHalf f) 2 kind where
  value l r hr := by
    unfold readHalf at hr
    split at hr
    · exact Option.some.inj hr ▸ h _
    · cases hr
  none_iff l := by obtain _ | ⟨a, _ | ⟨b, _ | ⟨c, l⟩⟩⟩ := l <;> simp [readHalf]

theorem reads_field {rest : CellField → List Byte → Option Request} {n kind : Nat} (h : ∀ f, Reads (rest f) n kind) :
    Reads (readField rest) (n + 4) kind where
  value l r hr := by
    unfold readField at hr
    split at hr
    · exact (h _).value _ _ hr
    · cases hr
  none_iff l := by obtain _ | ⟨a, _ | ⟨b, _ | ⟨c, _ | ⟨d, l⟩⟩⟩⟩ := l <;> simp [readField, (h _).none_iff]

theorem reads_force (f : CellField) : Reads (readForce f) 2 4 where
  value l r hr := by
    unfold readForce at hr
    split at hr
    · exact Option.some.inj hr ▸ ⟨rfl, rfl⟩
    · cases hr
  none_iff l := by obtain _ | ⟨a, _ | ⟨b, _ | ⟨c, l⟩⟩⟩ := l <;> simp [readForce]

theorem reads_gain (f : CellField) : Reads (readGain f) 3 6 where
  value
    | [], _, hr => by cases hr
    | mode :: l, r, hr => (reads_half (f := .setGain f mode) fun _ => ⟨rfl, rfl⟩).value l r hr
  none_iff
    | [] => by simp [readGain]
    | mode :: l => by simp [readGain, (reads_half (f := .setGain f mode) fun _ => ⟨rfl, rfl⟩).none_iff]

/-- Each kind's length (12.4.1). -/
def kindsAndLengths : List (Nat × Nat) :=
  [(1, 1), (2, 5), (3, 3), (4, 7), (5, 5), (6, 8), (7, 5), (8, 2), (9, 3), (10, 1), (11, 1)]

theorem readParams_reads {kind length : Nat} (h : (kind, length) ∈ kindsAndLengths) : Reads (readParams kind) (length - 1) kind := by
  simp only [kindsAndLengths, List.mem_cons, List.not_mem_nil, or_false, Prod.mk.injEq] at h
  obtain ⟨rfl, rfl⟩ | ⟨rfl, rfl⟩ | ⟨rfl, rfl⟩ | ⟨rfl, rfl⟩ | ⟨rfl, rfl⟩ | ⟨rfl, rfl⟩ | ⟨rfl, rfl⟩ | ⟨rfl, rfl⟩ | ⟨rfl, rfl⟩ |
    ⟨rfl, rfl⟩ | ⟨rfl, rfl⟩ := h
  · exact reads_none (r := .status) ⟨rfl, rfl⟩
  · exact reads_field fun f => reads_none (r := .readCell f) ⟨rfl, rfl⟩
  · exact reads_half (f := Request.listFaults) fun _ => ⟨rfl, rfl⟩
  · exact reads_field reads_force
  · exact reads_field fun f => reads_none (r := .release f) ⟨rfl, rfl⟩
  · exact reads_field reads_gain
  · exact reads_field fun f => reads_none (r := .probe f) ⟨rfl, rfl⟩
  · exact reads_byte (f := fun b => Request.setConceal b.toNat) fun _ => ⟨rfl, rfl⟩
  · exact reads_half (f := Request.setLimit) fun _ => ⟨rfl, rfl⟩
  · exact reads_none (r := .commit) ⟨rfl, rfl⟩
  · exact reads_none (r := .restart) ⟨rfl, rfl⟩

/-- A kind byte is one of the eleven, with the length of its body, or it reads as no request at all. -/
theorem readParams_kind (kind : Nat) :
    (∃ length, (kind, length) ∈ kindsAndLengths ∧ ∀ n, (kind, n) ∈ kindsAndLengths → n = length) ∨
      ((∀ n, (kind, n) ∉ kindsAndLengths) ∧ ∀ l, readParams kind l = none) := by
  by_cases h : 1 ≤ kind ∧ kind ≤ 11
  · left
    obtain ⟨hlo, hhi⟩ := h
    interval_cases kind <;> simp [kindsAndLengths]
  · right
    refine ⟨fun n hn => ?_, fun l => ?_⟩
    · simp only [kindsAndLengths, List.mem_cons, List.not_mem_nil, or_false, Prod.mk.injEq] at hn
      omega
    · obtain rfl | ⟨n, rfl⟩ : kind = 0 ∨ ∃ n, kind = n + 12 := by
        obtain h0 | h0 := Nat.eq_zero_or_pos kind
        · exact .inl h0
        · exact .inr ⟨kind - 12, by omega⟩
      · rfl
      · rfl

theorem readParams_eq_none_iff (kind : Nat) (l : List Byte) :
    readParams kind l = none ↔ (kind, l.length + 1) ∉ kindsAndLengths := by
  obtain ⟨length, hmem, honly⟩ | ⟨hno, hnone⟩ := readParams_kind kind
  · have hpos : 0 < length := by
      simp only [kindsAndLengths, List.mem_cons, List.not_mem_nil, or_false, Prod.mk.injEq] at hmem
      omega
    rw [(readParams_reads hmem).none_iff]
    refine not_congr ⟨fun hl => ?_, fun hl => ?_⟩
    · rw [hl, Nat.sub_add_cancel hpos]
      exact hmem
    · have := honly _ hl
      omega
  · exact ⟨fun _ => hno _, fun _ => hnone l⟩

theorem readParams_value {kind : Nat} {l : List Byte} {r : Request} (h : readParams kind l = some r) :
    r.isUnknown = false ∧ r.kind.toNat = kind := by
  obtain ⟨length, hmem, -⟩ | ⟨-, hnone⟩ := readParams_kind kind
  · exact (readParams_reads hmem).value l r h
  · rw [hnone] at h
    cases h

/-- Which bodies are of no kind, and that the kind byte is echoed (12.1, 12.4.1, R176). -/
theorem readRequest_unknown_iff (kind : Byte) (rest : List Byte) :
    (readRequest (kind :: rest) = .unknown kind ↔ (kind.toNat, rest.length + 1) ∉ kindsAndLengths) ∧
      (readRequest (kind :: rest)).kind = kind := by
  rw [← readParams_eq_none_iff, readRequest_cons]
  cases h : readParams kind.toNat rest with
  | none => exact ⟨⟨fun _ => rfl, fun _ => rfl⟩, rfl⟩
  | some r =>
    obtain ⟨hknown, hkind⟩ := readParams_value h
    refine ⟨⟨fun hr => ?_, nofun⟩, BitVec.eq_of_toNat_eq hkind⟩
    rw [show r = .unknown kind from hr] at hknown
    cases hknown

/-! ## A request of an unknown kind (R155 step 1) -/

theorem exec_seamFrameEnd_unknown {o : State} {source : Nat} {target kind : Byte} {line : List LineRun} {bytes rest : List Byte}
    (h : Heard o source target) (hown : o.seam.ownSent = false) (hread : readLine line = some bytes)
    (hframe : heardFrame o bytes = some ⟨kindRequest, source, target, kind :: rest⟩)
    (hunknown : readRequest (kind :: rest) = .unknown kind) :
    exec (.seamFrameEnd line) o = .next (settle (takeRequest source target (.unknown kind) (endFrame (ownTested source o)))) := by
  rw [exec_seamFrameEnd_read hown hread, endHeard_of_some hframe, hearFrame_of_heard h]
  show Host.Outcome.next (settle (takeRequest source target (readRequest (kind :: rest)) _)) = _
  rw [hunknown]

/-! ## Cell fields (R1, R2) -/

theorem cellOf_eq_none_iff (f : CellField) :
    cellOf f = none ↔
      (f.form ≠ 0#8 ∧ f.form ≠ 1#8) ∨ (f.form = 0#8 ∧ (31 < f.b1.toNat ∨ 31 < f.b2.toNat ∨ 2 < f.b3.toNat)) ∨
        (f.form = 1#8 ∧ 3072 ≤ be16 f.b2 f.b3) := by
  by_cases h0 : f.form = 0#8
  · simp only [cellOf, h0, if_true, ite_eq_right_iff, reduceCtorEq, imp_false]
    simp
    omega
  · by_cases h1 : f.form = 1#8
    · have hrange : cellOf f = none ↔ ¬be16 f.b2 f.b3 < Config.cellCount := by
        rw [cellOf, if_neg h0, if_pos h1]
        simp only [ite_eq_right_iff, reduceCtorEq, imp_false]
      rw [hrange, Nat.not_lt]
      simp [h1, Config.cellCount]
    · simp [cellOf, h0, h1]

theorem cellOf_eq_some {f : CellField} {c : Nat} (h : cellOf f = some c) :
    (f.form = 0#8 → c = (f.b1.toNat * 32 + f.b2.toNat) * 3 + f.b3.toNat) ∧ (f.form = 1#8 → c = be16 f.b2 f.b3) := by
  unfold cellOf at h
  refine ⟨fun h0 => ?_, fun h1 => ?_⟩
  · rw [if_pos h0] at h
    split at h
    · exact (Option.some.inj h).symm
    · cases h
  · rw [h1, if_neg (by decide), if_pos rfl] at h
    split at h
    · exact (Option.some.inj h).symm
    · cases h

/-! ## Operands (R43, R62) -/

theorem cellStateOfCode_of_ge {n : Nat} (h : 3 ≤ n) : cellStateOfCode n = none := by
  obtain ⟨m, rfl⟩ : ∃ m, n = m + 3 := ⟨n - 3, by omega⟩
  rfl

theorem targetFailed_of_some {s : State} {c d : Nat} {st : CellState} (h : drivenDie c st = some d) :
    targetFailed s c st = dieFailed s d := by rw [targetFailed, targetDie, h]

theorem targetFailed_of_none {s : State} {c : Nat} {st : CellState} (h : drivenDie c st = none) :
    targetFailed s c st = false := by rw [targetFailed, targetDie, h]

theorem targetFailed_endFrame (s : State) (c : Nat) (st : CellState) : targetFailed (endFrame s) c st = targetFailed s c st := rfl

theorem doForce_of_some {f : CellField} {code : Byte} {c : Nat} {st : CellState} (hcell : cellOf f = some c)
    (hst : cellStateOfCode code.toNat = some st) (source : Nat) (r : Request) (clear : Byte) (s : State) :
    doForce source r f code clear s =
      if targetFailed s c st && decide (clear = 0#8) then answer source r .dieFailed .empty s
      else answer source r .done .empty (carryForce c st s) := by
  rw [doForce, hcell, hst]

/-- The request list has the cell (R43). -/
theorem listed_eq_true_iff (s : State) (c : Nat) :
    s.health.requests.any (fun q => q.cell == c) = true ↔ ∃ q ∈ s.health.requests, q.cell = c := by
  simp only [List.any_eq_true, beq_iff_eq]

theorem listed_eq_false {s : State} {c : Nat} (h : ∀ q ∈ s.health.requests, q.cell ≠ c) :
    s.health.requests.any (fun q => q.cell == c) = false := by
  rw [Bool.eq_false_iff, Ne, listed_eq_true_iff]
  exact fun ⟨q, hq, hc⟩ => h q hq hc

theorem doProbe_of_listed {s : State} {source : Nat} {r : Request} {f : CellField} {c : Nat} (hcell : cellOf f = some c)
    (hlisted : ∃ q ∈ s.health.requests, q.cell = c) : doProbe source r f s = answer source r .done .empty s := by
  rw [doProbe, hcell]
  exact if_pos ((listed_eq_true_iff s c).mpr hlisted)

theorem doProbe_of_new {s : State} {source : Nat} {r : Request} {f : CellField} {c : Nat} (hcell : cellOf f = some c)
    (hnew : ∀ q ∈ s.health.requests, q.cell ≠ c) :
    doProbe source r f s =
      if s.health.requests.length < 8 then answer source r .done .empty (listProbe c s)
      else answer source r .queueFull .empty s := by
  rw [doProbe, hcell]
  exact if_neg (by rw [listed_eq_false hnew]; exact Bool.false_ne_true)

end Sys2Proof.Machine

/-! ## The statements -/

section
open Sys2Proof Sys2Proof.Machine

/-- Settles O44, by the steps of R155 in order. -/
theorem requestsAreRefusedInOrder : Obligations.RequestsAreRefusedInOrder := by
  unfold Obligations.RequestsAreRefusedInOrder
  refine ⟨fun o source target kind line bytes rest h hown hread hframe hunknown => ?_, readRequest_unknown_iff,
    fun o i source target r hi h hroom hstate hstatus => ?_,
    fun o i source target r hi h hroom hstate htarget hstatus hcommit hrestart => ?_,
    fun o i source target r hi h hroom hstate htarget hbusy hstatus hread => ?_, fun o i source target r hi h => ?_⟩
  · have hdec : requestDecision (endFrame (ownTested source o)) target (.unknown kind) = .refuse .badValue :=
      requestDecision_unknown _ target rfl
    refine ⟨_, exec_seamFrameEnd_unknown h hown hread hframe hunknown, fun hroom => ?_, fun hfull => ?_⟩
    · rw [takeRequest_refused hdec (by rw [endFrame_ownTested_port]; exact hroom)]
      exact answer_onlyReplied source (.unknown kind) .badValue .empty _
    · rw [takeRequest_dropped (by rw [hdec]; exact nofun) (by rw [endFrame_ownTested_port]; exact hfull)]
      exact frameEnded_endFrame _
  · have hdec : requestDecision (endFrame (ownTested source o)) target r = .refuse .notReady :=
      requestDecision_notReady target (requestOf_known hi) (by rw [endFrame_ownTested_sup]; exact hstate) hstatus
    refine ⟨_, exec_request_heard hi h, ?_⟩
    rw [takeRequest_refused hdec (by rw [endFrame_ownTested_port]; exact hroom)]
    exact answer_onlyReplied source r .notReady .empty _
  · have hlong : r.longKind = none := Option.eq_none_iff_forall_ne_some.mpr fun k hk =>
      ((longKind_eq_some_iff r k).mp hk).elim (fun p => hcommit p.1) fun p => hrestart p.1
    have hdec : requestDecision (endFrame (ownTested source o)) target r = .refuse .badTarget :=
      requestDecision_badTarget (requestOf_known hi) (by rw [endFrame_ownTested_sup]; exact hstate) htarget hstatus hlong
    refine ⟨_, exec_request_heard hi h, ?_⟩
    rw [takeRequest_refused hdec (by rw [endFrame_ownTested_port]; exact hroom)]
    exact answer_onlyReplied source r .badTarget .empty _
  · have hwaits : r.answeredWhileBusy = false := by
      cases r with
      | status => exact absurd rfl hstatus
      | readCell f => exact absurd rfl (hread f)
      | _ => rfl
    have htarget : target.toNat ≠ Config.allStations ∨ r.longKind.isSome = true :=
      htarget.imp_right fun hr => by obtain rfl | rfl := hr <;> rfl
    have hdec : requestDecision (endFrame (ownTested source o)) target r = .refuse .busy :=
      requestDecision_busy (requestOf_known hi) (by rw [endFrame_ownTested_sup]; exact hstate) htarget
        (by rw [endFrame_ownTested_port]; exact hbusy) hwaits
    refine ⟨_, exec_request_heard hi h, ?_⟩
    rw [takeRequest_refused hdec (by rw [endFrame_ownTested_port]; exact hroom)]
    exact answer_onlyReplied source r .busy .empty _
  · rintro executed (⟨⟨hkind, hstate, hrequest⟩, hlong⟩ | ⟨hnot, hfull⟩)
    · obtain ⟨k, hk⟩ : ∃ k, r.longKind = some k := by obtain rfl | rfl := hkind <;> exact ⟨_, rfl⟩
      have hdec : requestDecision (endFrame (ownTested source o)) target r = .long k :=
        requestDecision_long target hk (by rw [endFrame_ownTested_sup]; exact hstate) (by rw [endFrame_ownTested_port]; exact hrequest)
      refine ⟨_, exec_request_heard hi h, ?_⟩
      rw [takeRequest_long hdec, if_pos (by rw [endFrame_ownTested_port]; exact Option.isSome_iff_ne_none.mpr hlong)]
      exact frameEnded_endFrame _
    · have hdec : ∀ k, requestDecision (endFrame (ownTested source o)) target r ≠ .long k := fun k =>
        requestDecision_ne_long (by rw [endFrame_ownTested_sup, endFrame_ownTested_port]; exact hnot)
      refine ⟨_, exec_request_heard hi h, ?_⟩
      rw [takeRequest_dropped hdec (by rw [endFrame_ownTested_port]; exact hfull)]
      exact frameEnded_endFrame _

/-- Settles O45, by the check that each request makes of its operands. -/
theorem badOperandsAreRefused : Obligations.BadOperandsAreRefused := by
  unfold Obligations.BadOperandsAreRefused
  intro o source target h
  refine ⟨fun f code clear mode gain hcell i hi r hr => ?_, fun n hn => ?_, fun f code clear c hcell hcode => ?_,
    fun f code c d hcell hdie hfailed => ?_, fun f c hcell hfull hnew => ?_, cellOf_eq_none_iff, fun f c => cellOf_eq_some⟩
  · refine ⟨_, ?_, answer_onlyReplied source r .badCell .empty _⟩
    simp only [List.mem_cons, List.not_mem_nil, or_false] at hi
    obtain rfl | rfl | rfl | rfl | rfl := hi <;> cases hr
    · rw [exec_request_taken rfl h rfl, carryOut, doReadCell, hcell]
    · rw [exec_request_taken rfl h rfl, carryOut, doForce, hcell]
    · rw [exec_request_taken rfl h rfl, carryOut, doRelease, hcell]
    · rw [exec_request_taken rfl h rfl, carryOut, doSetGain, hcell]
    · rw [exec_request_taken rfl h rfl, carryOut, doProbe, hcell]
  · refine ⟨_, ?_, answer_onlyReplied source (.listFaults n.toNat) .badCell .empty _⟩
    rw [exec_request_taken rfl h rfl, carryOut, doListFaults, if_neg (Nat.not_lt.mpr hn)]
  · refine ⟨_, ?_, answer_onlyReplied source (.force f code clear) .badValue .empty _⟩
    rw [exec_request_taken rfl h rfl, carryOut, doForce, hcell, cellStateOfCode_of_ge hcode]
  · have htarget : ∃ st, cellStateOfCode code.toNat = some st ∧ drivenDie c st = some d := by
      obtain ⟨hcode, rfl⟩ | ⟨hcode, rfl⟩ := hdie
      · exact ⟨.primary, by rw [hcode]; rfl, rfl⟩
      · exact ⟨.spare, by rw [hcode]; rfl, rfl⟩
    obtain ⟨st, hst, hd⟩ := htarget
    refine ⟨_, ?_, answer_onlyReplied source (.force f code 0#8) .dieFailed .empty _⟩
    rw [exec_request_taken rfl h rfl, carryOut, doForce_of_some hcell hst, targetFailed_endFrame, targetFailed_of_some hd, hfailed]
    rfl
  · refine ⟨_, ?_, answer_onlyReplied source (.probe f) .queueFull .empty _⟩
    rw [exec_request_taken rfl h rfl, carryOut, doProbe_of_new (s := endFrame (ownTested source o)) hcell hnew]
    exact congrArg (fun u => Host.Outcome.next (settle u)) (if_neg (Nat.not_lt.mpr hfull))

end

end
section
/-! PROOF. The requests that change a cell, the request list or the settings (R43, R62 to R71, R96, R120, R159). -/

namespace Sys2Proof.Machine

/-! ## A change of a cell, and the reply to it -/

/-- `u` stands after a request that has changed cell `c` to `r`, with the effects of R68, on the state `s` behind the test of the
frame's source. -/
structure CellServed (s u : State) (c : Nat) (r : CellRec) (cause : Cause) : Prop where
  served : OnlyServed s u
  gov : u.gov = s.gov
  factoryGain : u.map.factoryGain = s.map.factoryGain
  cell : cellAt u c = r
  others : ∀ x, x ≠ c → cellAt u x = cellAt s x
  changed : Changed s u c cause
  triggered : isHole (cellAt s c) ≠ isHole r → Triggered s.conceal u
  untriggered : isHole (cellAt s c) = isHole r → u.conceal = s.conceal

theorem onlyServed_of_reportsOnly {s v : State} (h : ReportsOnly (endFrame s) v) (hsup : v.sup = s.sup) (hrx : v.rx = s.rx)
    (hscan : v.scan = s.scan) (hdrive : v.drive = s.drive) (hpending : v.pending = s.pending) : OnlyServed s v := by
  obtain ⟨hport, hseam⟩ := h
  refine ⟨hsup, hrx, hscan, hdrive, hpending, ?_, ?_, ?_, ?_, ?_, ?_, ?_, ?_, ?_, ?_⟩
  · rw [hseam]; rfl
  · intro e; rw [hseam]; rfl
  · rw [hseam]; rfl
  · rw [hseam]; rfl
  · rw [hseam]; rfl
  · rw [hport]; rfl
  · rw [hport]; rfl
  · rw [hport]; rfl
  · rw [hport]; rfl
  · rw [hport]; rfl

theorem changeCell_reportsOnly (c : Nat) (r : CellRec) (cause : Cause) (s : State) : ReportsOnly s (changeCell c r cause s) :=
  ReportsOnly.trans (ReportsOnly.trans (.of_same rfl rfl) (changeEffects_reportsOnly c cause (setCell c r s)))
    (triggerIf_reportsOnly _ _)

/-- A change of a cell behind the frame's end, on which nothing but the dies differs. -/
theorem changeCell_served {s t : State} {c : Nat} (hc : c < Config.cellCount)
    (ht : t = { endFrame s with health := { s.health with dies := t.health.dies } }) (r : CellRec) (cause : Cause) :
    CellServed s (changeCell c r cause t) c r cause := by
  have hsup : t.sup = s.sup := by rw [ht]; rfl
  have hrx : t.rx = s.rx := by rw [ht]; rfl
  have hscan : t.scan = s.scan := by rw [ht]; rfl
  have hdrive : t.drive = s.drive := by rw [ht]; rfl
  have hpending : t.pending = s.pending := by rw [ht]; rfl
  have hgov : t.gov = s.gov := by rw [ht]; rfl
  have hmap : t.map = s.map := by rw [ht]; rfl
  have hconceal : t.conceal = s.conceal := by rw [ht]; rfl
  have hport : t.port = (endFrame s).port := by rw [ht]
  have hseam : t.seam = (endFrame s).seam := by rw [ht]
  have hstore : t.store = (endFrame s).store := by rw [ht]
  have hcells : ∀ x, cellAt t x = cellAt s x := fun x => cellAt_congr _ _ _ (by rw [hmap])
  have hreports : ReportsOnly (endFrame s) (changeCell c r cause t) :=
    ReportsOnly.trans (.of_same hport hseam) (changeCell_reportsOnly c r cause t)
  have hchange : changeCell c r cause t =
      triggerIf (isHole (cellAt s c) != isHole r) (changeEffects c cause (setCell c r t)) := by rw [changeCell, hcells]
  obtain ⟨huntriggered, htriggered⟩ :=
    triggerIf_conceal (isHole (cellAt s c) != isHole r) (changeEffects c cause (setCell c r t))
  have hbase : (changeEffects c cause (setCell c r t)).conceal = s.conceal := by simpa [setCell] using hconceal
  rw [hbase, ← hchange] at huntriggered htriggered
  have hchanged : Changed (endFrame s) (changeEffects c cause (setCell c r t)) c cause :=
    changeEffects_changed c cause hport hseam hstore
  exact
    { served := onlyServed_of_reportsOnly hreports (by simpa using hsup) (by simpa using hrx) (by simpa using hscan)
        (by simpa using hdrive) (by simpa using hpending)
      gov := by simpa using hgov
      factoryGain := by simp [hmap]
      cell := by rw [cellAt_changeCell, if_pos ⟨rfl, hc⟩]
      others := fun x hx => by rw [cellAt_changeCell, if_neg fun h => hx h.1.symm, hcells]
      changed := by rw [hchange]; exact hchanged.congr (by simp) (by simp) (by simp) (by simp) (by simp)
      triggered := fun h => htriggered (bne_iff_ne.mpr h)
      untriggered := fun h => huntriggered (by rw [h, bne_self_eq_false']) }

/-- The reply leaves what the request has done. -/
theorem CellServed.answer {s v : State} {c : Nat} {r : CellRec} {cause : Cause} (h : CellServed s v c r cause) (source : Nat)
    (q : Request) (result : ReplyResult) (body : ReplyBody) : CellServed s (answer source q result body v) c r cause where
  served := h.served.answer source q result body
  gov := h.gov
  factoryGain := h.factoryGain
  cell := h.cell
  others := h.others
  changed := h.changed
  triggered := h.triggered
  untriggered := h.untriggered

/-! ## FORCE (R62 to R65) -/

theorem clearTarget_of_some {s : State} {c d : Nat} {st : CellState} (hd : drivenDie c st = some d) :
    clearTarget c st s = if dieFailed s d then clearDie d s else s := by rw [clearTarget, targetDie, hd]

theorem clearTarget_of_unfailed {s : State} {c : Nat} {st : CellState} (h : targetFailed s c st = false) :
    clearTarget c st s = s := by
  cases hd : drivenDie c st with
  | none => rw [clearTarget, targetDie, hd]
  | some d => rw [clearTarget_of_some hd, if_neg (by rw [← targetFailed_of_some hd, h]; exact Bool.false_ne_true)]

theorem clearTarget_eq (c : Nat) (st : CellState) (s : State) :
    clearTarget c st s = { s with health := { s.health with dies := (clearTarget c st s).health.dies } } := by
  unfold clearTarget
  split
  · rfl
  · split <;> rfl

/-- The target die is FAILED, and no HOLE has one (R62). -/
theorem targetFailed_iff (s : State) (c : Nat) (st : CellState) :
    targetFailed s c st = true ↔ ∃ d, drivenDie c st = some d ∧ dieFailed s d = true := by
  cases hd : drivenDie c st with
  | none => simp [targetFailed_of_none hd]
  | some d => simp [targetFailed_of_some hd]

theorem targetFailed_eq_false_iff (s : State) (c : Nat) (st : CellState) :
    targetFailed s c st = false ↔ ∀ d, drivenDie c st = some d → dieFailed s d = false := by
  rw [Bool.eq_false_iff, Ne, targetFailed_iff]
  simp

/-- The clearing of the target, by die (R63). -/
theorem dieAt_clearTarget {s : State} {c : Nat} (hc : c < Config.cellCount) (st : CellState) (d : Nat) :
    dieAt (clearTarget c st s) d =
      if drivenDie c st = some d ∧ dieFailed s d = true then { dieAt s d with health := .good, strike := 0 } else dieAt s d := by
  cases hd : drivenDie c st with
  | none => simp [clearTarget, targetDie, hd]
  | some e =>
    rw [clearTarget_of_some hd]
    cases hfailed : dieFailed s e with
    | true =>
      rw [if_pos rfl, clearDie, dieAt_setDie]
      by_cases he : e = d
      · subst he
        rw [if_pos ⟨rfl, drivenDie_lt hc hd⟩, if_pos ⟨rfl, hfailed⟩]
      · rw [if_neg fun h => he h.1, if_neg fun h => he (Option.some.inj h.1)]
    | false =>
      rw [if_neg Bool.false_ne_true, if_neg]
      rintro ⟨he, hd'⟩
      rw [← Option.some.inj he, hfailed] at hd'
      cases hd'

/-- The record a FORCE gives its cell (R63). -/
def forcedRecord (s : State) (c : Nat) (st : CellState) : CellRec := { cellAt s c with state := st, forced := true }

/-- A FORCE that changes the cell or clears a die has the effects of a change (R64, R68). -/
theorem carryForce_of_change {s : State} {c : Nat} {st : CellState} (hc : c < Config.cellCount)
    (h : forcedRecord s c st ≠ cellAt s c ∨ targetFailed s c st = true) :
    CellServed s (carryForce c st (endFrame s)) c (forcedRecord s c st) .forced ∧
      (carryForce c st (endFrame s)).health = (clearTarget c st (endFrame s)).health := by
  have hcarried : carryForce c st (endFrame s) =
      changeCell c (forcedRecord s c st) .forced (clearTarget c st (endFrame s)) := by
    refine if_neg fun hsame => ?_
    obtain ⟨hcell, htarget⟩ := hsame
    obtain h | h := h
    · exact h hcell
    · exact Bool.false_ne_true (htarget.symm.trans h)
  rw [hcarried]
  exact ⟨changeCell_served hc (clearTarget_eq c st (endFrame s)) _ _, by simp⟩

theorem carryForce_of_same {s : State} {c : Nat} {st : CellState}
    (hcell : forcedRecord s c st = cellAt s c) (htarget : targetFailed s c st = false) : carryForce c st s = s :=
  (if_pos ⟨hcell, htarget⟩).trans (clearTarget_of_unfailed htarget)

theorem onlyServed_listProbe (c : Nat) (s : State) : OnlyServed s (listProbe c (endFrame s)) :=
  ⟨rfl, rfl, rfl, rfl, rfl, rfl, fun _ => rfl, rfl, rfl, rfl, rfl, rfl, rfl, rfl, rfl⟩

/-! ## Settings (R96, R120, R159) -/

/-- A SET CONCEAL's effects (R96, R159). -/
def strengthSet (k : Nat) (s : State) : State := trigger (markSettings (s.setConceal { s.conceal with k := k }))

/-- A SET LIMIT's effects (R120, R159). -/
def limitSet (v : Nat) (s : State) : State := markSettings (s.setGov { s.gov with limit := v })

theorem clampLimit_eq (v : Nat) : clampLimit v = min 49136 v := rfl

theorem strengthSet_triggered (k : Nat) (s : State) : Triggered { s.conceal with k := k } (strengthSet k s) :=
  trigger_triggered (markSettings (s.setConceal { s.conceal with k := k }))

theorem strengthSet_eq (k : Nat) (s : State) :
    strengthSet k s =
      { s with conceal := (strengthSet k s).conceal, store := { s.store with settingsDirty := true } } :=
  trigger_eq (markSettings (s.setConceal { s.conceal with k := k }))

theorem exec_setConceal {o : State} {source : Nat} {target : Byte} (k : Byte) (h : Taken o source target) :
    exec (.setConceal source target k) o =
      .next (settle (answer source (.setConceal k.toNat) .done (.value8 k.toNat)
        (strengthSet k.toNat (endFrame (ownTested source o))))) := by
  rw [exec_request_taken rfl h rfl, carryOut, doSetConceal, strengthSet]

theorem exec_setLimit {o : State} {source : Nat} {target : Byte} (v : Half) (h : Taken o source target) :
    exec (.setLimit source target v) o =
      .next (settle (answer source (.setLimit v.toNat) .done (.value16 (min 49136 v.toNat))
        (limitSet (min 49136 v.toNat) (endFrame (ownTested source o))))) := by
  rw [exec_request_taken rfl h rfl, carryOut, doSetLimit, clampLimit_eq, limitSet]

end Sys2Proof.Machine

/-! ## The statements -/

section
open Sys2Proof Sys2Proof.Machine

/-- Settles O46, by whether the FORCE changes the cell or clears its die. -/
theorem forceIsCarriedOut : Obligations.ForceIsCarriedOut := by
  unfold Obligations.ForceIsCarriedOut
  intro o source target f code clear c st h hcell hst s hallowed
  have hc : c < Config.cellCount := cellOf_lt f c hcell
  have hpass : (targetFailed s c st && decide (clear = 0#8)) = false := by
    obtain hclear | hsound := hallowed
    · rw [decide_eq_false hclear, Bool.and_false]
    · rw [(targetFailed_eq_false_iff s c st).mpr hsound, Bool.false_and]
  have hexec : exec (.force source target f code clear) o =
      .next (settle (answer source (.force f code clear) .done .empty (carryForce c st (endFrame s)))) := by
    rw [exec_request_taken rfl h rfl, carryOut, doForce_of_some hcell hst, targetFailed_endFrame, hpass]
    rfl
  clear_value s
  refine ⟨_, hexec, answer_replied _ _ _ _ _, ?_⟩
  by_cases hchange : forcedRecord s c st ≠ cellAt s c ∨ targetFailed s c st = true
  · obtain ⟨hserved, hhealth⟩ := carryForce_of_change hc hchange
    generalize carryForce c st (endFrame s) = u at hserved hhealth
    have hdies : ∀ d, dieAt u d =
        if drivenDie c st = some d ∧ dieFailed s d = true then { dieAt s d with health := .good, strike := 0 } else dieAt s d :=
      fun d => (dieAt_congr _ _ _ (by rw [hhealth])).trans (dieAt_clearTarget (s := endFrame s) hc st d)
    have hanswered := hserved.answer source (.force f code clear) .done .empty
    refine ⟨hanswered.served, hserved.cell, hserved.others, hserved.factoryGain, fun d hd hfailed => ?_, fun d _ hother => ?_, ?_,
      hserved.gov, fun _ => hanswered.changed, fun hsame hsound => ?_, fun hhole => ?_, fun hhole => ?_⟩
    · exact (hdies d).trans (if_pos ⟨hd, hfailed⟩)
    · refine (hdies d).trans (if_neg ?_)
      rintro ⟨hd, hfailed⟩
      obtain hne | hsound := hother
      · exact hne hd
      · exact Bool.false_ne_true (hsound.symm.trans hfailed)
    · show u.health = { s.health with dies := u.health.dies }
      rw [hhealth]
      exact (congrArg State.health (clearTarget_eq c st (endFrame s)) :)
    · exact absurd hchange (not_or.mpr ⟨not_not_intro (hserved.cell.symm.trans hsame),
        (Bool.eq_false_iff.mp ((targetFailed_eq_false_iff s c st).mpr hsound))⟩)
    · exact hanswered.triggered (by rw [← hanswered.cell]; exact hhole)
    · exact hanswered.untriggered (by rw [← hanswered.cell]; exact hhole)
  · obtain ⟨hsame, hsound⟩ := not_or.mp hchange
    have hsame := not_not.mp hsame
    have hsound := Bool.eq_false_iff.mpr hsound
    have hdies := (targetFailed_eq_false_iff s c st).mp hsound
    rw [carryForce_of_same (s := endFrame s) hsame hsound]
    refine ⟨(onlyServed_endFrame s).answer _ _ _ _, hsame.symm, fun _ _ => rfl, rfl, fun d hd hfailed => ?_, fun _ _ _ => rfl, rfl,
      rfl, fun hchanged => ?_, fun _ _ => unchanged_endFrame s, fun hhole => absurd rfl hhole, fun _ => rfl⟩
    · exact absurd ((hdies d hd).symm.trans hfailed) Bool.false_ne_true
    · obtain hne | ⟨d, hd, hfailed⟩ := hchanged
      · exact absurd rfl hne
      · exact absurd ((hdies d hd).symm.trans hfailed) Bool.false_ne_true

/-- Settles O47, by whether the cell is forced, and whether the override is already so. -/
theorem releaseAndSetGainChangeTheCell : Obligations.ReleaseAndSetGainChangeTheCell := by
  unfold Obligations.ReleaseAndSetGainChangeTheCell
  intro o source target f c h hcell s
  have hc : c < Config.cellCount := cellOf_lt f c hcell
  have hrelease : exec (.release source target f) o =
      .next (settle (answer source (.release f) .done .empty (carryRelease c (endFrame s)))) := by
    rw [exec_request_taken rfl h rfl, carryOut, doRelease, hcell]
  have hgain : ∀ mode code, exec (.setGain source target f mode code) o =
      .next (settle (answer source (.setGain f mode code.toNat) .done
        (.value16 ((askedGain mode code.toNat).getD (factoryGainAt s c)))
        (carrySetGain c (askedGain mode code.toNat) (endFrame s)))) := fun mode code => by
    rw [exec_request_taken rfl h rfl, carryOut, doSetGain, hcell]
    rfl
  clear_value s
  refine ⟨⟨_, hrelease, answer_replied _ _ _ _ _, ?_⟩, fun mode code => ?_⟩
  · by_cases hforced : (cellAt s c).forced = true
    · have hcarried : carryRelease c (endFrame s) = changeCell c (releasedRecord s c) .released (endFrame s) := if_pos hforced
      have hserved := changeCell_served (t := endFrame s) hc rfl (releasedRecord s c) .released
      have hhealth : (changeCell c (releasedRecord s c) .released (endFrame s)).health = s.health := by simp
      rw [hcarried]
      generalize changeCell c (releasedRecord s c) .released (endFrame s) = u at hserved hhealth
      have hanswered := hserved.answer source (.release f) .done .empty
      refine ⟨hanswered.served, hhealth, hserved.gov, hserved.factoryGain, hserved.others,
        fun hfree => absurd (hforced.symm.trans hfree) Bool.false_ne_true.symm, fun _ => ⟨hserved.cell, hanswered.changed,
          fun hhole => ?_, fun hhole => ?_⟩⟩
      · exact hanswered.triggered (by rw [← hanswered.cell]; exact hhole)
      · exact hanswered.untriggered (by rw [← hanswered.cell]; exact hhole)
    · have hcarried : carryRelease c (endFrame s) = endFrame s := if_neg hforced
      rw [hcarried]
      exact ⟨(onlyServed_endFrame s).answer _ _ _ _, rfl, rfl, rfl, fun _ _ => rfl, fun _ => ⟨rfl, unchanged_endFrame s⟩,
        fun hf => absurd hf hforced⟩
  · intro g
    have hg : askedGain mode code.toNat = g := rfl
    refine ⟨_, hgain mode code, ?_⟩
    rw [hg]
    clear_value g
    refine ⟨answer_replied _ _ _ _ _, ?_⟩
    by_cases hsame : (cellAt s c).gain = g
    · have hcarried : carrySetGain c g (endFrame s) = endFrame s := if_pos hsame
      rw [hcarried]
      exact ⟨(onlyServed_endFrame s).answer _ _ _ _, rfl, rfl, rfl, rfl, fun _ _ => rfl, by rw [← hsame]; rfl,
        fun _ => unchanged_endFrame s, fun hne => absurd hsame hne⟩
    · have hcarried : carrySetGain c g (endFrame s) = changeCell c { cellAt s c with gain := g } .gainSet (endFrame s) :=
        if_neg hsame
      have hserved := changeCell_served (t := endFrame s) hc rfl { cellAt s c with gain := g } .gainSet
      have hhealth : (changeCell c { cellAt s c with gain := g } .gainSet (endFrame s)).health = s.health := by simp
      rw [hcarried]
      generalize changeCell c { cellAt s c with gain := g } .gainSet (endFrame s) = u at hserved hhealth
      have hanswered := hserved.answer source (.setGain f mode code.toNat) .done (.value16 (g.getD (factoryGainAt s c)))
      exact ⟨hanswered.served, hhealth, hserved.gov, hanswered.untriggered rfl, hserved.factoryGain, hserved.others, hserved.cell,
        fun heq => absurd heq hsame, fun _ => hanswered.changed⟩

/-- Settles O48, by the request list, and by the setting each request takes. -/
theorem probesAndSettingsAreTaken : Obligations.ProbesAndSettingsAreTaken := by
  unfold Obligations.ProbesAndSettingsAreTaken
  intro o source target h s
  refine ⟨fun f c hcell => ⟨fun hlisted => ?_, fun hnew hroom => ?_⟩, fun k => ?_, fun v => ?_⟩
  · refine ⟨_, ?_, answer_onlyReplied source (.probe f) .done .empty s⟩
    rw [exec_request_taken rfl h rfl, carryOut, doProbe_of_listed (s := endFrame s) hcell hlisted]
  · have hexec : exec (.probe source target f) o =
        .next (settle (answer source (.probe f) .done .empty (listProbe c (endFrame s)))) := by
      rw [exec_request_taken rfl h rfl, carryOut, doProbe_of_new (s := endFrame s) hcell hnew]
      exact congrArg (fun u => Host.Outcome.next (settle u)) (if_pos hroom)
    clear_value s
    exact ⟨_, hexec, answer_replied source (.probe f) .done .empty _,
      (onlyServed_listProbe c s).answer source (.probe f) .done .empty, ⟨rfl, rfl, rfl, rfl, rfl⟩, rfl, rfl, rfl⟩
  · have hexec : exec (.setConceal source target k) o = .next (settle
        (answer source (.setConceal k.toNat) .done (.value8 k.toNat) (strengthSet k.toNat (endFrame s)))) := exec_setConceal k h
    have htriggered := strengthSet_triggered k.toNat (endFrame s)
    have heq := strengthSet_eq k.toNat (endFrame s)
    clear_value s
    generalize strengthSet k.toNat (endFrame s) = u at hexec htriggered heq
    have hserved : OnlyServed s u := by rw [heq]; exact onlyServed_endFrame s
    have hport : u.port = s.port := by rw [heq]; rfl
    refine ⟨_, hexec, answer_replied source (.setConceal k.toNat) .done (.value8 k.toNat) u,
      hserved.answer source (.setConceal k.toNat) .done (.value8 k.toNat), htriggered.congr rfl rfl, ?_, ?_, ?_, ?_, ?_, ?_⟩
    · show u.store = _
      rw [heq]; rfl
    · show u.health = _
      rw [heq]; rfl
    · show u.map = _
      rw [heq]; rfl
    · show u.gov = _
      rw [heq]; rfl
    · exact congrArg (fun x : Port => { x with immediate := some ⟨source, 8#8, .done, 0, .value8 k.toNat, none⟩ }) hport
    · show u.seam.items.reportHead = _
      rw [heq]; rfl
  · have hexec : exec (.setLimit source target v) o = .next (settle (answer source (.setLimit v.toNat) .done
        (.value16 (min 49136 v.toNat)) (limitSet (min 49136 v.toNat) (endFrame s)))) := exec_setLimit v h
    have heq : limitSet (min 49136 v.toNat) (endFrame s) = { endFrame s with
        gov := { s.gov with limit := min 49136 v.toNat }
        store := { s.store with settingsDirty := true } } := rfl
    clear_value s
    generalize min 49136 v.toNat = limit at hexec heq ⊢
    generalize limitSet limit (endFrame s) = u at hexec heq
    have hserved : OnlyServed s u := by rw [heq]; exact onlyServed_endFrame s
    refine ⟨_, hexec, answer_replied source (.setLimit v.toNat) .done (.value16 limit) u,
      hserved.answer source (.setLimit v.toNat) .done (.value16 limit), ?_, ?_, ?_, ?_, ?_, ?_, ?_⟩
    · show u.gov = _
      rw [heq]
    · show u.store = _
      rw [heq]
    · show u.conceal = _
      rw [heq]; rfl
    · show u.health = _
      rw [heq]; rfl
    · show u.map = _
      rw [heq]; rfl
    · have hport : u.port = s.port := by rw [heq]; rfl
      exact congrArg (fun x : Port => { x with immediate := some ⟨source, 9#8, .done, 0, .value16 limit, none⟩ }) hport
    · show u.seam.items.reportHead = _
      rw [heq]; rfl

end

end
section
/-! PROOF. The taking of a long request into execution, and its judgement at once (R155, R160 to R162). -/

namespace Sys2Proof.Machine

/-- R161's table: a result is reached in FAULTED, at a LOW supply, or with nothing dirty and the store idle. -/
theorem longOutcome_eq (s : State) :
    longOutcome s =
      if s.store.state = .faulted ∨ s.sup.supply = .low ∨ (dirtyCount s = 0 ∧ s.store.state = .idle) then
        some (if s.store.state = .faulted then .storeFault else if s.sup.supply = .low then .supplyLow else .done, dirtyCount s)
      else none := by
  by_cases hfaulted : s.store.state = .faulted
  · rw [longOutcome_faulted hfaulted, if_pos (.inl hfaulted), if_pos hfaulted]
  by_cases hlow : s.sup.supply = .low
  · rw [longOutcome_low hfaulted hlow, if_pos (.inr (.inl hlow)), if_neg hfaulted, if_pos hlow]
  by_cases hclean : dirtyCount s = 0 ∧ s.store.state = .idle
  · rw [longOutcome, if_neg hfaulted, if_neg hlow, if_pos hclean, if_pos (.inr (.inr hclean)), if_neg hfaulted, if_neg hlow, hclean.1]
  · rw [longOutcome, if_neg hfaulted, if_neg hlow, if_neg hclean, if_neg]
    exact fun h => h.elim hfaulted fun h => h.elim hlow hclean

/-- The tile with a long request taken into execution, not yet judged (R160). -/
def executing (source : Nat) (k : LongKind) (s : State) : State :=
  s.setPort { s.port with request := some ⟨k, source, .executing⟩ }

theorem takeLong_eq (source : Nat) (k : LongKind) (s : State) : takeLong source k s = judgeLong (executing source k s) := rfl

theorem takeLong_of_some {s : State} {result : ReplyResult} {residual : Nat} (source : Nat) (k : LongKind)
    (h : longOutcome s = some (result, residual)) :
    takeLong source k s =
      pend .longReply
        (s.setPort
          { s.port with
            long := some ⟨source, k.byte, result, residual, .empty, none⟩
            request := if k = .commit then none else some ⟨k, source, .replying⟩ }) := by
  have hout : longOutcome (executing source k s) = some (result, residual) := h
  rw [takeLong_eq, judgeLong_answers (s := executing source k s) (r := ⟨k, source, .executing⟩) rfl rfl hout, afterResult_eq]
  rfl

theorem takeLong_of_none {s : State} (source : Nat) (k : LongKind) (h : longOutcome s = none) :
    takeLong source k s = executing source k s := judgeLong_of_outcome_none (s := executing source k s) h

end Sys2Proof.Machine

/-! ## The statement -/

section
open Sys2Proof Sys2Proof.Machine

/-- Settles O49, by R161's table on the store, the supply and the dirty count. -/
theorem longRequestsAreJudged : Obligations.LongRequestsAreJudged := by
  unfold Obligations.LongRequestsAreJudged
  intro o i k source target hi h hstate hrequest s
  obtain ⟨r, hi, hk⟩ : ∃ r, requestOf i = some (source, target, r) ∧ r.longKind = some k := by
    obtain ⟨rfl, rfl⟩ | ⟨rfl, rfl⟩ := hi
    · exact ⟨.commit, rfl, rfl⟩
    · exact ⟨.restart, rfl, rfl⟩
  have hdec : requestDecision (endFrame s) target r = .long k :=
    requestDecision_long target hk (by rw [endFrame_ownTested_sup]; exact hstate) (by rw [endFrame_ownTested_port]; exact hrequest)
  have hexec : exec i o = .next (settle (if (endFrame s).port.long.isSome then endFrame s else takeLong source k (endFrame s))) := by
    rw [exec_request_heard hi h, takeRequest_long hdec]
  clear_value s
  refine ⟨_, hexec, fun hfull => ?_, fun hroom => ?_⟩
  · rw [if_pos (show (endFrame s).port.long.isSome = true from Option.isSome_iff_ne_none.mpr hfull)]
    exact frameEnded_endFrame s
  · have hfree : ¬(endFrame s).port.long.isSome = true := by
      rw [show (endFrame s).port.long = none from hroom]
      exact Bool.false_ne_true
    rw [if_neg hfree]
    intro ended result
    have hout : longOutcome (endFrame s) = if ended then some (result, dirtyCount s) else none := longOutcome_eq (endFrame s)
    by_cases hended : ended
    · rw [if_pos hended] at hout
      rw [takeLong_of_some source k hout]
      exact ⟨fun _ => ⟨rfl, rfl⟩, fun hnot => absurd hended hnot, rfl⟩
    · rw [if_neg hended] at hout
      rw [takeLong_of_none source k hout]
      exact ⟨fun h => absurd h hended, fun _ => ⟨rfl, rfl⟩, rfl⟩

end

end
section
/-! PROOF. The fault list, and the host that follows its continuation (R158). -/

namespace Sys2Proof.Machine

/-! ## The first entries of an ascending list -/

/-- In an ascending list, what the first `n` entries leave out lies above them, and they are `n`. -/
theorem mem_take_or_above {l : List Nat} (h : l.Pairwise (· < ·)) {n c : Nat} (hc : c ∈ l) :
    c ∈ l.take n ∨ ((l.take n).length = n ∧ ∀ x ∈ l.take n, x < c) := by
  rw [← List.take_append_drop n l] at h hc
  obtain hc | hc := List.mem_append.mp hc
  · exact .inl hc
  · right
    refine ⟨?_, fun x hx => (List.pairwise_append.mp h).2.2 x hx c hc⟩
    have hpos : 0 < (l.drop n).length := List.length_pos_of_mem hc
    rw [List.length_drop] at hpos
    rw [List.length_take]
    omega

/-! ## The list (R158) -/

theorem isFault_iff (r : CellRec) : isFault r = true ↔ r.state ≠ .primary ∨ r.forced = true := by
  simp only [isFault, Bool.or_eq_true, decide_eq_true_eq]

/-- The cells from the start index on that the list may name, in ascending order. -/
def faultsFrom (s : State) (start : Nat) : List Nat := (tindexes isFault s.map.cells).filter (fun c => start ≤ c)

theorem faultList_eq (s : State) (start : Nat) : faultList s start = (faultsFrom s start).take 12 := rfl

theorem mem_faultsFrom (s : State) (start c : Nat) :
    c ∈ faultsFrom s start ↔
      start ≤ c ∧ c < Config.cellCount ∧ ((cellAt s c).state ≠ .primary ∨ (cellAt s c).forced = true) := by
  rw [faultsFrom, List.mem_filter, mem_tindexes isFault s.map.cells c CellRec.fresh, decide_eq_true_eq, isFault_iff, and_comm]
  rfl

theorem faultsFrom_ascending (s : State) (start : Nat) : (faultsFrom s start).Pairwise (· < ·) :=
  (tindexes_sorted isFault s.map.cells).filter _

theorem faultContinuation_of_last {listed : List Nat} {c : Nat} (h : listed.getLast? = some c) :
    faultContinuation listed = if listed.length = 12 ∧ c < 3071 then some (c + 1) else none := by
  rw [faultContinuation, h]
  rfl

/-- A continuation is the index behind the last of 12 cells. -/
theorem faultContinuation_eq_some {listed : List Nat} {n : Nat} (h : faultContinuation listed = some n) :
    ∃ c, listed.getLast? = some c ∧ listed.length = 12 ∧ c < 3071 ∧ n = c + 1 := by
  cases hlast : listed.getLast? with
  | none =>
    rw [faultContinuation, hlast] at h
    cases h
  | some c =>
    rw [faultContinuation_of_last hlast] at h
    split at h
    · next hfull => exact ⟨c, rfl, hfull.1, hfull.2, (Option.some.inj h).symm⟩
    · cases h

end Sys2Proof.Machine

/-! ## The statement -/

section
open Sys2Proof Sys2Proof.Machine

/-- Settles O43: the list is the first 12 of the ascending cells that qualify. -/
theorem faultListMissesNoCell : Obligations.FaultListMissesNoCell := by
  unfold Obligations.FaultListMissesNoCell
  intro s start
  have hascending := faultsFrom_ascending s start
  rw [faultList_eq]
  have hlisted : ∀ c, c ∈ (faultsFrom s start).take 12 → c ∈ faultsFrom s start := fun c => List.mem_of_mem_take
  refine ⟨List.length_take_le _ _, hascending.sublist (List.take_sublist _ _), fun c hc => (mem_faultsFrom s start c).mp (hlisted c hc),
    fun c hstart hc hfault => ?_, fun n hn => ?_, fun c => faultContinuation_of_last⟩
  · obtain hmem | ⟨hfull, habove⟩ := mem_take_or_above (n := 12) hascending ((mem_faultsFrom s start c).mpr ⟨hstart, hc, hfault⟩)
    · exact .inl hmem
    · obtain ⟨d, hd⟩ : ∃ d, ((faultsFrom s start).take 12).getLast? = some d := by
        rw [← Option.ne_none_iff_exists']
        intro hnone
        rw [List.getLast?_eq_none_iff.mp hnone] at hfull
        cases hfull
      have hdc : d < c := habove d (List.mem_of_getLast? hd)
      have hc : c < 3072 := hc
      exact .inr ⟨d + 1, by rw [faultContinuation_of_last hd, if_pos ⟨hfull, by omega⟩], hdc⟩
  · obtain ⟨c, hlast, hfull, hc, rfl⟩ := faultContinuation_eq_some hn
    have hmem := List.mem_of_getLast? hlast
    obtain ⟨hstart, -, -⟩ := (mem_faultsFrom s start c).mp (hlisted c hmem)
    exact ⟨hfull, Nat.lt_succ_of_le hstart, Nat.succ_lt_succ hc, hmem⟩

end

end
section
/-! PROOF. The tile status record, the cell record and the codes they carry (R157, R158, 12.1, 12.4.2). -/

namespace Sys2Proof.Machine

/-! ## Fields of one and of two bytes -/

theorem be16_bytes (n : Nat) : be16 (byteOf (n / 256)) (byteOf n) = n % 65536 := by
  simp only [be16, byteOf_toNat]
  omega

theorem byteOf_of_lt {n : Nat} (h : n < 256) : (byteOf n).toNat = n := by rw [byteOf_toNat, Nat.mod_eq_of_lt h]

theorem flagByte_toNat (b : Bool) : (flagByte b).toNat = if b then 1 else 0 := by cases b <;> rfl

theorem SupState.code_lt (x : SupState) : x.code < 256 := by cases x <;> decide
theorem ResetCause.code_lt (x : ResetCause) : x.code < 256 := by cases x <;> decide
theorem SupplyState.code_lt (x : SupplyState) : x.code < 256 := by cases x <;> decide
theorem LinkState.code_lt (x : LinkState) : x.code < 256 := by cases x <;> decide
theorem StoreState.code_lt (x : StoreState) : x.code < 256 := by cases x <;> decide
theorem CellState.code_lt (x : CellState) : x.code < 256 := by cases x <;> decide
theorem Health.code_lt (x : Health) : x.code < 256 := by cases x <;> decide
theorem ProbeOutcome.code_lt (x : ProbeOutcome) : x.code < 256 := by cases x <;> decide

theorem farCode_eq (r : FarEdge) : farCode r = if r.present = false then 0 else if r.valid = false then 1 else 2 := by
  unfold farCode
  cases r.present <;> cases r.valid <;> rfl

theorem farCode_le (r : FarEdge) : farCode r ≤ 2 := by
  rw [farCode_eq]
  split
  · decide
  · split <;> decide

theorem farByte_toNat (far : PerEdge FarEdge) :
    (farByte far).toNat = farCode far.left * 64 + farCode far.right * 16 + farCode far.top * 4 + farCode far.bottom := by
  have hl := farCode_le far.left
  have hr := farCode_le far.right
  have ht := farCode_le far.top
  have hb := farCode_le far.bottom
  exact byteOf_of_lt (by omega)

theorem tcount_le {α : Type} {n : Nat} (p : α → Bool) (v : Vector α n) : tcount p v ≤ n := by
  simpa [tcount] using List.countP_le_length (p := p) (l := v.toList)

/-- A count over at most 65,535 places fills its two bytes. -/
theorem be16_tcount {α : Type} {n : Nat} (p : α → Bool) (v : Vector α n) (hn : n < 65536) :
    be16 (byteOf (tcount p v / 256)) (byteOf (tcount p v)) = tcount p v :=
  be16_byteOf _ (Nat.lt_of_le_of_lt (tcount_le p v) hn)

theorem dirtyCount_le (s : State) : dirtyCount s ≤ 3073 := by
  have hle : tcount id s.store.dirty ≤ 3072 := tcount_le id s.store.dirty
  unfold dirtyCount
  split <;> omega

/-- The findings byte, bit by bit (12.4.2, offset 3). -/
theorem findingsByte_bits (f : Findings) :
    (findingsByte f).getLsbD 0 = f.strapFault ∧ (findingsByte f).getLsbD 1 = f.factoryFault ∧
      (findingsByte f).getLsbD 2 = f.settingsDefaulted ∧ (findingsByte f).getLsbD 3 = decide (0 < f.tornSlots) ∧
      (findingsByte f).getLsbD 4 = f.chainFault ∧ (findingsByte f).getLsbD 5 = f.readyTimeout ∧
      (findingsByte f).getLsbD 6 = false ∧ (findingsByte f).getLsbD 7 = false := by
  have hbits : ∀ a b c d e g : Bool,
      let x := byteOf ((if a then 1 else 0) + (if b then 2 else 0) + (if c then 4 else 0) + (if d then 8 else 0) +
        (if e then 16 else 0) + (if g then 32 else 0))
      x.getLsbD 0 = a ∧ x.getLsbD 1 = b ∧ x.getLsbD 2 = c ∧ x.getLsbD 3 = d ∧ x.getLsbD 4 = e ∧ x.getLsbD 5 = g ∧
        x.getLsbD 6 = false ∧ x.getLsbD 7 = false := by decide
  have htorn : (if 0 < f.tornSlots then 8 else 0) = if decide (0 < f.tornSlots) then 8 else 0 := by simp
  rw [findingsByte, htorn]
  exact hbits _ _ _ _ _ _

/-! ## The peer entries (12.4.2, offset 39) -/

theorem length_flatMap_peerBytes (ps : List Peer) : (ps.flatMap peerBytes).length = 3 * ps.length := by
  induction ps with
  | nil => rfl
  | cons p ps ih =>
    rw [List.flatMap_cons, List.length_append, ih, List.length_cons]
    show 3 + _ = _
    omega

theorem getD_flatMap_peerBytes {ps : List Peer} {i : Nat} {p : Peer} (h : ps[i]? = some p) {j : Nat} (hj : j < 3) :
    (ps.flatMap peerBytes).getD (3 * i + j) 0#8 = (peerBytes p).getD j 0#8 := by
  induction ps generalizing i with
  | nil => cases h
  | cons q qs ih =>
    rw [List.flatMap_cons]
    cases i with
    | zero =>
      obtain rfl : q = p := Option.some.inj h
      rw [Nat.mul_zero, Nat.zero_add]
      exact List.getD_append _ _ _ _ hj
    | succ i =>
      have hright := List.getD_append_right (peerBytes q) (qs.flatMap peerBytes) 0#8 (3 * (i + 1) + j)
        (show 3 ≤ 3 * (i + 1) + j by omega)
      rw [hright, show 3 * (i + 1) + j - (peerBytes q).length = 3 * i + j from by show 3 * (i + 1) + j - 3 = _; omega]
      exact ih h

/-! ## The records, field by field -/

/-- Offsets 0 to 8. -/
def supervisorFields (s : State) : List Byte :=
  [byteOf s.seam.own, byteOf s.sup.state.code, byteOf s.sup.cause.code, findingsByte s.sup.findings] ++
  [byteOf (s.sup.findings.tornSlots / 256), byteOf s.sup.findings.tornSlots, byteOf s.sup.supply.code, byteOf s.rx.link.code,
    flagByte s.scan.blank]

/-- Offsets 9 to 17. -/
def cellFields (s : State) : List Byte :=
  [byteOf (countState s .spare / 256), byteOf (countState s .spare), byteOf (countState s .hole / 256),
    byteOf (countState s .hole)] ++
  [byteOf (countForced s / 256), byteOf (countForced s), byteOf (countSuspect s / 256), byteOf (countSuspect s),
    byteOf s.health.anomalyRun]

/-- Offsets 18 to 28. -/
def loadFields (s : State) : List Byte :=
  [byteOf (s.drive.clip / 256), byteOf s.drive.clip, byteOf (s.drive.load / 256), byteOf s.drive.load,
    byteOf (s.gov.factor / 256), byteOf s.gov.factor] ++
  [byteOf (s.gov.estimate / 256), byteOf s.gov.estimate, flagByte s.gov.overFlag, byteOf (s.gov.limit / 256), byteOf s.gov.limit]

/-- Offsets 29 to 38. -/
def queueFields (s : State) : List Byte :=
  [byteOf s.conceal.k, farByte s.conceal.far, flagByte s.conceal.mismatch, byteOf s.store.state.code] ++
  [byteOf (dirtyCount s / 256), byteOf (dirtyCount s), byteOf s.port.queue.length, byteOf (countMarks s / 256),
    byteOf (countMarks s), byteOf s.gov.peers.length]


theorem statusRecord_eq (s : State) :
    statusRecord s = supervisorFields s ++ (cellFields s ++ (loadFields s ++ (queueFields s ++ s.gov.peers.flatMap peerBytes))) := by
  unfold statusRecord
  simp only [supervisorFields, cellFields, loadFields, queueFields, bytes16, List.cons_append, List.nil_append]

theorem length_statusRecord (s : State) : (statusRecord s).length = 39 + 3 * s.gov.peers.length := by
  have hlengths : (supervisorFields s).length = 9 ∧ (cellFields s).length = 9 ∧ (loadFields s).length = 11 ∧
      (queueFields s).length = 10 := ⟨rfl, rfl, rfl, rfl⟩
  obtain ⟨h1, h2, h3, h4⟩ := hlengths
  rw [statusRecord_eq]
  simp only [List.length_append, h1, h2, h3, h4, length_flatMap_peerBytes]
  omega

/-- Behind its 39 bytes the record holds the peer entries. -/
theorem statusRecord_peer {s : State} {i : Nat} {p : Peer} (h : s.gov.peers[i]? = some p) {j : Nat} (hj : j < 3) :
    (statusRecord s).getD (39 + 3 * i + j) 0#8 = (peerBytes p).getD j 0#8 := by
  rw [statusRecord_eq, List.getD_append_right _ _ _ _ (show 9 ≤ 39 + 3 * i + j by omega),
    List.getD_append_right _ _ _ _ (show 9 ≤ 39 + 3 * i + j - 9 by omega),
    List.getD_append_right _ _ _ _ (show 11 ≤ 39 + 3 * i + j - 9 - 9 by omega),
    List.getD_append_right _ _ _ _ (show 10 ≤ 39 + 3 * i + j - 9 - 9 - 11 by omega)]
  have hindex : 39 + 3 * i + j - (supervisorFields s).length - (cellFields s).length - (loadFields s).length -
      (queueFields s).length = 3 * i + j := by
    show 39 + 3 * i + j - 9 - 9 - 11 - 10 = _
    omega
  rw [hindex]
  exact getD_flatMap_peerBytes h hj

/-- The fields of a cell record. -/
theorem cellRecordBytes_eq (s : State) (c : Nat) :
    cellRecordBytes s c =
      [byteOf (c / 256), byteOf c, byteOf (cellAt s c).state.code, flagByte (cellAt s c).forced,
        byteOf ((cellAt s c).gain.getD 0 / 256), byteOf ((cellAt s c).gain.getD 0),
        byteOf ((cellAt s c).gain.getD (factoryGainAt s c) / 256), byteOf ((cellAt s c).gain.getD (factoryGainAt s c)),
        flagByte (cellAt s c).gain.isSome] ++
      (dieBytes (dieAt s (primaryDie c)) ++ (dieBytes (dieAt s (spareDie c)) ++ (entryBytes (activeEntry s c) ++
        [flagByte (tget s.store.dirty c false), flagByte (tget s.port.marks c false), flagByte (queued s c)]))) := by
  simp only [cellRecordBytes, List.append_assoc]
  rfl

end Sys2Proof.Machine

/-! ## The statement -/

section
open Sys2Proof Sys2Proof.Machine

/-- Settles O42, field by field. -/
theorem recordsHoldTheirFields : Obligations.RecordsHoldTheirFields := by
  unfold Obligations.RecordsHoldTheirFields
  refine ⟨fun s => ?_, fun s c hc => ?_, fun s r body hfixed => ?_, fun s t r => rfl, ?_, farCode_eq, fun n st => ?_⟩
  · have hlength := length_statusRecord s
    have hpeer : ∀ (i : Nat) (p : Peer), s.gov.peers[i]? = some p → ∀ j, j < 3 →
        (statusRecord s).getD (39 + 3 * i + j) 0#8 = (peerBytes p).getD j 0#8 := fun i p hp j => statusRecord_peer hp
    have hfindings := findingsByte_bits s.sup.findings
    rw [statusRecord_eq] at hlength hpeer ⊢
    intro b w finding
    refine ⟨hlength, byteOf_toNat _, byteOf_of_lt (SupState.code_lt _), byteOf_of_lt (ResetCause.code_lt _), hfindings, be16_bytes _,
      byteOf_of_lt (SupplyState.code_lt _), byteOf_of_lt (LinkState.code_lt _), flagByte_toNat _, be16_tcount _ _ (by decide),
      be16_tcount _ _ (by decide), be16_tcount _ _ (by decide), be16_tcount _ _ (by decide), byteOf_toNat _, be16_bytes _, be16_bytes _,
      be16_bytes _, be16_bytes _, flagByte_toNat _, be16_bytes _, byteOf_toNat _, farByte_toNat _, flagByte_toNat _,
      byteOf_of_lt (StoreState.code_lt _), be16_byteOf _ (Nat.lt_of_le_of_lt (dirtyCount_le s) (by decide)), byteOf_toNat _,
      be16_tcount _ _ (by decide), byteOf_toNat _, fun i p hp => ⟨?_, ?_⟩⟩
    · exact (congrArg BitVec.toNat (hpeer i p hp 0 (by decide))).trans (byteOf_toNat p.station)
    · have hhi := hpeer i p hp 1 (by decide)
      have hlo := hpeer i p hp 2 (by decide)
      rw [show 39 + 3 * i + 1 = 40 + 3 * i by omega] at hhi
      rw [show 39 + 3 * i + 2 = 40 + 3 * i + 1 by omega] at hlo
      exact (congrArg₂ be16 hhi hlo).trans (be16_bytes p.load)
  · have hc : c < 65536 := Nat.lt_trans hc (by decide)
    have hqueued : (flagByte (queued s c)).toNat = if ∃ r ∈ s.port.queue, r.cell = c then 1 else 0 :=
      (flagByte_toNat _).trans (if_congr (queued_iff s c) rfl rfl)
    rw [cellRecordBytes_eq]
    generalize activeEntry s c = entry
    cases entry <;> intro b w <;>
      exact ⟨rfl, be16_byteOf c hc, byteOf_of_lt (CellState.code_lt _), flagByte_toNat _, be16_bytes _, be16_bytes _, flagByte_toNat _,
        byteOf_of_lt (Health.code_lt _), byteOf_toNat _, be16_bytes _, byteOf_of_lt (ProbeOutcome.code_lt _),
        byteOf_of_lt (Health.code_lt _), byteOf_toNat _, be16_bytes _, byteOf_of_lt (ProbeOutcome.code_lt _),
        congrArg (Prod.mk _) (be16_bytes _), flagByte_toNat _, flagByte_toNat _, hqueued⟩
  · rw [replyBytes, hfixed]
  · exact ⟨rfl, rfl, rfl, rfl, rfl, rfl, rfl, rfl, rfl, rfl, rfl, rfl⟩
  · constructor
    · intro h
      unfold cellStateOfCode at h
      split at h <;> cases h <;> rfl
    · rintro rfl
      cases st <;> rfl

end

end
